-- ==== Sys2Proof/Word.lean ====
section
/-! DEFINITION. The bit-level words of the loom link (R4, R7) and the one value that means no valid reading. -/

namespace Sys2Proof

/-- One character of the link: eight data bits (R1). -/
abbrev Byte := BitVec 8

/-- One lane of a frame: a 12-bit value (R7). Sample slots and live readings keep this form. -/
abbrev Lane := BitVec 12

/-- NO-READING: the value 4095, wherever a reading is carried (00_scope.md, Conventions). -/
abbrev noReading : Lane := 4095#12

/-- The two link ports of the hub (chapter 1). -/
inductive PortId where
  | fore
  | aft
  deriving DecidableEq, Repr

/-- The port opposite (R11). -/
def PortId.opposite : PortId → PortId
  | .fore => .aft
  | .aft => .fore

end Sys2Proof
end

