-- ==== Sys2Proof/Syntax.lean ====
section
/-! DEFINITION. The commands of the hub: one constructor for each row of spec/opcode_table.json, with the operands
that the outside supplies (assumption log 1, 2). -/

namespace Sys2Proof

/-- The three flash sources (R113). -/
inductive SourceId where
  | left
  | right
  | hazard
  deriving DecidableEq, Repr

/-- What the hub reads from outside at the end of a supply reset: the four node straps (R17), and the device supply in
millivolts as the monitor takes its first sample (R148). The levels of the local pins are kept in the state. -/
structure StartInputs where
  straps : BitVec 4
  supply : Nat
  deriving DecidableEq, Repr

/-- Who asked and how to answer: the port a request arrived on, the source field of its frame and its ticket, which is
lane 0 (R21, R173). -/
structure Requester where
  port : PortId
  source : BitVec 4
  ticket : Lane
  deriving DecidableEq, Repr

/-- The two WRITE requests that reach a waiting teach sequence (R187). -/
inductive TeachWrite where
  /-- a WRITE of the teach gauge field of the hub table -/
  | gaugeField (value : BitVec 24)
  /-- a WRITE to an entry of the gauge table; it matters to the teach sequence when it is the teach gauge's -/
  | gaugeEntry (index : BitVec 8) (field : Lane) (value : BitVec 24)
  deriving DecidableEq, Repr

/-- The commands: one constructor per row of the opcode table, in the table's order. The rows that are requests carry
the requester and the request's lanes from lane 1 onward. -/
inductive Instr where
  | frameBoundary (port : PortId)
  | transmitStart (port : PortId)
  | transmissionCompletion (port : PortId) (atRestart : StartInputs)
  | resetEntry
  | resetEnd (inputs : StartInputs)
  | localSample (an0 an1 an2 an3 : Lane)
  | slotAgeExpiry (slot : Fin 16)
  | podTimeoutExpiry (pod : Fin 8)
  | localPinChange (input : Fin 9) (level : Bool)
  | debounceHoldExpiry (input : Fin 9)
  | currentSample (output : Fin 12) (tens : Nat)
  | softStartCount (output : Fin 12)
  | checkWindowOpen (output : Fin 12)
  | retryExpiry (output : Fin 12)
  | fanSlewStep
  | stallExpiry (output : Fin 12)
  | phaseExpiry (source : SourceId)
  | gapExpiry (output : Fin 12)
  | modulatorStep
  | vsUpdate (sample : Nat)
  | enterTimerExpiry
  | restoreTimerExpiry
  | uptimeTick
  | refreshExpiry
  | ident (r : Requester) (lanes : List Lane)
  | read (r : Requester) (lanes : List Lane)
  | write (r : Requester) (lanes : List Lane)
  | curvePointWrite (r : Requester) (curve : BitVec 8) (field : Lane) (value : BitVec 24)
  | slotConfigWrite (r : Requester) (slot : BitVec 8) (field : Lane) (value : BitVec 24)
  | podTimeoutWrite (r : Requester) (pod : BitVec 8) (value : BitVec 24)
  | conditionWrite (r : Requester) (entry : BitVec 8) (field : Lane) (value : BitVec 24)
  | loadEntryWrite (r : Requester) (output : BitVec 8) (field : Lane) (value : BitVec 24)
  | gaugeEntryWrite (r : Requester) (channel : BitVec 8) (field : Lane) (value : BitVec 24)
  | detectMaskWrite (r : Requester) (value : BitVec 24)
  | refreshWrite (r : Requester) (value : BitVec 24)
  | teachGaugeWrite (r : Requester) (target : TeachWrite)
  | openCurve (r : Requester) (lanes : List Lane)
  | closeCurve (r : Requester) (lanes : List Lane)
  | commit (r : Requester) (lanes : List Lane)
  | commitCompletion (verified : Bool)
  | readLive (r : Requester) (lanes : List Lane)
  | clearFaults (r : Requester) (lanes : List Lane)
  | readCapture (r : Requester) (lanes : List Lane)
  | releaseCapture (r : Requester) (lanes : List Lane)
  | restart (r : Requester) (lanes : List Lane)
  | teachPinChange (high : Bool)
  | teachHoldExpiry
  | teachLockoutExpiry
  | windowExpiry
  | characterStart (port : PortId) (byte : Byte)
  | characterFault (port : PortId)
  deriving DecidableEq, Repr

end Sys2Proof
end

