-- ==== Sys2Proof/Decode.lean ====
section
/-! DEFINITION. The opcode table gives none of its rows any bits: no word spells a command (assumption log 1). -/

namespace Sys2Proof

/-- The command a word spells by the table's bits. No row of spec/opcode_table.json has bits, so none. -/
def decodeTableWord (_nbits _w : Nat) : Option Instr := none

end Sys2Proof
end

