-- ==== Sys2Proof/Machine/Tables.lean ====
section
/-! DEFINITION. The configuration tables 0 to 9 (R176): the words their fields take, one structure per entry, and the
defaults a hub without a valid image starts on (R181). -/

namespace Sys2Proof.Machine

/-- The class of a frame (R7). -/
inductive FrameKind where
  | state
  | sample
  | order
  | mgmt
  | report
  deriving DecidableEq, Repr

/-- What a match entry makes of a frame on the link (R24, R25, R26). -/
inductive Disposition where
  | pass
  | drop
  | cook
  deriving DecidableEq, Repr

/-- Which lanes COOK rewrites (R27). -/
inductive CookScope where
  | all
  | lane0
  deriving DecidableEq, Repr

/-- The local block a match entry delivers to (R29). -/
inductive Feed where
  | none
  | pod (p : Fin 8)
  | slots
  | obey
  deriving DecidableEq, Repr

/-- One entry of the match table (R19); a key of `none` is ANY. -/
structure MatchEntry where
  valid : Bool
  kindKey : Option FrameKind
  sourceKey : Option (BitVec 4)
  tagKey : Option (BitVec 4)
  portKey : Option PortId
  disposition : Disposition
  curve : Fin 8
  scope : CookScope
  feed : Feed
  deriving DecidableEq, Repr

/-- The state of a curve (R36, R37). -/
inductive CurveState where
  | edit
  | inService
  deriving DecidableEq, Repr

/-- One point of a curve (R36). -/
structure Point where
  x : Nat
  y : Nat
  deriving DecidableEq, Repr

/-- One curve: point count, nine points, state (R36). -/
structure Curve where
  count : Nat
  points : Vector Point 9
  state : CurveState
  deriving DecidableEq, Repr

/-- Where a sample slot takes its reading from (R45). -/
inductive SlotBinding where
  | none
  | link
  | loc
  deriving DecidableEq, Repr

/-- Whether a LINK slot takes its lane as it arrived or as it leaves (R31). -/
inductive SlotTake where
  | raw
  | cooked
  deriving DecidableEq, Repr

/-- The configuration of one sample slot (R45). -/
structure SlotConfig where
  binding : SlotBinding
  node : BitVec 4
  tag : BitVec 4
  lane : Nat
  take : SlotTake
  input : Fin 4
  timeout : Nat
  ceiling : Nat
  deriving DecidableEq, Repr

/-- What an operand of a condition reads (R63); CONST stands only in the B position. -/
inductive OperandKind where
  | slot
  | gauge
  | supply
  | current
  | shed
  | const
  deriving DecidableEq, Repr

/-- The comparisons of a condition (R65). -/
inductive Predicate where
  | eq
  | lt
  | le
  | unord
  | neq
  | nlt
  | nle
  | ord
  deriving DecidableEq, Repr

/-- One entry of the condition table (R63). -/
structure CondEntry where
  valid : Bool
  aKind : OperandKind
  aIndex : Nat
  bKind : OperandKind
  bIndex : Nat
  predicate : Predicate
  hysteresis : Nat
  deriving DecidableEq, Repr

/-- The kinds of event a link may name (R71). -/
inductive EventKind where
  | switch
  | cond
  | fault
  deriving DecidableEq, Repr

/-- The edge a link asks for (R71). -/
inductive LinkEdge where
  | rise
  | fall
  | any
  deriving DecidableEq, Repr

/-- The verbs of the action matrix (R71). -/
inductive Verb where
  | on
  | off
  | toggle
  | level
  deriving DecidableEq, Repr

/-- One link (R71). Targets 0 to 11 are the outputs, 12 TURNL, 13 TURNR, 14 HAZARD; a guard of `none` is NONE. -/
structure LinkEntry where
  valid : Bool
  event : EventKind
  index : Nat
  edge : LinkEdge
  target : Fin 15
  verb : Verb
  level : Nat
  guard : Option (Fin 16)
  sense : Bool
  deriving DecidableEq, Repr

/-- The kind of load an output carries (R88). -/
inductive LoadKind where
  | unused
  | lamp
  | stop
  | indicator
  | stopturn
  | fan
  deriving DecidableEq, Repr

/-- The side an indicator or stop/turn lamp belongs to (R88). -/
inductive Side where
  | left
  | right
  deriving DecidableEq, Repr

/-- Whether an output needs the ignition (R88). -/
inductive Domain where
  | always
  | ignition
  deriving DecidableEq, Repr

/-- One entry of the load table (R88). -/
structure LoadEntry where
  kind : LoadKind
  side : Side
  domain : Domain
  shedClass : Nat
  ramp : Nat
  mask : Nat
  imin : Nat
  imax : Nat
  stallLimit : Nat
  ordersAllowed : Bool
  deriving DecidableEq, Repr

/-- The unit of a flash time (R110): FINE 10 ms, COARSE 100 ms. -/
inductive TimeUnit where
  | fine
  | coarse
  deriving DecidableEq, Repr

/-- A count from 0 to 63 with its own unit (R110). -/
structure FlashTime where
  count : Nat
  unit : TimeUnit
  deriving DecidableEq, Repr

/-- How a source ends when its go signal is lost (R116). -/
inductive Release where
  | complete
  | cut
  deriving DecidableEq, Repr

/-- One flash profile (R110). -/
structure Profile where
  setup : FlashTime
  pulse : FlashTime
  cycle : FlashTime
  failcycle : FlashTime
  gap : FlashTime
  release : Release
  deriving DecidableEq, Repr

/-- What a gauge channel does when its sender is lost (R141). -/
inductive FaultPolicy where
  | hold
  | park
  | mark
  deriving DecidableEq, Repr

/-- One entry of the gauge table (R129). -/
structure GaugeEntry where
  source : Option (Fin 16)
  curve : Option (Fin 8)
  damping : Nat
  vz : Nat
  vfs : Nat
  policy : FaultPolicy
  mark : Nat
  deriving DecidableEq, Repr

/-- The ports STATE and FAULT reports go to (R168). -/
inductive ReportPort where
  | fore
  | aft
  | both
  deriving DecidableEq, Repr

/-- The fault classes (R159). -/
inductive FaultClass where
  | openLoad
  | overload
  | stall
  | sender
  | undervolt
  | overvolt
  | link
  | pod
  | egress
  | store
  deriving DecidableEq, Repr

/-- The number of a fault class (R159). -/
def FaultClass.number : FaultClass → Fin 10
  | .openLoad => 0
  | .overload => 1
  | .stall => 2
  | .sender => 3
  | .undervolt => 4
  | .overvolt => 5
  | .link => 6
  | .pod => 7
  | .egress => 8
  | .store => 9

/-- The hub table (R177). The masks hold one bit per fault class. -/
structure HubTable where
  originHops : BitVec 3
  reportPort : ReportPort
  refresh : Nat
  debounce : Nat
  fanDuty : Vector Nat 4
  fanSlew : Nat
  fanShedCap : Nat
  uv : Nat
  ov : Nat
  venter : Nat
  vrestore : Nat
  enterDwell : Nat
  restoreDwell : Nat
  profileLeft : Fin 4
  profileRight : Fin 4
  profileHazard : Fin 4
  ordersToFlasher : Bool
  teachGauge : Option (Fin 4)
  detect : BitVec 10
  latch : BitVec 10
  deriving DecidableEq, Repr

/-- The working tables, and likewise the stored image: tables 0 to 9 (R176, R181). -/
structure Tables where
  matches_ : Vector MatchEntry 32
  curves : Vector Curve 8
  slots : Vector SlotConfig 16
  podTimeouts : Vector Nat 8
  conds : Vector CondEntry 16
  links : Vector LinkEntry 48
  loads : Vector LoadEntry 12
  profiles : Vector Profile 4
  gauges : Vector GaugeEntry 4
  hub : HubTable
  deriving DecidableEq, Repr

/-- Default of a match entry (R19). -/
def MatchEntry.default : MatchEntry :=
  { valid := false, kindKey := none, sourceKey := none, tagKey := none, portKey := none,
    disposition := .pass, curve := 0, scope := .all, feed := .none }

/-- Default of a curve: the straight line, in service (R36). -/
def Curve.default : Curve :=
  { count := 2,
    points := #v[⟨0, 0⟩, ⟨4094, 1000⟩, ⟨0, 0⟩, ⟨0, 0⟩, ⟨0, 0⟩, ⟨0, 0⟩, ⟨0, 0⟩, ⟨0, 0⟩, ⟨0, 0⟩],
    state := .inService }

/-- Default of a slot configuration (R45). -/
def SlotConfig.default : SlotConfig :=
  { binding := .none, node := 0, tag := 0, lane := 0, take := .raw, input := 0, timeout := 20, ceiling := 4094 }

/-- Default of a condition entry (R63). -/
def CondEntry.default : CondEntry :=
  { valid := false, aKind := .slot, aIndex := 0, bKind := .const, bIndex := 0, predicate := .eq, hysteresis := 0 }

/-- Default of a link (R71). -/
def LinkEntry.default : LinkEntry :=
  { valid := false, event := .switch, index := 0, edge := .rise, target := 0, verb := .on, level := 0,
    guard := none, sense := true }

/-- Default of a load entry (R88). -/
def LoadEntry.default : LoadEntry :=
  { kind := .unused, side := .left, domain := .ignition, shedClass := 0, ramp := 0, mask := 60, imin := 0,
    imax := 20000, stallLimit := 20000, ordersAllowed := false }

/-- Default of a flash profile (R110). -/
def Profile.default : Profile :=
  { setup := ⟨0, .fine⟩, pulse := ⟨35, .fine⟩, cycle := ⟨7, .coarse⟩, failcycle := ⟨35, .fine⟩, gap := ⟨10, .fine⟩,
    release := .complete }

/-- Default of a gauge entry (R129). -/
def GaugeEntry.default : GaugeEntry :=
  { source := none, curve := none, damping := 2, vz := 0, vfs := 10000, policy := .park, mark := 0 }

/-- Defaults of the hub table (R177): LATCH is on for OVERLOAD, STALL and STORE (R161). -/
def HubTable.default : HubTable :=
  { originHops := 7, reportPort := .both, refresh := 1000, debounce := 20, fanDuty := #v[40, 60, 80, 100],
    fanSlew := 20, fanShedCap := 1, uv := 10500, ov := 15500, venter := 12200, vrestore := 12800, enterDwell := 5,
    restoreDwell := 10, profileLeft := 0, profileRight := 0, profileHazard := 0, ordersToFlasher := false,
    teachGauge := none, detect := 0b1111111111#10, latch := 0b1000000110#10 }

/-- Every table at its defaults (R181). -/
def Tables.default : Tables :=
  { matches_ := Vector.replicate 32 MatchEntry.default
    curves := Vector.replicate 8 Curve.default
    slots := Vector.replicate 16 SlotConfig.default
    podTimeouts := Vector.replicate 8 10
    conds := Vector.replicate 16 CondEntry.default
    links := Vector.replicate 48 LinkEntry.default
    loads := Vector.replicate 12 LoadEntry.default
    profiles := Vector.replicate 4 Profile.default
    gauges := Vector.replicate 4 GaugeEntry.default
    hub := HubTable.default }

end Sys2Proof.Machine
end

