-- ==== Sys2Proof/Machine/State.lean ====
section
/-! DEFINITION. The whole state of the hub as plain data, the reasons a command could stop, and the state right after
a supply reset. A timer is the length in milliseconds it was started with, or `none` while it is stopped (log 5). -/

namespace Sys2Proof.Machine

/-- Why the hub would stop with a fault: there is no constructor. The manual turns every finding into a flag, a report
or a discard (R9, R160), so no command stops, and none of the model's meanings answers a fault. -/
inductive Fault where
  deriving DecidableEq, Repr

/-- Why a command would have no meaning in the model. -/
inductive Refusal where
  /-- Raised by no arm of `exec` now: it would stand for a command the model does not give a meaning to. Safe: a
  refused command proves nothing about the hub. -/
  | notModelled (mnemonic : String)
  deriving DecidableEq, Repr

/-- The fields of a frame as the router sees them (R7, R9). -/
structure Frame where
  kind : FrameKind
  hops : BitVec 3
  source : BitVec 4
  target : BitVec 4
  tag : BitVec 4
  cooked : Bool
  lanes : List Lane
  deriving DecidableEq, Repr

/-- What a frame record in an egress queue notes beside its fields (R13); the reply that a RESTART waits for is told
apart, since its transmission completion makes the reset (R184). -/
inductive FrameNote where
  | relay
  | report
  | restartReply
  deriving DecidableEq, Repr

/-- One record of an egress queue (R13). -/
structure FrameRecord where
  frame : Frame
  note : FrameNote
  deriving DecidableEq, Repr

/-- The receiver of a port (R3). `quiet` in IDLE: the line has been quiet for three character times, so the next
character starts a frame; it is false only after a supply reset. -/
inductive Receiver where
  | idle (quiet : Bool)
  | receiving (bytes : List Byte)
  | closing (bytes : List Byte)
  | discarding
  deriving DecidableEq, Repr

/-- The transmitter of a port (R14); SENDING carries the bytes put on the line. -/
inductive Transmitter where
  | waiting
  | sending (bytes : List Byte)
  deriving DecidableEq, Repr

/-- One link port (chapter 1): receiver, transmitter, egress queue (head first), and the two facts its fault causes
read: the latest verdict was good (R10), the latest relay offer was enqueued (R15). -/
structure PortState where
  rx : Receiver
  tx : Transmitter
  queue : List FrameRecord
  verdictGood : Bool
  offerTaken : Bool
  deriving DecidableEq, Repr

/-- The states of a sample slot (R46). -/
inductive SlotState where
  | empty
  | fresh
  | stale
  deriving DecidableEq, Repr

/-- Live state of a sample slot (R46). -/
structure SlotLive where
  value : Lane
  state : SlotState
  age : Option Nat
  deriving DecidableEq, Repr

/-- A pod of the switch image (R54); `seen`: updated since its POD flag was last raised (R58). -/
structure PodLive where
  bits : BitVec 12
  known : Bool
  timer : Option Nat
  seen : Bool
  deriving DecidableEq, Repr

/-- A debouncer (R60, R61, R185): the pin, the settled level if it has one, and the hold timer. -/
structure Debouncer where
  pin : Bool
  settled : Option Bool
  hold : Option Nat
  deriving DecidableEq, Repr

/-- Live state of a condition entry (R63). -/
structure CondLive where
  truth : Bool
  unordered : Bool
  deriving DecidableEq, Repr

/-- Protection state of an output (R101 to R104). -/
inductive Protection where
  | normal
  | tripped
  | locked
  deriving DecidableEq, Repr

/-- The check window of an output (R99): closed, waiting for the given milliseconds since the drive-on, or open. -/
inductive CheckWindow where
  | closed
  | waiting (ms : Nat)
  | opened
  deriving DecidableEq, Repr

/-- Live state of an output (R79, R91, R95, R123): demand; fan level, memory and effective level; drive and its duty;
the soft start's count of 10 ms; check window; protection; fan duty; the latest current sample; whether the cause of OPEN
is gone (R100); changeover gap. -/
structure OutLive where
  demand : Bool
  fanLevel : Nat
  fanMemory : Nat
  effective : Nat
  drive : Bool
  duty : Nat
  softStart : Option Nat
  window : CheckWindow
  protection : Protection
  trips : Nat
  retry : Option Nat
  actual : Nat
  stall : Option Nat
  current : Nat
  openGone : Bool
  gap : Option Nat
  deriving DecidableEq, Repr

/-- States of a flash source (R113). -/
inductive FlashPhase where
  | idle
  | setup
  | on
  | off
  | trail
  deriving DecidableEq, Repr

/-- A flash source (R113). LEFT uses `failLeft`, RIGHT `failRight`, HAZARD both. Lengths of 0 stand for none. -/
structure FlashSource where
  demand : Bool
  phase : FlashPhase
  timer : Option Nat
  onLength : Nat
  cycleLength : Nat
  failLeft : Bool
  failRight : Bool
  deriving DecidableEq, Repr

/-- The three flash sources. -/
structure FlashState where
  left : FlashSource
  right : FlashSource
  hazard : FlashSource
  deriving DecidableEq, Repr

/-- States of a gauge channel (R132). -/
inductive GaugeState where
  | waiting
  | live
  | fault
  | nocurve
  deriving DecidableEq, Repr

/-- Live state of a gauge channel (R131); `out` is the GA output for the present millisecond (R140). -/
structure GaugeLive where
  state : GaugeState
  f : Nat
  p : Nat
  d : Nat
  acc : Nat
  underdrive : Bool
  lastRaw : Lane
  out : Bool
  deriving DecidableEq, Repr

/-- The supply monitor (chapter 9), with the causes of UNDERVOLT and OVERVOLT as of the latest Vs update (R150, R151). -/
structure SupplyState where
  vs : Nat
  shed : Nat
  enter : Option Nat
  restore : Option Nat
  ign : Bool
  uvGone : Bool
  ovGone : Bool
  deriving DecidableEq, Repr

/-- A capture record (R164). -/
structure CaptureRecord where
  cls : FaultClass
  index : Nat
  value : Nat
  vs : Nat
  uptime : Nat
  deriving DecidableEq, Repr

/-- The fault unit (chapter 10): flags by class number, one bit per index; two capture slots, `none` while FREE. -/
structure FaultState where
  flags : Vector (BitVec 12) 10
  capture : Vector (Option CaptureRecord) 2
  lost : Bool
  uptime : Nat
  deriving DecidableEq, Repr

/-- What a pending report is (R168): a STATE report with what its copies have done (R170), a REPLY with its target and
lanes, or a FAULT report with its capture slot and lanes. -/
inductive ReportBody where
  | state (copied : Bool) (allOverrun : Bool)
  | reply (target : BitVec 4) (lanes : List Lane) (commit : Bool) (restart : Bool)
  | fault (slot : Fin 2) (lanes : List Lane)
  deriving DecidableEq, Repr

/-- A report of the pending list with the ports whose copy is outstanding (R16, R168). -/
structure PendingReport where
  body : ReportBody
  toFore : Bool
  toAft : Bool
  deriving DecidableEq, Repr

/-- The report generator (R168, R170). -/
structure ReportState where
  list : List PendingReport
  held : Bool
  overrun : Bool
  refresh : Option Nat
  deriving DecidableEq, Repr

/-- Who started the commit in progress (R173). -/
inductive CommitOrigin where
  | request (r : Requester)
  | teach
  deriving DecidableEq, Repr

/-- The service state of the management engine (R173). -/
inductive Service where
  | idle
  | committing (origin : CommitOrigin)
  | restarting
  deriving DecidableEq, Repr

/-- The teach state (R185); HAVE-EMPTY carries the empty reading (R186). -/
inductive TeachState where
  | idle
  | haveEmpty (reading : Lane)
  | committing
  deriving DecidableEq, Repr

/-- The management engine (chapter 11): service state, teach state, window and lockout timers, TEACH debouncer. -/
structure MgmtState where
  service : Service
  teach : TeachState
  window : Option Nat
  lockout : Option Nat
  pin : Debouncer
  deriving DecidableEq, Repr

/-- The non-volatile table store (R181): the marker and the image. -/
structure StoreState where
  valid : Bool
  image : Tables
  deriving DecidableEq, Repr

/-- The hub. `pending` is the queue of commands still to be taken, first in, first out; `choices` counts the open
orders settled so far (`Config.orderChoice`); both are the model's own. -/
structure State where
  inReset : Bool
  node : BitVec 4
  fore : PortState
  aft : PortState
  tables : Tables
  slots : Vector SlotLive 16
  pods : Vector PodLive 9
  inputs : Vector Debouncer 9
  conds : Vector CondLive 16
  outs : Vector OutLive 12
  flash : FlashState
  gauges : Vector GaugeLive 4
  supply : SupplyState
  faults : FaultState
  reports : ReportState
  mgmt : MgmtState
  store : StoreState
  choices : Nat
  pending : List Instr
  deriving DecidableEq, Repr

/-- A slot after reset or after a configuration write (R46). -/
def SlotLive.empty : SlotLive := { value := noReading, state := .empty, age := none }

/-- A pod after reset (R54). -/
def PodLive.reset : PodLive := { bits := 0, known := false, timer := none, seen := false }

/-- A condition after reset or after a write (R63, R70). -/
def CondLive.reset : CondLive := { truth := false, unordered := false }

/-- An output after reset (R79, R91, R123). -/
def OutLive.reset : OutLive :=
  { demand := false, fanLevel := 0, fanMemory := 1, effective := 0, drive := false, duty := 0, softStart := none,
    window := .closed, protection := .normal, trips := 0, retry := none, actual := 0, stall := none, current := 0,
    openGone := true, gap := none }

/-- A flash source after reset (R113). -/
def FlashSource.reset : FlashSource :=
  { demand := false, phase := .idle, timer := none, onLength := 0, cycleLength := 0, failLeft := false,
    failRight := false }

/-- A gauge channel after reset (R131). -/
def GaugeLive.reset : GaugeLive :=
  { state := .waiting, f := 0, p := 0, d := 0, acc := 0, underdrive := false, lastRaw := noReading, out := false }

/-- The fault unit after reset (R159, R164, R165, R167). -/
def FaultState.reset : FaultState :=
  { flags := Vector.replicate 10 0, capture := #v[none, none], lost := false, uptime := 0 }

/-- A port after reset (R18); the two cause facts are not in the spec's reset list (log 6). -/
def PortState.reset : PortState :=
  { rx := .idle false, tx := .waiting, queue := [], verdictGood := true, offerTaken := true }

/-- The capture record of the STORE raise of a start on defaults (R181). -/
def State.resetRecord : CaptureRecord := { cls := .store, index := 0, value := 0, vs := 12600, uptime := 0 }

/-- The two reports a start on defaults sends from each port (10.5): STATE, then FAULT for STORE. -/
def State.resetQueue : List FrameRecord :=
  [ { frame := { kind := .report, hops := 7, source := 0, target := 15, tag := 0, cooked := false,
                 lanes := [0, 0, noReading, noReading, noReading, noReading] }, note := .report },
    { frame := { kind := .report, hops := 7, source := 0, target := 15, tag := 2, cooked := false,
                 lanes := [144, 0, 1260, 0, 0] }, note := .report } ]

/-- The hub right after a supply reset, started with an invalid marker (so on defaults, R181), straps at 0 and a supply
of 12600 mV: the start-up STATE report and the FAULT report for STORE stand in both egress queues. The marker, the
straps, the supply and the pin levels are the model's choice (log 6). -/
def State.reset : State :=
  { inReset := false
    node := 0
    fore := { PortState.reset with queue := State.resetQueue }
    aft := { PortState.reset with queue := State.resetQueue }
    tables := Tables.default
    slots := Vector.replicate 16 SlotLive.empty
    pods := Vector.replicate 9 PodLive.reset
    inputs := Vector.replicate 9 { pin := false, settled := none, hold := some 20 }
    conds := Vector.replicate 16 CondLive.reset
    outs := Vector.replicate 12 OutLive.reset
    flash := { left := FlashSource.reset, right := FlashSource.reset, hazard := FlashSource.reset }
    gauges := Vector.replicate 4 GaugeLive.reset
    supply := { vs := 12600, shed := 0, enter := none, restore := none, ign := false, uvGone := true, ovGone := true }
    faults :=
      { flags := #v[0, 0, 0, 0, 0, 0, 0, 0, 0, 1], capture := #v[some State.resetRecord, none], lost := false,
        uptime := 0 }
    reports := { list := [], held := false, overrun := false, refresh := some 1000 }
    mgmt :=
      { service := .idle, teach := .idle, window := none, lockout := none,
        pin := { pin := true, settled := none, hold := some 20 } }
    store := { valid := false, image := Tables.default }
    choices := 0
    pending := [] }

end Sys2Proof.Machine
end

