-- ==== Sys2Proof/Machine/Operands.lean ====
section
/-! DEFINITION. The table and field directory (R176, R177): how each field travels as a whole number (R178), which
numbers a WRITE accepts, and the field it leaves. -/

namespace Sys2Proof.Machine

/-- The status codes of a reply (R174). -/
inductive Status where
  | ok
  | badReq
  | badTable
  | badIndex
  | badField
  | badValue
  | busy
  | notEdit
  | badCurve
  | emptySlot
  | storeFail
  | noStore
  deriving DecidableEq, Repr

/-- The number of a status (R174). -/
def Status.code : Status → Nat
  | .ok => 0
  | .badReq => 1
  | .badTable => 2
  | .badIndex => 3
  | .badField => 4
  | .badValue => 5
  | .busy => 6
  | .notEdit => 7
  | .badCurve => 8
  | .emptySlot => 9
  | .storeFail => 10
  | .noStore => 11

/-- The place of a word in the list its range gives (R178), from the lists of words below. -/
def wordAt {α : Type} (words : List α) (v : Nat) : Option α := words[v]?

/-- The number a word travels as: its place in the list (R178). -/
def placeOf {α : Type} [DecidableEq α] (words : List α) (w : α) : Nat := words.idxOf w

/-- `x` when lo ≤ v ≤ hi. -/
def ranged {α : Type} (v lo hi : Nat) (x : α) : Option α := if lo ≤ v ∧ v ≤ hi then some x else none

/-- The words no and yes (R178). -/
def boolWords : List Bool := [false, true]
/-- The kind key: ANY 0 and each kind as its frame number (R178). -/
def kindKeyWords : List (Option FrameKind) :=
  [none, some .state, some .sample, some .order, some .mgmt, some .report]
/-- The port key ANY, FORE, AFT (R19). -/
def portKeyWords : List (Option PortId) := [none, some .fore, some .aft]
/-- PASS, DROP, COOK (R19). -/
def dispositionWords : List Disposition := [.pass, .drop, .cook]
/-- ALL, LANE0 (R19). -/
def scopeWords : List CookScope := [.all, .lane0]
/-- NONE 0, POD 0 to POD 7 as 1 to 8, SLOTS 9, OBEY 10 (R178). -/
def feedWords : List Feed :=
  [.none, .pod 0, .pod 1, .pod 2, .pod 3, .pod 4, .pod 5, .pod 6, .pod 7, .slots, .obey]
/-- EDIT, IN-SERVICE (R36). -/
def curveStateWords : List CurveState := [.edit, .inService]
/-- NONE, LINK, LOCAL (R45). -/
def bindingWords : List SlotBinding := [.none, .link, .loc]
/-- RAW, COOKED (R45). -/
def takeWords : List SlotTake := [.raw, .cooked]
/-- SLOT to SHED, then CONST for the B kind (R63). -/
def operandWords : List OperandKind := [.slot, .gauge, .supply, .current, .shed, .const]
/-- The A kind has no CONST (R63). -/
def operandWordsA : List OperandKind := [.slot, .gauge, .supply, .current, .shed]
/-- The predicates (R63). -/
def predicateWords : List Predicate := [.eq, .lt, .le, .unord, .neq, .nlt, .nle, .ord]
/-- SWITCH, COND, FAULT (R71). -/
def eventWords : List EventKind := [.switch, .cond, .fault]
/-- RISE, FALL, ANY (R71). -/
def edgeWords : List LinkEdge := [.rise, .fall, .any]
/-- ON, OFF, TOGGLE, LEVEL (R71). -/
def verbWords : List Verb := [.on, .off, .toggle, .level]
/-- Guard sense TRUE, FALSE (R71). -/
def senseWords : List Bool := [true, false]
/-- The load kinds (R88). -/
def loadWords : List LoadKind := [.unused, .lamp, .stop, .indicator, .stopturn, .fan]
/-- LEFT, RIGHT (R88). -/
def sideWords : List Side := [.left, .right]
/-- ALWAYS, IGNITION (R88). -/
def domainWords : List Domain := [.always, .ignition]
/-- FINE, COARSE (R110). -/
def unitWords : List TimeUnit := [.fine, .coarse]
/-- COMPLETE, CUT (R110). -/
def releaseWords : List Release := [.complete, .cut]
/-- HOLD, PARK, MARK (R129). -/
def policyWords : List FaultPolicy := [.hold, .park, .mark]
/-- FORE, AFT, BOTH (R177). -/
def reportPortWords : List ReportPort := [.fore, .aft, .both]

/-- A field that is one word, coded 255, or a number below n (R178): the number. -/
def codeOr255 {n : Nat} (x : Option (Fin n)) : Nat :=
  match x with
  | none => 255
  | some i => i.val

/-- A field that is one word, coded 255, or a number below n (R178): the field. -/
def ofCodeOr255 (n v : Nat) : Option (Option (Fin n)) :=
  if v = 255 then some none else if h : v < n then some (some ⟨v, h⟩) else none

/-- A number below n as an index. -/
def finOf (n v : Nat) : Option (Fin n) := if h : v < n then some ⟨v, h⟩ else none

/-- A 4-bit key, 255 for ANY (R178): the number. -/
def keyCode (x : Option (BitVec 4)) : Nat :=
  match x with
  | none => 255
  | some b => b.toNat

/-- A 4-bit key up to `hi`, 255 for ANY (R19, R178): the field. -/
def keyOf (hi v : Nat) : Option (Option (BitVec 4)) :=
  if v = 255 then some none else if v ≤ hi then some (some (BitVec.ofNat 4 v)) else none

/-- READ of a match entry (R19). -/
def MatchEntry.readField (e : MatchEntry) : Nat → Option Nat
  | 0 => some (placeOf boolWords e.valid)
  | 1 => some (placeOf kindKeyWords e.kindKey)
  | 2 => some (keyCode e.sourceKey)
  | 3 => some (keyCode e.tagKey)
  | 4 => some (placeOf portKeyWords e.portKey)
  | 5 => some (placeOf dispositionWords e.disposition)
  | 6 => some e.curve.val
  | 7 => some (placeOf scopeWords e.scope)
  | 8 => some (placeOf feedWords e.feed)
  | _ => none

/-- WRITE of a match entry (R19). -/
def MatchEntry.writeField (e : MatchEntry) (field v : Nat) : Option MatchEntry :=
  match field with
  | 0 => (wordAt boolWords v).map fun x => { e with valid := x }
  | 1 => (wordAt kindKeyWords v).map fun x => { e with kindKey := x }
  | 2 => (keyOf 14 v).map fun x => { e with sourceKey := x }
  | 3 => (keyOf 15 v).map fun x => { e with tagKey := x }
  | 4 => (wordAt portKeyWords v).map fun x => { e with portKey := x }
  | 5 => (wordAt dispositionWords v).map fun x => { e with disposition := x }
  | 6 => (finOf 8 v).map fun x => { e with curve := x }
  | 7 => (wordAt scopeWords v).map fun x => { e with scope := x }
  | 8 => (wordAt feedWords v).map fun x => { e with feed := x }
  | _ => none

/-- The point a curve field belongs to, and whether it is its y (R36). -/
def pointOfField (field : Nat) : Option (Fin 9 × Bool) :=
  if h : 1 ≤ field ∧ field ≤ 18 then some (⟨(field - 1) / 2, by omega⟩, decide (field % 2 = 0)) else none

/-- READ of a curve (R36, R41). -/
def Curve.readField (c : Curve) (field : Nat) : Option Nat :=
  if field = 0 then some c.count
  else if field = 19 then some (placeOf curveStateWords c.state)
  else match pointOfField field with
    | some (i, true) => some c.points[i].y
    | some (i, false) => some c.points[i].x
    | none => none

/-- WRITE of a curve in EDIT (R36, R41). -/
def Curve.writeField (c : Curve) (field v : Nat) : Option Curve :=
  if field = 0 then ranged v 0 9 { c with count := v }
  else match pointOfField field with
    | some (i, true) => ranged v 0 4095 { c with points := c.points.set i { c.points[i] with y := v } }
    | some (i, false) => ranged v 0 4094 { c with points := c.points.set i { c.points[i] with x := v } }
    | none => none

/-- READ of a slot configuration (R45). -/
def SlotConfig.readField (c : SlotConfig) : Nat → Option Nat
  | 0 => some (placeOf bindingWords c.binding)
  | 1 => some c.node.toNat
  | 2 => some c.tag.toNat
  | 3 => some c.lane
  | 4 => some (placeOf takeWords c.take)
  | 5 => some c.input.val
  | 6 => some c.timeout
  | 7 => some c.ceiling
  | _ => none

/-- WRITE of a slot configuration (R45, R51). -/
def SlotConfig.writeField (c : SlotConfig) (field v : Nat) : Option SlotConfig :=
  match field with
  | 0 => (wordAt bindingWords v).map fun x => { c with binding := x }
  | 1 => ranged v 0 14 { c with node := BitVec.ofNat 4 v }
  | 2 => ranged v 0 15 { c with tag := BitVec.ofNat 4 v }
  | 3 => ranged v 0 3 { c with lane := v }
  | 4 => (wordAt takeWords v).map fun x => { c with take := x }
  | 5 => (finOf 4 v).map fun x => { c with input := x }
  | 6 => ranged v 1 255 { c with timeout := v }
  | 7 => ranged v 0 4094 { c with ceiling := v }
  | _ => none

/-- READ of a condition entry (R63). -/
def CondEntry.readField (c : CondEntry) : Nat → Option Nat
  | 0 => some (placeOf boolWords c.valid)
  | 1 => some (placeOf operandWords c.aKind)
  | 2 => some c.aIndex
  | 3 => some (placeOf operandWords c.bKind)
  | 4 => some c.bIndex
  | 5 => some (placeOf predicateWords c.predicate)
  | 6 => some c.hysteresis
  | _ => none

/-- WRITE of a condition entry; CONST in the A kind is refused (R63, R70). -/
def CondEntry.writeField (c : CondEntry) (field v : Nat) : Option CondEntry :=
  match field with
  | 0 => (wordAt boolWords v).map fun x => { c with valid := x }
  | 1 => (wordAt operandWordsA v).map fun x => { c with aKind := x }
  | 2 => ranged v 0 15 { c with aIndex := v }
  | 3 => (wordAt operandWords v).map fun x => { c with bKind := x }
  | 4 => ranged v 0 65535 { c with bIndex := v }
  | 5 => (wordAt predicateWords v).map fun x => { c with predicate := x }
  | 6 => ranged v 0 4095 { c with hysteresis := v }
  | _ => none

/-- READ of a link (R71). -/
def LinkEntry.readField (l : LinkEntry) : Nat → Option Nat
  | 0 => some (placeOf boolWords l.valid)
  | 1 => some (placeOf eventWords l.event)
  | 2 => some l.index
  | 3 => some (placeOf edgeWords l.edge)
  | 4 => some l.target.val
  | 5 => some (placeOf verbWords l.verb)
  | 6 => some l.level
  | 7 => some (codeOr255 l.guard)
  | 8 => some (placeOf senseWords l.sense)
  | _ => none

/-- WRITE of a link (R71, R73). -/
def LinkEntry.writeField (l : LinkEntry) (field v : Nat) : Option LinkEntry :=
  match field with
  | 0 => (wordAt boolWords v).map fun x => { l with valid := x }
  | 1 => (wordAt eventWords v).map fun x => { l with event := x }
  | 2 => ranged v 0 143 { l with index := v }
  | 3 => (wordAt edgeWords v).map fun x => { l with edge := x }
  | 4 => (finOf 15 v).map fun x => { l with target := x }
  | 5 => (wordAt verbWords v).map fun x => { l with verb := x }
  | 6 => ranged v 0 4 { l with level := v }
  | 7 => (ofCodeOr255 16 v).map fun x => { l with guard := x }
  | 8 => (wordAt senseWords v).map fun x => { l with sense := x }
  | _ => none

/-- READ of a load entry (R88). -/
def LoadEntry.readField (l : LoadEntry) : Nat → Option Nat
  | 0 => some (placeOf loadWords l.kind)
  | 1 => some (placeOf sideWords l.side)
  | 2 => some (placeOf domainWords l.domain)
  | 3 => some l.shedClass
  | 4 => some l.ramp
  | 5 => some l.mask
  | 6 => some l.imin
  | 7 => some l.imax
  | 8 => some l.stallLimit
  | 9 => some (placeOf boolWords l.ordersAllowed)
  | _ => none

/-- The kinds whose shed class is held at 0 (R89). -/
def LoadKind.neverShed : LoadKind → Bool
  | .stop => true
  | .indicator => true
  | .stopturn => true
  | .unused => false
  | .lamp => false
  | .fan => false

/-- A current field: 0 to 20000 mA, a multiple of 10 (R88, R89). -/
def currentOk (v : Nat) : Bool := decide (v ≤ 20000) && decide (v % 10 = 0)

/-- WRITE of a load entry: a change of kind to STOP, INDICATOR or STOPTURN sets the shed class to 0 by the same write,
and such an entry refuses a shed class of 1 to 3 (R88, R89). -/
def LoadEntry.writeField (l : LoadEntry) (field v : Nat) : Option LoadEntry :=
  match field with
  | 0 => (wordAt loadWords v).map fun k =>
      { l with kind := k, shedClass := if k.neverShed then 0 else l.shedClass }
  | 1 => (wordAt sideWords v).map fun x => { l with side := x }
  | 2 => (wordAt domainWords v).map fun x => { l with domain := x }
  | 3 => if l.kind.neverShed && decide (v ≠ 0) then none else ranged v 0 3 { l with shedClass := v }
  | 4 => ranged v 0 255 { l with ramp := v }
  | 5 => ranged v 0 255 { l with mask := v }
  | 6 => if currentOk v then some { l with imin := v } else none
  | 7 => if currentOk v then some { l with imax := v } else none
  | 8 => if currentOk v then some { l with stallLimit := v } else none
  | 9 => (wordAt boolWords v).map fun x => { l with ordersAllowed := x }
  | _ => none

/-- READ of a flash profile (R110). -/
def Profile.readField (p : Profile) : Nat → Option Nat
  | 0 => some p.setup.count
  | 1 => some (placeOf unitWords p.setup.unit)
  | 2 => some p.pulse.count
  | 3 => some (placeOf unitWords p.pulse.unit)
  | 4 => some p.cycle.count
  | 5 => some (placeOf unitWords p.cycle.unit)
  | 6 => some p.failcycle.count
  | 7 => some (placeOf unitWords p.failcycle.unit)
  | 8 => some p.gap.count
  | 9 => some (placeOf unitWords p.gap.unit)
  | 10 => some (placeOf releaseWords p.release)
  | _ => none

/-- WRITE of a flash profile (R110). -/
def Profile.writeField (p : Profile) (field v : Nat) : Option Profile :=
  match field with
  | 0 => ranged v 0 63 { p with setup := { p.setup with count := v } }
  | 1 => (wordAt unitWords v).map fun x => { p with setup := { p.setup with unit := x } }
  | 2 => ranged v 0 63 { p with pulse := { p.pulse with count := v } }
  | 3 => (wordAt unitWords v).map fun x => { p with pulse := { p.pulse with unit := x } }
  | 4 => ranged v 0 63 { p with cycle := { p.cycle with count := v } }
  | 5 => (wordAt unitWords v).map fun x => { p with cycle := { p.cycle with unit := x } }
  | 6 => ranged v 0 63 { p with failcycle := { p.failcycle with count := v } }
  | 7 => (wordAt unitWords v).map fun x => { p with failcycle := { p.failcycle with unit := x } }
  | 8 => ranged v 0 63 { p with gap := { p.gap with count := v } }
  | 9 => (wordAt unitWords v).map fun x => { p with gap := { p.gap with unit := x } }
  | 10 => (wordAt releaseWords v).map fun x => { p with release := x }
  | _ => none

/-- READ of a gauge entry (R129). -/
def GaugeEntry.readField (g : GaugeEntry) : Nat → Option Nat
  | 0 => some (codeOr255 g.source)
  | 1 => some (codeOr255 g.curve)
  | 2 => some g.damping
  | 3 => some g.vz
  | 4 => some g.vfs
  | 5 => some (placeOf policyWords g.policy)
  | 6 => some g.mark
  | _ => none

/-- WRITE of a gauge entry: Vz above the Vfs held, or Vfs below the Vz held, is refused (R129, R130). -/
def GaugeEntry.writeField (g : GaugeEntry) (field v : Nat) : Option GaugeEntry :=
  match field with
  | 0 => (ofCodeOr255 16 v).map fun x => { g with source := x }
  | 1 => (ofCodeOr255 8 v).map fun x => { g with curve := x }
  | 2 => ranged v 0 7 { g with damping := v }
  | 3 => if g.vfs < v then none else ranged v 0 18000 { g with vz := v }
  | 4 => if v < g.vz then none else ranged v 2000 18000 { g with vfs := v }
  | 5 => (wordAt policyWords v).map fun x => { g with policy := x }
  | 6 => ranged v 0 1000 { g with mark := v }
  | _ => none

/-- READ of the hub table (R177). -/
def HubTable.readField (h : HubTable) : Nat → Option Nat
  | 0 => some h.originHops.toNat
  | 1 => some (placeOf reportPortWords h.reportPort)
  | 2 => some h.refresh
  | 3 => some h.debounce
  | 4 => some h.fanDuty[0]
  | 5 => some h.fanDuty[1]
  | 6 => some h.fanDuty[2]
  | 7 => some h.fanDuty[3]
  | 8 => some h.fanSlew
  | 9 => some h.fanShedCap
  | 10 => some h.uv
  | 11 => some h.ov
  | 12 => some h.venter
  | 13 => some h.vrestore
  | 14 => some h.enterDwell
  | 15 => some h.restoreDwell
  | 16 => some h.profileLeft.val
  | 17 => some h.profileRight.val
  | 18 => some h.profileHazard.val
  | 19 => some (placeOf boolWords h.ordersToFlasher)
  | 20 => some (codeOr255 h.teachGauge)
  | 21 => some h.detect.toNat
  | 22 => some h.latch.toNat
  | _ => none

/-- WRITE of the hub table (R106, R111, R152, R161, R168, R170, R177). -/
def HubTable.writeField (h : HubTable) (field v : Nat) : Option HubTable :=
  match field with
  | 0 => ranged v 0 7 { h with originHops := BitVec.ofNat 3 v }
  | 1 => (wordAt reportPortWords v).map fun x => { h with reportPort := x }
  | 2 => if v = 0 then some { h with refresh := 0 } else ranged v 100 5000 { h with refresh := v }
  | 3 => ranged v 5 255 { h with debounce := v }
  | 4 => ranged v 0 100 { h with fanDuty := h.fanDuty.set 0 v }
  | 5 => ranged v 0 100 { h with fanDuty := h.fanDuty.set 1 v }
  | 6 => ranged v 0 100 { h with fanDuty := h.fanDuty.set 2 v }
  | 7 => ranged v 0 100 { h with fanDuty := h.fanDuty.set 3 v }
  | 8 => ranged v 1 100 { h with fanSlew := v }
  | 9 => ranged v 0 4 { h with fanShedCap := v }
  | 10 => ranged v 2000 18000 { h with uv := v }
  | 11 => ranged v 4000 19700 { h with ov := v }
  | 12 => ranged v 2000 18000 { h with venter := v }
  | 13 => ranged v 2000 18000 { h with vrestore := v }
  | 14 => ranged v 1 60 { h with enterDwell := v }
  | 15 => ranged v 1 60 { h with restoreDwell := v }
  | 16 => (finOf 4 v).map fun x => { h with profileLeft := x }
  | 17 => (finOf 4 v).map fun x => { h with profileRight := x }
  | 18 => (finOf 4 v).map fun x => { h with profileHazard := x }
  | 19 => (wordAt boolWords v).map fun x => { h with ordersToFlasher := x }
  | 20 => (ofCodeOr255 4 v).map fun x => { h with teachGauge := x }
  | 21 => ranged v 0 1023 { h with detect := BitVec.ofNat 10 v }
  | 22 => ranged v 0 1023 { h with latch := BitVec.ofNat 10 v }
  | _ => none

/-- The number of entries of a table (R176). -/
def tableEntries (table : Nat) : Nat := [32, 8, 16, 8, 16, 48, 12, 4, 4, 1].getD table 0

/-- The number of fields of a table's entries (R176). -/
def tableFields (table : Nat) : Nat := [9, 20, 8, 1, 7, 9, 10, 11, 7, 23].getD table 0

/-- The checks of table, index and field, in this order (R176). -/
def addressStatus (table index field : Nat) : Status :=
  if 9 < table then .badTable
  else if tableEntries table ≤ index then .badIndex
  else if tableFields table ≤ field then .badField
  else .ok

/-- The field that READ returns, once its address has passed the checks (R176). -/
def Tables.readField (t : Tables) (table index field : Nat) : Option Nat :=
  match table with
  | 0 => (t.matches_[index]?).bind fun e => e.readField field
  | 1 => (t.curves[index]?).bind fun e => e.readField field
  | 2 => (t.slots[index]?).bind fun e => e.readField field
  | 3 => if field = 0 then t.podTimeouts[index]? else none
  | 4 => (t.conds[index]?).bind fun e => e.readField field
  | 5 => (t.links[index]?).bind fun e => e.readField field
  | 6 => (t.loads[index]?).bind fun e => e.readField field
  | 7 => (t.profiles[index]?).bind fun e => e.readField field
  | 8 => (t.gauges[index]?).bind fun e => e.readField field
  | 9 => if index = 0 then t.hub.readField field else none
  | _ => none

/-- An entry of a table rewritten by a field write, or none when the entry or the value is refused. -/
def writeEntry {α : Type} {n : Nat} (v : Vector α n) (index : Nat) (f : α → Option α) : Option (Vector α n) :=
  if h : index < n then (f v[index]).map fun x => v.set index x else none

/-- The tables after a WRITE whose address has passed the checks, or none for BADVALUE (R176). -/
def Tables.writeField (t : Tables) (table index field v : Nat) : Option Tables :=
  match table with
  | 0 => (writeEntry t.matches_ index fun e => e.writeField field v).map fun x => { t with matches_ := x }
  | 1 => (writeEntry t.curves index fun e => e.writeField field v).map fun x => { t with curves := x }
  | 2 => (writeEntry t.slots index fun e => e.writeField field v).map fun x => { t with slots := x }
  | 3 => (writeEntry t.podTimeouts index fun _ => ranged v 0 255 v).map fun x => { t with podTimeouts := x }
  | 4 => (writeEntry t.conds index fun e => e.writeField field v).map fun x => { t with conds := x }
  | 5 => (writeEntry t.links index fun e => e.writeField field v).map fun x => { t with links := x }
  | 6 => (writeEntry t.loads index fun e => e.writeField field v).map fun x => { t with loads := x }
  | 7 => (writeEntry t.profiles index fun e => e.writeField field v).map fun x => { t with profiles := x }
  | 8 => (writeEntry t.gauges index fun e => e.writeField field v).map fun x => { t with gauges := x }
  | 9 => (t.hub.writeField field v).map fun x => { t with hub := x }
  | _ => none

/-- The state of a curve, if there is one of that number. -/
def Tables.curveInEdit (t : Tables) (c : Nat) : Bool :=
  match t.curves[c]? with
  | some x => decide (x.state = .edit)
  | none => false

/-- What a WRITE does to the working tables, with the status it is answered: the address checks (R176), BADFIELD for a
curve's state and NOTEDIT for a point of an IN-SERVICE curve (R41), then the value (R176). -/
def Tables.writeChecked (t : Tables) (table index field v : Nat) : Status × Tables :=
  match addressStatus table index field with
  | .ok =>
    if table = 1 ∧ field = 19 then (.badField, t)
    else if table = 1 ∧ t.curveInEdit index = false then (.notEdit, t)
    else match t.writeField table index field v with
      | some t' => (.ok, t')
      | none => (.badValue, t)
  | status => (status, t)

end Sys2Proof.Machine
end

