-- ==== Sys2Proof/Machine/Vec.lean ====
section
/-! DEFINITION. Reading and writing the fixed tables of like things, in a form the kernel evaluates, and the two ways
the model settles an order that the manual leaves open. -/

namespace Sys2Proof.Machine

/-- The table whose entry i is `f i`. -/
def tabulate {α : Type} {n : Nat} (f : Fin n → α) : Vector α n := ⟨⟨List.ofFn f⟩, by simp⟩

/-- The table with entry i changed by `f`. -/
def modifyAt {α : Type} {n : Nat} (v : Vector α n) (i : Fin n) (f : α → α) : Vector α n := v.set i (f v[i])

/-- Every entry of a table satisfies `p`. -/
def allOf {α : Type} {n : Nat} (v : Vector α n) (p : α → Bool) : Bool := v.toList.all p

/-- Some entry of a table satisfies `p`. -/
def anyOf {α : Type} {n : Nat} (v : Vector α n) (p : α → Bool) : Bool := v.toList.any p

/-- `a` put before the k-th element of a list, or at its end. -/
def insertNth {α : Type} (k : Nat) (a : α) : List α → List α
  | [] => [a]
  | b :: bs => if k = 0 then a :: b :: bs else b :: insertNth (k - 1) a bs

/-- A list in the order that the choices `pick n`, `pick (n+1)`, … make; every order is one of them. -/
def permute {α : Type} (pick : Nat → Nat) : Nat → List α → List α
  | _, [] => []
  | n, a :: as => insertNth (pick n % (as.length + 1)) a (permute pick (n + 1) as)

/-- One action after another. -/
def runAll {σ : Type} (acts : List (σ → σ)) (s : σ) : σ := acts.foldl (fun t f => f t) s

end Sys2Proof.Machine
end

