-- ==== Sys2Proof/Machine/Curves.lean ====
section
/-! DEFINITION. The curve engine: interpolation (R38, R39), validation (R42) and the teach curve (R44). -/

namespace Sys2Proof.Machine

/-- p divided by q to the nearest integer, halves away from zero (R39). -/
def divNearest (p : Int) (q : Nat) : Int :=
  if 0 ≤ p then ((2 * p.natAbs + q) / (2 * q) : Nat) else -((2 * p.natAbs + q) / (2 * q) : Nat)

/-- The output within the segment from a to b (R39). -/
def segmentOutput (a b : Point) (r : Nat) : Nat :=
  ((a.y : Int) + divNearest (((b.y : Int) - a.y) * ((r : Int) - a.x)) (b.x - a.x)).toNat

/-- The output on the points from the segment start `a` onward, at a raw value not below it (R38). -/
def outputFrom (a : Point) (rest : List Point) (r : Nat) : Nat :=
  match rest with
  | [] => a.y
  | b :: more => if r < b.x then segmentOutput a b r else outputFrom b more r

/-- The points in use: the first n (R36). -/
def Curve.used (c : Curve) : List Point := c.points.toList.take c.count

/-- The output of a curve for a raw value below NO-READING (R38): clamped at both ends. -/
def Curve.outputNat (c : Curve) (r : Nat) : Nat :=
  match c.used with
  | [] => 0
  | a :: rest => if r ≤ a.x then a.y else outputFrom a rest r

/-- The output of a curve for a lane value: NO-READING stays NO-READING (R38). -/
def Curve.output (c : Curve) (r : Lane) : Lane :=
  if r = noReading then noReading else BitVec.ofNat 12 (c.outputNat r.toNat)

/-- The first offending point from point i on, each examined against the x before it (R42). -/
def offendingFrom (i : Nat) (before : Option Nat) : List Point → Option Nat
  | [] => none
  | p :: ps =>
    if 1000 < p.y then some i
    else match before with
      | some x => if p.x ≤ x then some i else offendingFrom (i + 1) (some p.x) ps
      | none => offendingFrom (i + 1) (some p.x) ps

/-- The index of the first offending point of a curve, or none when every check passes (R42). -/
def Curve.offending (c : Curve) : Option Nat :=
  if c.count < 2 then some c.count
  else if 9 < c.count then some 9
  else offendingFrom 0 none c.used

/-- The points after a teach completion (R44). -/
def Curve.taught (c : Curve) (emptyReading fullReading : Lane) : Curve :=
  let e := emptyReading.toNat
  let f := fullReading.toNat
  let p0 : Point := if e < f then ⟨e, 0⟩ else ⟨f, 1000⟩
  let p1 : Point := if e < f then ⟨f, 1000⟩ else ⟨e, 0⟩
  { c with count := 2, points := (c.points.set 0 p0).set 1 p1 }

/-- The step of the damping rule from a difference d (R135, R149): d over 2 to the k, truncated toward zero, but at
least 1 in magnitude while d is not 0. -/
def dampStep (k : Nat) (d : Int) : Int :=
  let q := d.tdiv (2 ^ k)
  if q = 0 then (if 0 < d then 1 else if d < 0 then -1 else 0) else q

/-- A damped value moved toward a goal (R135, R149). -/
def damp (k : Nat) (held goal : Nat) : Nat := ((held : Int) + dampStep k ((goal : Int) - held)).toNat

end Sys2Proof.Machine
end

