-- ==== Sys2Proof/Config.lean ====
section
/-! DEFINITION. What the manual leaves open: the order of hand-ons that "may be taken" in any order. No body, so no
proof can lean on one order. -/

namespace Sys2Proof.Config

/-- The free choice behind every "either may be taken first" inside one step (R145, R148, R160, R87): the n-th open
position. Nothing constrains it (assumption log 3). -/
opaque orderChoice : Nat → Nat

end Sys2Proof.Config
end

