-- ==== Sys2Proof/Machine/Flags.lean ====
section
/-! DEFINITION. The fault flags (R159), the two masks (R161) and the clearing of a flag (R162). -/

namespace Sys2Proof.Machine

/-- A flag of the fault unit (R159). -/
def FaultState.isSet (f : FaultState) (c : FaultClass) (i : Nat) : Bool := f.flags[c.number].getLsbD i

/-- The fault unit with one flag set. -/
def FaultState.setFlag (f : FaultState) (c : FaultClass) (i : Nat) : FaultState :=
  { f with flags := modifyAt f.flags c.number fun b => b ||| (1#12 <<< i) }

/-- The fault unit with one flag clear. -/
def FaultState.clearFlag (f : FaultState) (c : FaultClass) (i : Nat) : FaultState :=
  { f with flags := modifyAt f.flags c.number fun b => b &&& ~~~(1#12 <<< i) }

/-- DETECT of a class (R161). -/
def HubTable.detects (h : HubTable) (c : FaultClass) : Bool := h.detect.getLsbD c.number.val

/-- LATCH of a class (R161). -/
def HubTable.latches (h : HubTable) (c : FaultClass) : Bool := h.latch.getLsbD c.number.val

/-- A clearing event of a flag: it clears the flag of a class that is not latched (R162). -/
def clearUnlatched (c : FaultClass) (i : Nat) (s : State) : State :=
  if s.tables.hub.latches c then s else { s with faults := s.faults.clearFlag c i }

/-- The flags after a write of the DETECT mask: every flag of a class that is off is cleared (R161). -/
def clearUndetected (detect : BitVec 10) (f : FaultState) : FaultState :=
  { f with flags := tabulate fun c => if detect.getLsbD c.val then f.flags[c] else 0 }

end Sys2Proof.Machine
end

