-- ==== Sys2Proof/Machine/Flasher.lean ====
section
/-! DEFINITION. The flasher: flash lengths (R112), the steps of a source (R115 to R117), the fail test (R118), hazard
over turn (R119), the settle (R120), contexts and lit states (R121, R122). -/

namespace Sys2Proof.Machine

/-- A time of a profile in milliseconds (R110). -/
def FlashTime.ms (t : FlashTime) : Nat :=
  match t.unit with
  | .fine => t.count * 10
  | .coarse => t.count * 100

/-- Cycle length of a flash (R112). -/
def cycleLengthOf (p : Profile) (fail : Bool) : Nat := max 20 (if fail then p.failcycle.ms else p.cycle.ms)

/-- ON length of a flash (R112): the pulse within 10 ms and the cycle less 10 ms, or in fail mode half the cycle
rounded down to a multiple of 10 ms and at least 10 ms. -/
def onLengthOf (p : Profile) (fail : Bool) : Nat :=
  let cycle := cycleLengthOf p fail
  if fail then max 10 (cycle / 2 / 10 * 10) else min (cycle - 10) (max 10 p.pulse.ms)

/-- The source of a side. -/
def FlashState.side (f : FlashState) : Side → FlashSource
  | .left => f.left
  | .right => f.right

/-- One of the three sources. -/
def FlashState.source (f : FlashState) : SourceId → FlashSource
  | .left => f.left
  | .right => f.right
  | .hazard => f.hazard

/-- The flasher with one source changed. -/
def FlashState.setSource (f : FlashState) (i : SourceId) (x : FlashSource) : FlashState :=
  match i with
  | .left => { f with left := x }
  | .right => { f with right := x }
  | .hazard => { f with hazard := x }

/-- A source is active in every state but IDLE (R113). -/
def FlashSource.active (x : FlashSource) : Bool := decide (x.phase ≠ .idle)

/-- A source is lit in ON and TRAIL (R113). -/
def FlashSource.lit (x : FlashSource) : Bool := decide (x.phase = .on) || decide (x.phase = .trail)

/-- The flash context of a side is active while HAZARD or the side's source is (R121). -/
def FlashState.context (f : FlashState) (d : Side) : Bool := f.hazard.active || (f.side d).active

/-- A side is lit by HAZARD while HAZARD is active, and by its own source otherwise (R122). -/
def FlashState.lit (f : FlashState) (d : Side) : Bool :=
  if f.hazard.active then f.hazard.lit else (f.side d).lit

/-- The fail item of a side in the STATE report (R128). -/
def FlashState.failItem (f : FlashState) : Side → Bool
  | .left => if f.hazard.active then f.hazard.failLeft else f.left.failLeft
  | .right => if f.hazard.active then f.hazard.failRight else f.right.failRight

/-- The profile a source reads (R111). -/
def Tables.profileOf (t : Tables) : SourceId → Profile
  | .left => t.profiles[t.hub.profileLeft]
  | .right => t.profiles[t.hub.profileRight]
  | .hazard => t.profiles[t.hub.profileHazard]

/-- A load entry lit by the flasher on a side (R118). -/
def LoadEntry.flashedOn (e : LoadEntry) (d : Side) : Bool :=
  (decide (e.kind = .indicator) || decide (e.kind = .stopturn)) && decide (e.side = d)

/-- A side is failing when one of its flashed outputs has its OPEN flag set (R118). -/
def failing (t : Tables) (f : FaultState) (d : Side) : Bool :=
  (List.finRange 12).any fun o => t.loads[o].flashedOn d && f.isSet .openLoad o.val

/-- The entry to ON from SETUP or OFF: fail test (R118), then the lengths of the cycle (R112). -/
def enterOn (t : Tables) (f : FaultState) (i : SourceId) (x : FlashSource) : FlashSource :=
  let failL := decide (i ≠ .right) && failing t f .left
  let failR := decide (i ≠ .left) && failing t f .right
  let fail := failL || failR
  let p := t.profileOf i
  { x with phase := .on, timer := some (onLengthOf p fail), onLength := onLengthOf p fail,
           cycleLength := cycleLengthOf p fail, failLeft := failL, failRight := failR }

/-- A source going to IDLE: the timer stops and the fail marks clear (R116, R119). -/
def FlashSource.toIdle (x : FlashSource) : FlashSource :=
  { x with phase := .idle, timer := none, failLeft := false, failRight := false }

/-- A source whose go signal is true (R115). -/
def goOn (t : Tables) (f : FaultState) (i : SourceId) (x : FlashSource) : FlashSource :=
  match x.phase with
  | .idle =>
    let setup := (t.profileOf i).setup.ms
    if setup = 0 then enterOn t f i x else { x with phase := .setup, timer := some setup }
  | .trail => { x with phase := .on }
  | .setup => x
  | .on => x
  | .off => x

/-- A source whose go signal is false (R116). -/
def goOff (t : Tables) (i : SourceId) (x : FlashSource) : FlashSource :=
  match x.phase with
  | .setup => x.toIdle
  | .off => x.toIdle
  | .on =>
    match (t.profileOf i).release with
    | .complete => { x with phase := .trail }
    | .cut => x.toIdle
  | .trail => x
  | .idle => x

/-- The step a source takes at the expiry of its phase timer (R117). -/
def phaseStep (t : Tables) (f : FaultState) (i : SourceId) (x : FlashSource) : FlashSource :=
  match x.phase with
  | .setup => enterOn t f i x
  | .off => enterOn t f i x
  | .on => { x with phase := .off, timer := some (x.cycleLength - x.onLength) }
  | .trail => x.toIdle
  | .idle => x

/-- A source turned by its go signal (R114 to R116). -/
def turn (t : Tables) (f : FaultState) (i : SourceId) (go : Bool) (x : FlashSource) : FlashSource :=
  if go then goOn t f i x else goOff t i x

/-- The settle of the sources (R120 steps 2 and 3): HAZARD first; if it has just become active LEFT and RIGHT are forced
to IDLE (R119); then LEFT and RIGHT by their go signals (R114). -/
def settleFlash (t : Tables) (faults : FaultState) (ign : Bool) (f : FlashState) : FlashState :=
  let h := turn t faults .hazard f.hazard.demand f.hazard
  let became := !f.hazard.active && h.active
  let l := if became then f.left.toIdle else f.left
  let r := if became then f.right.toIdle else f.right
  { hazard := h
    left := turn t faults .left (l.demand && ign && !h.active) l
    right := turn t faults .right (r.demand && ign && !h.active) r }

/-- The source id of a side. -/
def Side.sourceId : Side → SourceId
  | .left => .left
  | .right => .right

/-- The changeover gap of a context that begins on a side, with the flasher as it is after the settle (R123): the
profile of the source whose activation began it. -/
def gapLength (t : Tables) (after : FlashState) (d : Side) : Nat :=
  if after.hazard.active then (t.profileOf .hazard).gap.ms else (t.profileOf d.sourceId).gap.ms

end Sys2Proof.Machine
end

