-- ==== Sys2Proof/Machine/Loads.lean ====
section
/-! DEFINITION. The load controller: effective request (R92 to R95), drive (R96, R97), demand-off (R104), verbs on an
output (R80, R81, R83), contexts handed over by the flasher (R121, R123 to R125), and the load-entry write (R90). -/

namespace Sys2Proof.Machine

/-- The domain of an output allows it (R92, R95). -/
def domainAllows (e : LoadEntry) (ign : Bool) : Bool :=
  match e.domain with
  | .always => true
  | .ignition => ign

/-- An output of shed class c from 1 to 3 is shed from level 4 − c up (R94). -/
def isShed (e : LoadEntry) (level : Nat) : Bool := decide (1 ≤ e.shedClass) && decide (4 ≤ level + e.shedClass)

/-- The effective level of a fan (R95). -/
def effectiveLevel (h : HubTable) (e : LoadEntry) (ign : Bool) (shed fanLevel : Nat) : Nat :=
  let base := if domainAllows e ign then fanLevel else 0
  if isShed e shed then min base h.fanShedCap else base

/-- The request of a lamp, stop, indicator or stop/turn output (R92, R93); a gap holds a stop/turn lamp dark (R124). A
fan is driven by its actual duty instead (R96). -/
def requested (e : LoadEntry) (flash : FlashState) (ign : Bool) (shed : Nat) (x : OutLive) : Bool :=
  match e.kind with
  | .unused => false
  | .lamp => x.demand && domainAllows e ign && !isShed e shed
  | .stop => x.demand && domainAllows e ign && !isShed e shed
  | .indicator => flash.lit e.side
  | .stopturn =>
    if flash.context e.side then flash.lit e.side && x.gap.isNone else x.demand && domainAllows e ign
  | .fan => decide (0 < x.actual)

/-- The drive rule (R96). -/
def wantsDrive (e : LoadEntry) (flash : FlashState) (ign : Bool) (shed : Nat) (x : OutLive) : Bool :=
  requested e flash ign shed x && decide (x.protection = .normal)

/-- A drive-on of this output begins a soft start (R97): a lamp, a stop lamp, or a stop/turn lamp lit by its brake part,
with a ramp. -/
def softStarts (e : LoadEntry) (flash : FlashState) : Bool :=
  decide (e.ramp ≠ 0) &&
    match e.kind with
    | .lamp => true
    | .stop => true
    | .stopturn => !flash.context e.side
    | .unused => false
    | .indicator => false
    | .fan => false

/-- The duty at count k of a soft start of R counts (R97). -/
def rampDuty (ramp k : Nat) : Nat := if k < ramp then 25 + 75 * k / ramp else 100

/-- The wait of the check window after a drive-on (R99): the later end of the mask and of a ramp. -/
def windowWait (e : LoadEntry) (soft : Bool) : Nat := max e.mask (if soft then e.ramp * 10 else 0)

/-- A drive-on (R96, R97, R99). -/
def driveOn (e : LoadEntry) (soft : Bool) (x : OutLive) : OutLive :=
  { x with
    drive := true
    duty := if e.kind = .fan then x.duty else if soft then rampDuty e.ramp 0 else 100
    softStart := if soft then some 0 else none
    window := if windowWait e soft = 0 then .opened else .waiting (windowWait e soft) }

/-- A drive-off (R96, R99, R108). -/
def driveOff (x : OutLive) : OutLive :=
  { x with drive := false, duty := 0, softStart := none, window := .closed, stall := none }

/-- The drive of an output recomputed from the values after an event (R96); a stop/turn lamp that stays driven while the
flasher serves it is at 100 % with no soft start (R97). -/
def redrive (e : LoadEntry) (flash : FlashState) (ign : Bool) (shed : Nat) (x : OutLive) : OutLive :=
  if wantsDrive e flash ign shed x then
    if x.drive then
      if e.kind = .stopturn ∧ flash.context e.side = true then { x with duty := 100, softStart := none } else x
    else driveOn e (softStarts e flash) x
  else if x.drive then driveOff x
  else x

/-- The drive of one output recomputed. -/
def redriveOne (o : Fin 12) (s : State) : State :=
  { s with outs := modifyAt s.outs o (redrive s.tables.loads[o] s.flash s.supply.ign s.supply.shed) }

/-- The drives of all outputs recomputed. -/
def redriveAll (s : State) : State :=
  { s with outs := tabulate fun o => redrive s.tables.loads[o] s.flash s.supply.ign s.supply.shed s.outs[o] }

/-- The effective levels of all fans recomputed, at a change of IGN or of the shed level (R95). -/
def relevelFans (s : State) : State :=
  { s with outs := tabulate fun o =>
      if s.tables.loads[o].kind = .fan then
        { s.outs[o] with
          effective := effectiveLevel s.tables.hub s.tables.loads[o] s.supply.ign s.supply.shed s.outs[o].fanLevel }
      else s.outs[o] }

/-- What a demand-off does to the output itself (R104). -/
def released (x : OutLive) : OutLive :=
  { x with protection := .normal, trips := 0, retry := none, stall := none }

/-- A demand-off of an output (R104), which clears unlatched OVERLOAD and STALL flags (R105). The drive is recomputed by
the event that makes it. -/
def demandOff (o : Fin 12) (s : State) : State :=
  clearUnlatched .stall o.val
    (clearUnlatched .overload o.val { s with outs := modifyAt s.outs o released })

/-- A verb resolved for one target, LEVEL with its level (R77). -/
inductive Resolved where
  | on
  | off
  | toggle
  | level (n : Nat)
  deriving DecidableEq, Repr

/-- The on/off demand after a verb (R80, R82). -/
def Resolved.demand (v : Resolved) (held : Bool) : Bool :=
  match v with
  | .on => true
  | .off => false
  | .toggle => !held
  | .level n => decide (n ≠ 0)

/-- The fan level after a verb (R81). -/
def Resolved.fanLevel (v : Resolved) (level memory : Nat) : Nat :=
  match v with
  | .on => memory
  | .off => 0
  | .toggle => if level = 0 then memory else 0
  | .level n => n

/-- The fan level memory after a verb (R81). -/
def Resolved.fanMemory (v : Resolved) (memory : Nat) : Nat :=
  match v with
  | .on => memory
  | .off => memory
  | .toggle => memory
  | .level n => if n = 0 then memory else n

/-- A verb on the on/off demand of an output (R80); `releases` says that a demand going off is its demand-off (R104). -/
def verbOnLamp (o : Fin 12) (releases : Bool) (v : Resolved) (s : State) : State :=
  let held := s.outs[o].demand
  let s1 := { s with outs := modifyAt s.outs o fun x => { x with demand := v.demand held } }
  if held && !v.demand held && releases then demandOff o s1 else s1

/-- A verb on a fan (R81); its level going to 0 is its demand-off (R104). The effective level follows a change of the
fan level (R95). -/
def verbOnFan (o : Fin 12) (v : Resolved) (s : State) : State :=
  let x := s.outs[o]
  let level := v.fanLevel x.fanLevel x.fanMemory
  let effective :=
    if level = x.fanLevel then x.effective
    else effectiveLevel s.tables.hub s.tables.loads[o] s.supply.ign s.supply.shed level
  let s1 := { s with outs := modifyAt s.outs o fun y =>
      { y with fanLevel := level, fanMemory := v.fanMemory x.fanMemory, effective := effective } }
  if 0 < x.fanLevel ∧ level = 0 then demandOff o s1 else s1

/-- A resolved verb applied to an output's demand by its kind (R80, R81, R83). -/
def verbOnOutput (o : Fin 12) (v : Resolved) (s : State) : State :=
  match s.tables.loads[o].kind with
  | .unused => s
  | .indicator => s
  | .lamp => verbOnLamp o true v s
  | .stop => verbOnLamp o true v s
  | .stopturn => verbOnLamp o (!s.flash.context s.tables.loads[o].side) v s
  | .fan => verbOnFan o v s

/-- The drive bits of the outputs (R91). -/
def drives (s : State) : Vector Bool 12 := tabulate fun o => s.outs[o].drive

/-- The context of this output's side has ended, and that is its demand-off (R104, R121): an INDICATOR, or a STOPTURN
whose brake demand is OFF. So it is where IGN off ends the context (the model's reading, log 32). -/
def contextReleases (e : LoadEntry) (old new : FlashState) (x : OutLive) : Bool :=
  old.context e.side && !new.context e.side &&
    (decide (e.kind = .indicator) || (decide (e.kind = .stopturn) && !x.demand))

/-- The changeover gap of an output after a settle (R123, R124): started when the context begins on a stop/turn output
that was driven, discarded when it ends. -/
def gapAfter (t : Tables) (e : LoadEntry) (driven : Bool) (old new : FlashState) (x : OutLive) : Option Nat :=
  if e.kind ≠ .stopturn then x.gap
  else if !old.context e.side && new.context e.side then
    (if driven && decide (gapLength t new e.side ≠ 0) then some (gapLength t new e.side) else none)
  else if old.context e.side && !new.context e.side then none
  else x.gap

/-- The flasher's new sources handed to the load controller (R120 step 4): gaps and demand-offs of each output.
`before` holds the drives as they stood before the event (R123). -/
def handContexts (before : Vector Bool 12) (new : FlashState) (s : State) : State :=
  let s1 := { s with
    flash := new
    outs := tabulate fun o =>
      { s.outs[o] with gap := gapAfter s.tables s.tables.loads[o] before[o] s.flash new s.outs[o] } }
  (List.finRange 12).foldl
    (fun t o => if contextReleases s.tables.loads[o] s.flash new s.outs[o] then demandOff o t else t) s1

/-- The live state of an output after a write to its load entry, before its drive is recomputed (R90 steps 1 to 3,
R127). The steps do not name the latest current sample, which is kept (the model's choice, log 33). -/
def OutLive.rewritten (x : OutLive) : OutLive :=
  { x with
    demand := false, fanLevel := 0, fanMemory := 1, effective := 0, drive := false, duty := 0, softStart := none,
    window := .closed, protection := .normal, trips := 0, retry := none, actual := 0, stall := none,
    openGone := true, gap := none }

/-- What an accepted WRITE to a load entry does to its output (R90), with the tables already written. -/
def loadRewritten (o : Fin 12) (s : State) : State :=
  redriveOne o
    (clearUnlatched .stall o.val (clearUnlatched .overload o.val (clearUnlatched .openLoad o.val
      { s with outs := modifyAt s.outs o OutLive.rewritten })))

/-- The duty of an output as the outside reads it: a fan's is its actual duty (R97, R107, R179). -/
def shownDuty (e : LoadEntry) (x : OutLive) : Nat := if e.kind = .fan then x.actual else x.duty

end Sys2Proof.Machine
end

