-- ==== Sys2Proof/Machine/Matrix.lean ====
section
/-! DEFINITION. The action matrix: events and the links they fire (R74 to R76), resolution (R77), the hand-over of the
resolved verbs (R78), and ORDER events (R84 to R86). -/

namespace Sys2Proof.Machine

/-- Actions on the state in an order that the manual leaves open (log 3). Fewer than two leave nothing open. -/
def anyOrder (acts : List (State → State)) (s : State) : State :=
  match acts with
  | [] => s
  | [f] => f s
  | f :: g :: more =>
    runAll (permute Config.orderChoice s.choices (f :: g :: more))
      { s with choices := s.choices + (more.length + 2) }

/-- An event that links may name (R74): the edges of one pod, one condition edge, or one fault raise. -/
inductive MatrixEvent where
  | switch (pod : Fin 9) (rise fall : BitVec 12)
  | cond (entry : Fin 16) (rise : Bool)
  | fault (cls : FaultClass)
  deriving DecidableEq, Repr

/-- The edge a link asks for agrees with the edge of its source (R75). -/
def LinkEdge.agrees (e : LinkEdge) (rise fall : Bool) : Bool :=
  match e with
  | .rise => rise
  | .fall => fall
  | .any => rise || fall

/-- A link's kind, index and edge match an event (R72, R75). -/
def LinkEntry.matchesEvent (l : LinkEntry) (ev : MatrixEvent) : Bool :=
  match ev with
  | .switch pod rise fall =>
    decide (l.event = .switch) && decide (l.index / 16 = pod.val) &&
      l.edge.agrees (rise.getLsbD (l.index % 16)) (fall.getLsbD (l.index % 16))
  | .cond entry rise =>
    decide (l.event = .cond) && decide (l.index = entry.val) && l.edge.agrees rise (!rise)
  | .fault cls => decide (l.event = .fault) && decide (l.index = cls.number.val) && l.edge.agrees true false

/-- A link's guard holds with the truths as they stand (R76). -/
def LinkEntry.guardHolds (l : LinkEntry) (conds : Vector CondLive 16) : Bool :=
  match l.guard with
  | none => true
  | some c => conds[c].truth == l.sense

/-- The links that fire on an event (R75, R76). -/
def firingSet (s : State) (ev : MatrixEvent) : List LinkEntry :=
  s.tables.links.toList.filter fun l => l.valid && l.matchesEvent ev && l.guardHolds s.conds

/-- One resolved verb from the firing links of one target (R77). -/
def resolve (fs : List LinkEntry) : Option Resolved :=
  if fs.any fun l => l.verb = .on then some .on
  else if fs.any fun l => l.verb = .off then some .off
  else if fs.any fun l => l.verb = .level then
    some (.level (((fs.filter fun l => l.verb = .level).map fun l => l.level).foldl max 0))
  else if fs.isEmpty then none
  else some .toggle

/-- The resolved verbs of a firing set, one for each target it names (R77). -/
def resolvedVerbs (fs : List LinkEntry) (target : Fin 15) : Option Resolved :=
  resolve (fs.filter fun l => l.target = target)

/-- The target number of an output. -/
def outputTarget (o : Fin 12) : Fin 15 := ⟨o.val, by omega⟩

/-- The verbs on outputs, applied to their demands (R78). The outputs are independent of one another. -/
def applyOutputVerbs (verbs : Fin 15 → Option Resolved) (s : State) : State :=
  (List.finRange 12).foldl
    (fun t o => match verbs (outputTarget o) with
      | some v => verbOnOutput o v t
      | none => t) s

/-- The demand of a flash source after the verb for its pseudo-target, if there is one (R82). -/
def demandAfter (v : Option Resolved) (x : FlashSource) : FlashSource :=
  match v with
  | some r => { x with demand := r.demand x.demand }
  | none => x

/-- The verbs on the pseudo-targets, taken together, and the settle they make (R78, R82, R120). -/
def applyFlashVerbs (before : Vector Bool 12) (verbs : Fin 15 → Option Resolved) (s : State) : State :=
  let f : FlashState :=
    { left := demandAfter (verbs 12) s.flash.left
      right := demandAfter (verbs 13) s.flash.right
      hazard := demandAfter (verbs 14) s.flash.hazard }
  handContexts before (settleFlash s.tables s.faults s.supply.ign f) s

/-- The resolved verbs of one event handed to their owners (R78): to the load controller and to the flasher, in either
order, and then the drives recomputed from the values after the event (R96). -/
def handVerbs (verbs : Fin 15 → Option Resolved) (s : State) : State :=
  let toOutputs := (List.finRange 12).any fun o => (verbs (outputTarget o)).isSome
  let toFlasher := (verbs 12).isSome || (verbs 13).isSome || (verbs 14).isSome
  let acts :=
    (if toOutputs then [applyOutputVerbs verbs] else []) ++
      (if toFlasher then [applyFlashVerbs (drives s) verbs] else [])
  if acts.isEmpty then s else redriveAll (anyOrder acts s)

/-- One event taken whole by the action matrix (R74, R77, R78). -/
def matrixEvent (ev : MatrixEvent) (s : State) : State := handVerbs (resolvedVerbs (firingSet s ev)) s

/-- Some valid link matches an event, its guard apart. When none does, the event hands nothing over (R78). -/
def wakesMatrix (s : State) (ev : MatrixEvent) : Bool :=
  anyOf s.tables.links fun l => l.valid && l.matchesEvent ev

/-- The verb an ORDER's lane 0 names (R84). -/
def orderVerb (lane : Lane) : Option Resolved :=
  match lane.toNat / 256 with
  | 1 => some .on
  | 2 => some .off
  | 3 => some .toggle
  | 4 => if lane.toNat % 256 ≤ 4 then some (.level (lane.toNat % 256)) else none
  | _ => none

/-- The target an ORDER's tag names (R84). -/
def orderTarget (tag : BitVec 4) : Option (Fin 15) := if h : tag.toNat < 15 then some ⟨tag.toNat, h⟩ else none

/-- ORDERs to this target are allowed (R85). -/
def orderAllowed (t : Tables) (target : Fin 15) : Bool :=
  if h : target.val < 12 then t.loads[target.val].ordersAllowed else t.hub.ordersToFlasher

/-- One target's verb alone. -/
def onlyVerb (target : Fin 15) (v : Resolved) (t : Fin 15) : Option Resolved := if t = target then some v else none

/-- An ORDER handed over by the OBEY feed: checked (R85) and, if it passes, applied as its own event (R86). -/
def orderEvent (tag : BitVec 4) (lane : Lane) (s : State) : State :=
  match orderTarget tag, orderVerb lane with
  | some target, some v => if orderAllowed s.tables target then handVerbs (onlyVerb target v) s else s
  | _, _ => s

end Sys2Proof.Machine
end

