-- ==== Sys2Proof/Machine/Conditions.lean ====
section
/-! DEFINITION. The condition unit: operands (R64), predicates (R65), hysteresis (R66), evaluation (R67) and its edges
(R69). -/

namespace Sys2Proof.Machine

/-- The value of an operand, none when it is unordered (R64). -/
def operandValue (s : State) (kind : OperandKind) (index : Nat) : Option Nat :=
  match kind with
  | .slot =>
    match s.slots[index]? with
    | some x => if x.value = noReading then none else some x.value.toNat
    | none => none
  | .gauge =>
    match s.gauges[index]? with
    | some g => if g.state = .live then some g.p else none
    | none => none
  | .supply => some s.supply.vs
  | .current =>
    match s.outs[index]? with
    | some x => some x.current
    | none => none
  | .shed => some s.supply.shed
  | .const => some index

/-- The plain predicate on two ordered values (R65). -/
def Predicate.plain (p : Predicate) (a b : Nat) : Bool :=
  match p with
  | .eq => decide (a = b)
  | .lt => decide (a < b)
  | .le => decide (a ≤ b)
  | .unord => false
  | .neq => decide (a ≠ b)
  | .nlt => decide (b ≤ a)
  | .nle => decide (b < a)
  | .ord => true

/-- The truth when an operand is unordered (R65). -/
def Predicate.whenUnordered (p : Predicate) : Bool :=
  match p with
  | .eq => false
  | .lt => false
  | .le => false
  | .unord => true
  | .neq => true
  | .nlt => true
  | .nle => true
  | .ord => false

/-- A true entry stays true under hysteresis h (R66): its release test fails. Subtraction floors at 0. -/
def Predicate.keeps (p : Predicate) (a b h : Nat) : Bool :=
  match p with
  | .lt => decide (a < b + h)
  | .le => decide (a ≤ b + h)
  | .nlt => decide (b - h ≤ a)
  | .nle => decide (b - h < a)
  | .eq => decide (a = b)
  | .neq => decide (a ≠ b)
  | .unord => false
  | .ord => true

/-- One evaluation of an entry with its operands read (R66, R67). -/
def evaluate (e : CondEntry) (live : CondLive) (a b : Option Nat) : CondLive :=
  match a, b with
  | some x, some y =>
    let truth :=
      if !live.unordered && decide (e.bKind = .const) && live.truth then e.predicate.keeps x y e.hysteresis
      else e.predicate.plain x y
    { truth := truth, unordered := false }
  | _, _ => { truth := e.predicate.whenUnordered, unordered := true }

/-- An entry evaluated if it is valid and one of the operands concerned is its own (R67, R68). -/
def condAfter (s : State) (affects : OperandKind → Nat → Bool) (c : Fin 16) : CondLive :=
  let e := s.tables.conds[c]
  if e.valid && (affects e.aKind e.aIndex || affects e.bKind e.bIndex) then
    evaluate e s.conds[c] (operandValue s e.aKind e.aIndex) (operandValue s e.bKind e.bIndex)
  else s.conds[c]

/-- The edges between two sets of truths, in ascending entry number (R69). -/
def condEdges (old new : Vector CondLive 16) : List MatrixEvent :=
  (List.finRange 16).filterMap fun c =>
    if old[c].truth = new[c].truth then none else some (.cond c new[c].truth)

/-- The condition unit takes new values of the operands that `affects` names (R68, R69): every affected entry is
evaluated and its truth stored, then the edges go to the action matrix one at a time. -/
def evalConds (affects : OperandKind → Nat → Bool) (s : State) : State :=
  let new : Vector CondLive 16 := tabulate (condAfter s affects)
  (condEdges s.conds new).foldl (fun t ev => matrixEvent ev t) { s with conds := new }

/-- Some valid entry reads one of the operands concerned. -/
def condsConcerned (s : State) (affects : OperandKind → Nat → Bool) : Bool :=
  anyOf s.tables.conds fun e => e.valid && (affects e.aKind e.aIndex || affects e.bKind e.bIndex)

/-- The operand is one of these slots (R68). -/
def affectsSlots (changed : Fin 16 → Bool) (k : OperandKind) (i : Nat) : Bool :=
  decide (k = .slot) && (if h : i < 16 then changed ⟨i, h⟩ else false)

/-- The operand is this gauge channel (R68). -/
def affectsGauge (g : Fin 4) (k : OperandKind) (i : Nat) : Bool := decide (k = .gauge) && decide (i = g.val)

/-- The operand is the supply (R68). -/
def affectsSupply (k : OperandKind) (_i : Nat) : Bool := decide (k = .supply)

/-- The operand is this output's current (R68). -/
def affectsCurrent (o : Fin 12) (k : OperandKind) (i : Nat) : Bool := decide (k = .current) && decide (i = o.val)

/-- The operand is the shed level (R68). -/
def affectsShed (k : OperandKind) (_i : Nat) : Bool := decide (k = .shed)

end Sys2Proof.Machine
end

