-- ==== Sys2Proof/Machine/Frames.lean ====
section
/-! DEFINITION. The byte layout of a frame, its check byte and the port's checks (R4 to R8). -/

namespace Sys2Proof.Machine

/-- The frame number of a kind (R7). -/
def FrameKind.code : FrameKind → BitVec 3
  | .state => 1
  | .sample => 2
  | .order => 3
  | .mgmt => 4
  | .report => 5

/-- The kind a frame number names; 0, 6 and 7 name none (R6). -/
def FrameKind.ofCode (c : BitVec 3) : Option FrameKind :=
  if c = 1 then some .state else if c = 2 then some .sample else if c = 3 then some .order
  else if c = 4 then some .mgmt else if c = 5 then some .report else none

/-- The lane counts legal for a kind (R6). -/
def laneCountOk (k : FrameKind) (n : Nat) : Bool :=
  match k with
  | .state => decide (n = 1)
  | .sample => decide (1 ≤ n) && decide (n ≤ 4)
  | .order => decide (n = 1)
  | .mgmt => decide (1 ≤ n) && decide (n ≤ 6)
  | .report => decide (1 ≤ n) && decide (n ≤ 6)

/-- The bytes that n lanes take (R4). -/
def laneBytes (n : Nat) : Nat := (3 * n + 1) / 2

/-- The length of a frame of n lanes (R4). -/
def frameLength (n : Nat) : Nat := 4 + laneBytes n

/-- One bit of the check register (R8). -/
def crcBit (r : BitVec 8) : BitVec 8 := if r.msb then (r <<< 1) ^^^ 0x07#8 else r <<< 1

/-- One byte into the check register (R8). -/
def crcByte (r b : BitVec 8) : BitVec 8 :=
  crcBit (crcBit (crcBit (crcBit (crcBit (crcBit (crcBit (crcBit (r ^^^ b))))))))

/-- The check byte over a run of bytes (R8). -/
def crc (bytes : List Byte) : Byte := bytes.foldl crcByte 0xFF#8

/-- Lanes laid end to end, most significant bit first, a final half-byte zero (R7). -/
def packLanes : List Lane → List Byte
  | [] => []
  | [l] => [l.extractLsb' 4 8, l.extractLsb' 0 4 ++ 0#4]
  | l :: m :: r => l.extractLsb' 4 8 :: (l.extractLsb' 0 4 ++ m.extractLsb' 8 4) :: m.extractLsb' 0 8 :: packLanes r

/-- The first n lanes of the lane bytes; a pad half-byte is ignored (R7). -/
def unpackLanes : Nat → List Byte → List Lane
  | 0, _ => []
  | 1, a :: b :: _ => [a ++ b.extractLsb' 4 4]
  | n + 2, a :: b :: c :: r => (a ++ b.extractLsb' 4 4) :: (b.extractLsb' 0 4 ++ c) :: unpackLanes n r
  | _, _ => []

/-- Header byte 0 as sent (R7). -/
def headerByte0 (f : Frame) : Byte := (f.kind.code ++ f.hops) ++ 0#2

/-- Header byte 1 (R7). -/
def headerByte1 (f : Frame) : Byte := f.source ++ f.target

/-- Header byte 2 (R7). -/
def headerByte2 (f : Frame) : Byte := (f.tag ++ BitVec.ofBool f.cooked) ++ BitVec.ofNat 3 f.lanes.length

/-- The bytes of a frame before its check byte (R7). -/
def frameBody (f : Frame) : List Byte :=
  headerByte0 f :: headerByte1 f :: headerByte2 f :: packLanes f.lanes

/-- The bytes the transmitter sends for a frame, its check byte computed over them (R7, R8). -/
def encodeFrame (f : Frame) : List Byte := frameBody f ++ [crc (frameBody f)]

/-- The lane count of header byte 2 (R4). -/
def laneCount (b2 : Byte) : Nat := (b2.extractLsb' 0 3).toNat

/-- The fields of a complete frame's header and lanes, when its kind, source and lane count are legal (R6, R7). -/
def readFields (b0 b1 b2 : Byte) (lanes : List Byte) : Option Frame :=
  match FrameKind.ofCode (b0.extractLsb' 5 3) with
  | none => none
  | some k =>
    if b1.extractLsb' 4 4 = 15#4 ∨ laneCountOk k (laneCount b2) = false then none
    else some
      { kind := k, hops := b0.extractLsb' 2 3, source := b1.extractLsb' 4 4, target := b1.extractLsb' 0 4,
        tag := b2.extractLsb' 4 4, cooked := b2.getLsbD 3, lanes := unpackLanes (laneCount b2) lanes }

/-- The verdict on a frame that closed in CLOSING (R9): its fields when its check byte is right (R8) and it is not
malformed (R6), and none when it is bad. -/
def parseFrame (bytes : List Byte) : Option Frame :=
  match bytes with
  | b0 :: b1 :: b2 :: rest =>
    if rest.length = laneBytes (laneCount b2) + 1 ∧ crc bytes.dropLast = bytes.getLastD 0 then
      readFields b0 b1 b2 rest.dropLast
    else none
  | _ => none

/-- What a character does to a receiver (R3, R4, R5): byte 2 fixes the length, and a lane count of 7 has none. -/
def receiveByte (rx : Receiver) (b : Byte) : Receiver :=
  match rx with
  | .idle true => .receiving [b]
  | .idle false => .idle false
  | .receiving bytes =>
    let all := bytes ++ [b]
    if all.length < 3 then .receiving all
    else
      let n := laneCount (all.getD 2 0)
      if n = 7 then .discarding
      else if all.length < frameLength n then .receiving all else .closing all
  | .closing _ => .discarding
  | .discarding => .discarding

/-- What a character fault does to a receiver (R2). -/
def receiveFault (rx : Receiver) : Receiver :=
  match rx with
  | .idle true => .discarding
  | .idle false => .idle false
  | .receiving _ => .discarding
  | .closing _ => .discarding
  | .discarding => .discarding

/-- A port of the hub. -/
def State.port (s : State) : PortId → PortState
  | .fore => s.fore
  | .aft => s.aft

/-- The hub with one port changed. -/
def State.setPort (s : State) (p : PortId) (x : PortState) : State :=
  match p with
  | .fore => { s with fore := x }
  | .aft => { s with aft := x }

/-- The index of a port in the LINK and EGRESS classes (R159). -/
def portIndex : PortId → Nat
  | .fore => 0
  | .aft => 1

end Sys2Proof.Machine
end

