-- ==== Sys2Proof/Machine/Reports.lean ====
section
/-! DEFINITION. The report generator: lanes of the STATE report (R169), the pending list and its copies into the egress
queues (R12, R16, R168), STATE needs (R170), and the lanes of FAULT and REPLY reports (R171, R172). -/

namespace Sys2Proof.Machine

/-- A lane holding a whole number below 4096. -/
def laneOf (n : Nat) : Lane := BitVec.ofNat 12 n

/-- A truth as a number. -/
def bitOf (b : Bool) : Nat := if b then 1 else 0

/-- Twelve truths as a number, bit i for entry i. -/
def bits12 (v : Vector Bool 12) : Nat := ((List.finRange 12).map fun i => bitOf v[i] * 2 ^ i.val).sum

/-- Lane 0 of the STATE report: the drive bits (R169). -/
def lane0 (s : State) : Lane := laneOf (bits12 (drives s))

/-- The teach state as lane 1 carries it (R169). -/
def TeachState.code : TeachState → Nat
  | .idle => 0
  | .haveEmpty _ => 1
  | .committing => 2

/-- The items of lane 1, from bit 0 upward, but MGMT-OVERRUN (R169). -/
def lane1Items (s : State) : List Nat :=
  [bitOf (s.flash.lit .left), bitOf (s.flash.lit .right), bitOf s.flash.hazard.active, bitOf (s.flash.failItem .left),
   bitOf (s.flash.failItem .right), bitOf s.supply.ign, s.supply.shed, s.mgmt.teach.code, bitOf s.faults.lost]

/-- Lane 1 of the STATE report: its items at their bits (R169). -/
def lane1 (s : State) : Lane :=
  laneOf ((((lane1Items s).zip [1, 2, 4, 8, 16, 32, 64, 256, 1024]).map fun x => x.1 * x.2).sum + 2048 * bitOf s.reports.overrun)

/-- An event has changed lane 0 or lane 1 content (R169). The clearing of MGMT-OVERRUN is no such change (R170). -/
def lanesChanged (before after : State) : Bool :=
  decide (drives before ≠ drives after) || decide (lane1Items before ≠ lane1Items after) ||
    (!before.reports.overrun && after.reports.overrun)

/-- The position of a channel as the STATE report shows it (R147). -/
def shownPosition (e : GaugeEntry) (g : GaugeLive) : Lane :=
  match g.state with
  | .live => laneOf g.p
  | .fault =>
    match e.policy with
    | .hold => laneOf g.p
    | .mark => laneOf g.p
    | .park => noReading
  | .waiting => noReading
  | .nocurve => noReading

/-- The six lanes of a STATE report, as the hub stands (R169). -/
def stateLanes (s : State) : List Lane :=
  lane0 s :: lane1 s :: (List.finRange 4).map fun g => shownPosition s.tables.gauges[g] s.gauges[g]

/-- The frame record of a report at the moment of its copy (R12). -/
def reportRecord (s : State) (body : ReportBody) : FrameRecord :=
  let frame (target tag : BitVec 4) (lanes : List Lane) : Frame :=
    { kind := .report, hops := s.tables.hub.originHops, source := s.node, target := target, tag := tag,
      cooked := false, lanes := lanes }
  match body with
  | .state _ _ => { frame := frame 15 0 (stateLanes s), note := .report }
  | .reply target lanes _ restart =>
    { frame := frame target 1 lanes, note := if restart then .restartReply else .report }
  | .fault _ lanes => { frame := frame 15 2 lanes, note := .report }

/-- A copy of this report is outstanding for a port (R16). -/
def PendingReport.wants (r : PendingReport) : PortId → Bool
  | .fore => r.toFore
  | .aft => r.toAft

/-- A report after its copy for a port was made; a STATE report notes it (R170). -/
def PendingReport.copied (r : PendingReport) (p : PortId) (overrun : Bool) : PendingReport :=
  { body := match r.body with
      | .state _ all => .state true (all && overrun)
      | .reply t l c x => .reply t l c x
      | .fault n l => .fault n l
    toFore := r.toFore && decide (p ≠ .fore)
    toAft := r.toAft && decide (p ≠ .aft) }

/-- No copy of this report is outstanding. -/
def PendingReport.done (r : PendingReport) : Bool := !r.toFore && !r.toAft

/-- A STATE report joining the list now: its ports are the report port (R168), no copy made. -/
def newStateReport (h : HubTable) : PendingReport :=
  { body := .state false true, toFore := decide (h.reportPort ≠ .aft), toAft := decide (h.reportPort ≠ .fore) }

/-- The refresh timer as it starts: stopped while the setting is 0 (R170). -/
def refreshStart (h : HubTable) : Option Nat := if h.refresh = 0 then none else some h.refresh

/-- A STATE report put at the end of the list; the refresh timer restarts (R170). Copies are not made yet. -/
def enlistState (s : State) : State :=
  { s with reports := { s.reports with
      list := s.reports.list ++ [newStateReport s.tables.hub], refresh := refreshStart s.tables.hub } }

/-- The body is a STATE report. -/
def ReportBody.isState : ReportBody → Bool
  | .state _ _ => true
  | .reply _ _ _ _ => false
  | .fault _ _ => false

/-- What follows when a report leaves the list (R170): for a STATE report, MGMT-OVERRUN clears if every copy was made
with it set, and a held need makes a new STATE report join. -/
def afterLeaving (r : PendingReport) (s : State) : State :=
  match r.body with
  | .state _ all =>
    let s1 := if all then { s with reports := { s.reports with overrun := false } } else s
    if s1.reports.held then enlistState { s1 with reports := { s1.reports with held := false } } else s1
  | .reply _ _ _ _ => s
  | .fault _ _ => s

/-- The list split at the oldest report pending for a port (R16). -/
def splitAtWanting (p : PortId) : List PendingReport → Option (List PendingReport × PendingReport × List PendingReport)
  | [] => none
  | r :: rs =>
    if r.wants p then some ([], r, rs)
    else (splitAtWanting p rs).map fun (a, x, b) => (r :: a, x, b)

/-- The oldest report pending for a port copied into its queue, if there is one and the queue has a free place (R16). -/
def copyOne (p : PortId) (s : State) : Option State :=
  if (s.port p).queue.length < 8 then
    match splitAtWanting p s.reports.list with
    | none => none
    | some (a, r, b) =>
      let port := s.port p
      let s1 := s.setPort p { port with queue := port.queue ++ [reportRecord s r.body] }
      let r' := r.copied p s.reports.overrun
      if r'.done then some (afterLeaving r' { s1 with reports := { s1.reports with list := a ++ b } })
      else some { s1 with reports := { s1.reports with list := a ++ r' :: b } }
  else none

/-- Copies made while a report is pending for a port whose queue has a free place (R16). Each copy takes one of the 16
places, so 16 rounds are enough. -/
def copyReports : Nat → State → State
  | 0, s => s
  | n + 1, s =>
    match copyOne .fore s with
    | some t => copyReports n t
    | none =>
      match copyOne .aft s with
      | some t => copyReports n t
      | none => s

/-- A STATE report joins the list, and its copies are made where there is room (R16, R170). -/
def joinState (s : State) : State := copyReports 16 (enlistState s)

/-- A REPLY or FAULT report joins the list, and its copies are made where there is room (R16, R168). -/
def joinReport (r : PendingReport) (s : State) : State :=
  copyReports 16 { s with reports := { s.reports with list := s.reports.list ++ [r] } }

/-- A pending STATE report, with whether a copy of it was made. -/
def pendingState (l : List PendingReport) : Option Bool :=
  l.findSome? fun r => match r.body with
    | .state copied _ => some copied
    | .reply _ _ _ _ => none
    | .fault _ _ => none

/-- The report generator takes a STATE need (R170). -/
def stateNeed (s : State) : State :=
  match pendingState s.reports.list with
  | none => joinState s
  | some false => s
  | some true => { s with reports := { s.reports with held := true } }

/-- An ordinary REPLY is pending (R173). -/
def replyPending (l : List PendingReport) : Bool :=
  l.any fun r => match r.body with
    | .state _ _ => false
    | .reply _ _ commit _ => !commit
    | .fault _ _ => false

/-- A COMMIT reply is pending (R174). -/
def commitReplyPending (l : List PendingReport) : Bool :=
  l.any fun r => match r.body with
    | .state _ _ => false
    | .reply _ _ commit _ => commit
    | .fault _ _ => false

/-- This is the FAULT report of a capture slot (R166). -/
def PendingReport.ofSlot (r : PendingReport) (slot : Fin 2) : Bool :=
  match r.body with
  | .state _ _ => false
  | .reply _ _ _ _ => false
  | .fault n _ => decide (n = slot)

/-- The value of a record as lane 1 of the FAULT report and part 0 of READ-CAPTURE carry it (R171, R180). -/
def captureValue (r : CaptureRecord) : Nat :=
  match r.cls with
  | .openLoad => r.value / 10
  | .overload => r.value / 10
  | .stall => r.value / 10
  | .sender => r.value
  | .undervolt => r.value / 10
  | .overvolt => r.value / 10
  | .link => 0
  | .pod => 0
  | .egress => 0
  | .store => 0

/-- The lanes of a FAULT report (R171). -/
def faultLanes (slot : Fin 2) (r : CaptureRecord) : List Lane :=
  [laneOf (slot.val * 256 + r.cls.number.val * 16 + r.index), laneOf (captureValue r), laneOf (r.vs / 10),
    laneOf (r.uptime / 4096), laneOf (r.uptime % 4096)]

/-- The FAULT report of a filled slot as it joins the list: it goes to the report port as that stands then (R165, R168). -/
def faultReport (h : HubTable) (slot : Fin 2) (r : CaptureRecord) : PendingReport :=
  { body := .fault slot (faultLanes slot r), toFore := decide (h.reportPort ≠ .aft),
    toAft := decide (h.reportPort ≠ .fore) }

/-- A REPLY report for a requester: ticket, request code × 16 + status, data (R172). -/
def replyReport (r : Requester) (code : Nat) (status : Nat) (data : List Lane) (commit restart : Bool) :
    PendingReport :=
  { body := .reply r.source (r.ticket :: laneOf (code * 16 + status) :: data) commit restart
    toFore := decide (r.port = .fore), toAft := decide (r.port = .aft) }

end Sys2Proof.Machine
end

