-- ==== Sys2Proof/Machine/Ops.lean ====
section
/-! DEFINITION. The frame of one step: the reports an event makes wait until its end and then join in the order R168
gives. The fault unit's taking of a fault report (R160) and capture (R165). -/

namespace Sys2Proof.Machine

/-- An event under way: the hub as changed so far, and what joins the pending list at its end (R168): the REPLY, and the
slots filled with their records, whose FAULT reports are made as they join. -/
structure Ev where
  st : State
  reply : Option PendingReport
  faults : List (Fin 2 × CaptureRecord)

/-- An event at its beginning. -/
def Ev.start (s : State) : Ev := { st := s, reply := none, faults := [] }

/-- A change of the hub that makes no report. -/
def Ev.on (f : State → State) (e : Ev) : Ev := { e with st := f e.st }

/-- Actions of one event in an order that the manual leaves open (log 3). Fewer than two leave nothing open. -/
def anyOrderEv (acts : List (Ev → Ev)) (e : Ev) : Ev :=
  match acts with
  | [] => e
  | [f] => f e
  | f :: g :: more =>
    runAll (permute Config.orderChoice e.st.choices (f :: g :: more))
      { e with st := { e.st with choices := e.st.choices + (more.length + 2) } }

/-- The first FREE capture slot (R165). -/
def freeSlot (f : FaultState) : Option (Fin 2) :=
  if f.capture[0] = none then some 0 else if f.capture[1] = none then some 1 else none

/-- A capture attempt (R165): the record fills the first FREE slot and its FAULT report will join, or LOST is set. -/
def captureAttempt (c : FaultClass) (i value : Nat) (e : Ev) : Ev :=
  match freeSlot e.st.faults with
  | some slot =>
    let record : CaptureRecord :=
      { cls := c, index := i, value := value, vs := e.st.supply.vs, uptime := e.st.faults.uptime }
    { e with
      st := { e.st with faults := { e.st.faults with
        capture := modifyAt e.st.faults.capture slot fun _ => some record } }
      faults := e.faults ++ [(slot, record)] }
  | none => { e with st := { e.st with faults := { e.st.faults with lost := true } } }

/-- A POD raise waits for the pod's next update before its cause is gone (R58). -/
def noteRaise (c : FaultClass) (i : Nat) (s : State) : State :=
  match c with
  | .pod => if h : i < 9 then { s with pods := modifyAt s.pods ⟨i, h⟩ fun p => { p with seen := false } } else s
  | .openLoad => s
  | .overload => s
  | .stall => s
  | .sender => s
  | .undervolt => s
  | .overvolt => s
  | .link => s
  | .egress => s
  | .store => s

/-- The fault unit takes a fault report (R160): a raise sets the flag, makes a capture attempt and a fault event. -/
def reportFault (c : FaultClass) (i value : Nat) (e : Ev) : Ev :=
  if e.st.tables.hub.detects c && !e.st.faults.isSet c i then
    let raised := e.on fun s => noteRaise c i { s with faults := s.faults.setFlag c i }
    (captureAttempt c i value raised).on (matrixEvent (.fault c))
  else e

/-- The end of an event (R168, R169): a STATE need if lane 0 or lane 1 content has changed, then the REPLY, then the
FAULT reports in the order of their capture attempts, each to the report port as it stands when it joins. The content is compared
before and after the whole command, whatever events of the action matrix it holds (DEDUCED, log 36). -/
def finish (before : State) (e : Ev) : State :=
  let s1 := if lanesChanged before e.st then stateNeed e.st else e.st
  let s2 := match e.reply with
    | some r => joinReport r s1
    | none => s1
  e.faults.foldl (fun t x => joinReport (faultReport t.tables.hub x.1 x.2) t) s2

/-- One step taken whole from its beginning to its end. -/
def wholeEvent (f : Ev → Ev) (s : State) : State := finish s (f (Ev.start s))

/-- The outcome of a command that is an event of the running hub; in reset nothing is taken (R157). -/
def event (f : Ev → Ev) (s : State) : Host.Outcome State Fault Refusal :=
  .next (if s.inReset then s else wholeEvent f s)

end Sys2Proof.Machine
end

