-- ==== Sys2Proof/Machine/Gauges.lean ====
section
/-! DEFINITION. The gauge drivers: pipeline runs (R133 to R138), loss of the sender (R141, R143), duty without a run
(R139), ignition (R144), modulator (R140) and the reset of a channel (R130). -/

namespace Sys2Proof.Machine

/-- The position P from the damped F (R136). -/
def positionOf (f : Nat) : Nat := (f + 8) / 16

/-- The target mean voltage Vt at a drive position (R137). -/
def targetMean (e : GaugeEntry) (p : Nat) : Nat := e.vz + ((e.vfs - e.vz) * p + 500) / 1000

/-- The supply as compensation uses it: Vs clamped (R138). -/
def clampedVs (vs : Nat) : Nat := min 18000 (max 4000 vs)

/-- The duty for a target mean, and UNDERDRIVE (R138). -/
def compensate (vt vs : Nat) : Nat × Bool :=
  if clampedVs vs < vt then (1024, true) else (vt * 1024 / clampedVs vs, false)

/-- The drive position of a channel, if its state gives one (R132). -/
def drivePosition (e : GaugeEntry) (g : GaugeLive) : Option Nat :=
  match g.state with
  | .live => some g.p
  | .fault =>
    match e.policy with
    | .hold => some g.p
    | .mark => some e.mark
    | .park => none
  | .waiting => none
  | .nocurve => none

/-- D and UNDERDRIVE formed from the drive position while IGN is on, and 0 and clear otherwise (R132, R138). -/
def formDuty (e : GaugeEntry) (ign : Bool) (vs : Nat) (g : GaugeLive) : GaugeLive :=
  match drivePosition e g with
  | some p =>
    if ign then
      { g with d := (compensate (targetMean e p) vs).1, underdrive := (compensate (targetMean e p) vs).2 }
    else { g with d := 0, underdrive := false }
  | none => { g with d := 0, underdrive := false }

/-- A channel whose reading has gone, under its fault policy (R141). -/
def applyPolicy (e : GaugeEntry) (g : GaugeLive) : GaugeLive :=
  match e.policy with
  | .hold => { g with state := .fault }
  | .park => { g with state := .fault, f := 0, p := 0 }
  | .mark => { g with state := .fault, p := e.mark }

/-- The curve stage (R134): the curve's output, or without a curve the reading clamped to 0 to 1000. -/
def curveStage (t : Tables) (e : GaugeEntry) (r : Lane) : Nat :=
  match e.curve with
  | some c => t.curves[c].outputNat r.toNat
  | none => min 1000 r.toNat

/-- A channel's curve is in EDIT (R133). -/
def curveInEdit (t : Tables) (e : GaugeEntry) : Bool :=
  match e.curve with
  | some c => decide (t.curves[c].state = .edit)
  | none => false

/-- A channel after a run with a reading: last raw reading, damping (R135), position (R136), LIVE (R133). -/
def runReading (t : Tables) (e : GaugeEntry) (r : Lane) (g : GaugeLive) : GaugeLive :=
  let f := damp e.damping g.f (16 * curveStage t e r)
  { g with state := .live, f := f, p := positionOf f, lastRaw := r }

/-- A channel after a run without a reading (R133 step 2). -/
def runNoReading (e : GaugeEntry) (g : GaugeLive) : GaugeLive :=
  match g.state with
  | .waiting => g
  | .live => applyPolicy e g
  | .fault => applyPolicy e g
  | .nocurve => { g with state := .waiting }

/-- A channel after the state decision and the arithmetic of a run, its duty apart (R133). -/
def runPosition (t : Tables) (e : GaugeEntry) (r : Lane) (g : GaugeLive) : GaugeLive :=
  if curveInEdit t e then { g with state := .nocurve, f := 0, p := 0 }
  else if r = noReading then runNoReading e g
  else runReading t e r g

/-- A whole pipeline run of one channel (R133). -/
def gaugeRun (t : Tables) (e : GaugeEntry) (ign : Bool) (vs : Nat) (r : Lane) (g : GaugeLive) : GaugeLive :=
  formDuty e ign vs (runPosition t e r g)

/-- A run reports SENDER when it finds no reading in LIVE or FAULT (R143). -/
def reportsSender (t : Tables) (e : GaugeEntry) (r : Lane) (g : GaugeLive) : Bool :=
  !curveInEdit t e && decide (r = noReading) && (decide (g.state = .live) || decide (g.state = .fault))

/-- The conditions take a gauge update (R145), when one reads this channel. -/
def gaugeConds (g : Fin 4) (s : State) : List (Ev → Ev) :=
  if condsConcerned s (affectsGauge g) then [Ev.on (evalConds (affectsGauge g))] else []

/-- A pipeline run of channel g with its slot's value r, as a gauge update (R133, R145): the channel first completes its
state, and an unlatched SENDER flag clears as it leaves FAULT (R143); then conditions and fault unit take their parts,
in either order. -/
def runChannel (g : Fin 4) (r : Lane) (e : Ev) : Ev :=
  let s := e.st
  let entry := s.tables.gauges[g]
  let old := s.gauges[g]
  let new := gaugeRun s.tables entry s.supply.ign s.supply.vs r old
  let s1 := { s with gauges := modifyAt s.gauges g fun _ => new }
  let s2 := if old.state = .fault ∧ new.state ≠ .fault then clearUnlatched .sender g.val s1 else s1
  let report :=
    if reportsSender s.tables entry r old then [reportFault .sender g.val new.lastRaw.toNat] else []
  anyOrderEv (gaugeConds g s2 ++ report) { e with st := s2 }

/-- A channel after a write to its entry or a teach completion (R130). An on-millisecond in progress lasts until the next
step, as at IGN off (the model's reading, log 31). -/
def GaugeLive.rewritten (g : GaugeLive) : GaugeLive :=
  { g with state := .waiting, f := 0, p := 0, d := 0, underdrive := false, lastRaw := noReading }

/-- The reset of a channel as a gauge update (R130, R145). -/
def resetChannel (g : Fin 4) (s : State) : State :=
  evalConds (affectsGauge g)
    (clearUnlatched .sender g.val { s with gauges := modifyAt s.gauges g GaugeLive.rewritten })

/-- D formed again for every channel from the position held (R139). -/
def reformDuties (s : State) : State :=
  { s with gauges := tabulate fun g => formDuty s.tables.gauges[g] s.supply.ign s.supply.vs s.gauges[g] }

/-- The gauge drivers at a change of IGN (R139, R144). -/
def gaugesAtIgn (s : State) : State :=
  if s.supply.ign then reformDuties s
  else { s with gauges := tabulate fun g => { s.gauges[g] with d := 0, acc := 0, underdrive := false } }

/-- One modulator step of a channel (R140). -/
def modulate (g : GaugeLive) : GaugeLive :=
  if 1024 ≤ g.acc + g.d then { g with acc := g.acc + g.d - 1024, out := true }
  else { g with acc := g.acc + g.d, out := false }

end Sys2Proof.Machine
end

