-- ==== Sys2Proof/Machine/Supply.lean ====
section
/-! DEFINITION. The supply monitor: the Vs filter (R149), the voltage tests (R150, R151), the shed timers (R153, R154),
the shed level (R155) and the ignition level (R156). -/

namespace Sys2Proof.Machine

/-- A supply sample in millivolts, clamped (R148). -/
def clampSupply (mv : Nat) : Nat := min 20000 mv

/-- The restore threshold in use (R154). -/
def restoreThreshold (h : HubTable) : Nat := max h.vrestore (h.venter + 100)

/-- A timer that runs on while its condition holds, starts if it is stopped, and stops when the condition fails. -/
def holdTimer (condition : Bool) (length : Nat) (t : Option Nat) : Option Nat :=
  if condition then some (t.getD length) else none

/-- The supply monitor's own part of a Vs update, with the new Vs held: the shed timers (R153, R154) and the causes of
the two classes (R150, R151). -/
def monitorAtVs (h : HubTable) (x : SupplyState) : SupplyState :=
  { x with
    enter := holdTimer (decide (x.vs < h.venter)) (h.enterDwell * 1000) x.enter
    restore := holdTimer (decide (restoreThreshold h < x.vs)) (h.restoreDwell * 1000) x.restore
    uvGone := decide (h.uv + 300 ≤ x.vs)
    ovGone := decide (x.vs + 300 ≤ h.ov) }

/-- A Vs update handed on, with the new Vs held (R148): timers, unlatched flags whose cause is gone and gauge duties
(R139), then the reports of UNDERVOLT and OVERVOLT and the SUPPLY conditions, in any order. -/
def handOnVs (e : Ev) : Ev :=
  let s := e.st
  let h := s.tables.hub
  let s1 := { s with supply := monitorAtVs h s.supply }
  let s2 := if s1.supply.uvGone then clearUnlatched .undervolt 0 s1 else s1
  let s3 := if s1.supply.ovGone then clearUnlatched .overvolt 0 s2 else s2
  let low := if s.supply.vs < h.uv then [reportFault .undervolt 0 s.supply.vs] else []
  let high := if h.ov < s.supply.vs then [reportFault .overvolt 0 s.supply.vs] else []
  let conds := if condsConcerned s affectsSupply then [Ev.on (evalConds affectsSupply)] else []
  anyOrderEv (low ++ high ++ conds) { e with st := reformDuties s3 }

/-- A change of the shed level handed on (R155): effective levels and drives, then the SHED conditions. -/
def shedChanged (level : Nat) (s : State) : State :=
  evalConds affectsShed (redriveAll (relevelFans { s with supply := { s.supply with shed := level } }))

/-- The enter timer's expiry (R153). -/
def enterExpired (s : State) : State :=
  let s1 := { s with supply := { s.supply with enter := some (s.tables.hub.enterDwell * 1000) } }
  if s.supply.shed < 3 then shedChanged (s.supply.shed + 1) s1 else s1

/-- The restore timer's expiry (R154). -/
def restoreExpired (s : State) : State :=
  let s1 := { s with supply := { s.supply with restore := some (s.tables.hub.restoreDwell * 1000) } }
  if 0 < s.supply.shed then shedChanged (s.supply.shed - 1) s1 else s1

/-- The flasher's settle at a change of IGN (R120), contexts compared with those before it. -/
def settleNow (before : Vector Bool 12) (s : State) : State :=
  handContexts before (settleFlash s.tables s.faults s.supply.ign s.flash) s

/-- The ignition level changes (R156): flasher, fans and drives, gauge drivers, each from the new level. -/
def ignChanged (level : Bool) (s : State) : State :=
  gaugesAtIgn (redriveAll (relevelFans (settleNow (drives s) { s with supply := { s.supply with ign := level } })))

end Sys2Proof.Machine
end

