-- ==== Sys2Proof/Machine/Switches.lean ====
section
/-! DEFINITION. The switch image: pod updates (R56) and expiry (R57), the debouncers of the local inputs (R60, R61) and
the events they make (R62). -/

namespace Sys2Proof.Machine

/-- A pod 0 to 7 as a pod of the image. -/
def linkPod (p : Fin 8) : Fin 9 := ⟨p.val, by omega⟩

/-- The RISE edges of an update (R56): every set bit of an unknown pod, every bit gone from 0 to 1 of a known one. -/
def podRises (old : PodLive) (bits : BitVec 12) : BitVec 12 := if old.known then bits &&& ~~~old.bits else bits

/-- The FALL edges of an update (R56). -/
def podFalls (old : PodLive) (bits : BitVec 12) : BitVec 12 := if old.known then old.bits &&& ~~~bits else 0

/-- A switch event handed to the action matrix if it carries an edge (R56, R62). -/
def switchEvent (pod : Fin 9) (rise fall : BitVec 12) (s : State) : State :=
  if rise = 0 ∧ fall = 0 then s else matrixEvent (.switch pod rise fall) s

/-- A pod timer as it starts with a timeout (R55, R56). -/
def podTimerStart (timeout : Nat) : Option Nat := if timeout = 0 then none else some (timeout * 100)

/-- An update of pod p with twelve bits (R56). -/
def updatePod (p : Fin 8) (bits : BitVec 12) (s : State) : State :=
  let old := s.pods[linkPod p]
  let s1 := { s with pods := modifyAt s.pods (linkPod p) fun _ =>
    { bits := bits, known := true, timer := podTimerStart s.tables.podTimeouts[p], seen := true } }
  switchEvent (linkPod p) (podRises old bits) (podFalls old bits) (clearUnlatched .pod p.val s1)

/-- The expiry of a known pod's timer (R57): the FALL event, then the POD report (R74). -/
def podExpired (p : Fin 8) (e : Ev) : Ev :=
  let old := e.st.pods[linkPod p]
  reportFault .pod p.val 0 (e.on fun s =>
    switchEvent (linkPod p) 0 old.bits
      { s with pods := modifyAt s.pods (linkPod p) fun x => { x with bits := 0, known := false, timer := none } })

/-- A pin level at a debouncer whose debounce time is `length` (R60, R61): leaving the settled level starts the hold timer,
returning to it stops it; before the first settled level every change starts it again with the length it has. -/
def Debouncer.pinChange (length : Nat) (level : Bool) (d : Debouncer) : Debouncer :=
  if level = d.pin then d
  else match d.settled with
    | none => { d with pin := level }
    | some l => { d with pin := level, hold := if level = l then none else some length }

/-- The settled level takes the pin's level (R60, R61). -/
def Debouncer.settle (d : Debouncer) : Debouncer := { d with settled := some d.pin, hold := none }

/-- Bit i of a word set to a level. -/
def withBit (b : BitVec 12) (i : Nat) (level : Bool) : BitVec 12 :=
  if level then b ||| (1#12 <<< i) else b &&& ~~~(1#12 <<< i)

/-- Pod 8 after input i has settled (R59): the bit, and known once every input has a settled level. -/
def localPodAfter (inputs : Vector Debouncer 9) (i : Fin 9) (level : Bool) (p : PodLive) : PodLive :=
  { p with bits := withBit p.bits i.val level, known := p.known || allOf inputs fun d => d.settled.isSome }

/-- A local input settles (R60, R61, R62): its bit in pod 8, its edge as an event of its own, and for IGN the level
handed to the supply monitor, the two in either order (R87, R120). -/
def inputSettled (i : Fin 9) (s : State) : State :=
  let d := s.inputs[i]
  let old := d.settled.getD false
  let inputs := modifyAt s.inputs i Debouncer.settle
  let s1 := { s with inputs := inputs, pods := modifyAt s.pods 8 (localPodAfter inputs i d.pin) }
  let mask := 1#12 <<< i.val
  let rise := if d.pin && !old then mask else 0
  let fall := if !d.pin && old then mask else 0
  let ign := if i = 8 ∧ d.pin ≠ s.supply.ign then [ignChanged d.pin] else []
  let edge := if wakesMatrix s (.switch 8 rise fall) then [switchEvent 8 rise fall] else []
  anyOrder (ign ++ edge) s1

end Sys2Proof.Machine
end

