-- ==== Sys2Proof/Machine/Slots.lean ====
section
/-! DEFINITION. The sample slots: updates (R47), expiry (R48), the emptying by a write (R51), and the hand-on to
conditions and gauge channels (R49). -/

namespace Sys2Proof.Machine

/-- A slot after an update with v (R47): the ceiling test, FRESH, the age timer restarted. -/
def SlotLive.updated (c : SlotConfig) (v : Lane) : SlotLive :=
  { value := if c.ceiling < v.toNat then noReading else v, state := .fresh, age := some (c.timeout * 100) }

/-- A slot after the expiry of its age timer (R48). -/
def SlotLive.expired : SlotLive := { value := noReading, state := .stale, age := none }

/-- The hand-on of the slots that changed in one event (R49): the conditions that read them are evaluated once (R68),
and each channel sourced from one runs its pipeline (R133), in any order. -/
def handOnSlots (changed : Fin 16 → Bool) (e : Ev) : Ev :=
  let s := e.st
  let conds :=
    if condsConcerned s (affectsSlots changed) then [Ev.on (evalConds (affectsSlots changed))] else []
  let runs := (List.finRange 4).filterMap fun g =>
    match s.tables.gauges[g].source with
    | some k => if changed k then some (runChannel g s.slots[k].value) else none
    | none => none
  anyOrderEv (conds ++ runs) e

/-- A slot after an event that delivers a value to it or not (R47). -/
def slotAfter (c : SlotConfig) (v : Option Lane) (x : SlotLive) : SlotLive :=
  match v with
  | some l => SlotLive.updated c l
  | none => x

/-- Slots updated together in one event (R31, R50): each slot that `vals` names takes its value, then the hand-on. -/
def updateSlots (vals : Fin 16 → Option Lane) (e : Ev) : Ev :=
  handOnSlots (fun k => (vals k).isSome)
    (e.on fun s => { s with slots := tabulate fun k => slotAfter s.tables.slots[k] (vals k) s.slots[k] })

/-- The values one SAMPLE frame delivers (R31): to each LINK slot bound to its source, tag and one of its lanes, as it
arrived or as it leaves. -/
def linkValues (s : State) (source tag : BitVec 4) (arrived outgoing : List Lane) (k : Fin 16) : Option Lane :=
  let c := s.tables.slots[k]
  if c.binding = .link ∧ c.node = source ∧ c.tag = tag then
    match c.take with
    | .raw => arrived[c.lane]?
    | .cooked => outgoing[c.lane]?
  else none

/-- A converter result of 4095 is clamped to 4094 (R50). -/
def clampSample (v : Lane) : Lane := if v = noReading then 4094#12 else v

/-- The values one sampling of AN0 to AN3 delivers to the LOCAL slots (R50). -/
def localValues (s : State) (samples : Vector Lane 4) (k : Fin 16) : Option Lane :=
  let c := s.tables.slots[k]
  if c.binding = .loc then some (clampSample samples[c.input]) else none

/-- One slot set to a live state, and handed on (R48, R51). -/
def setSlot (k : Fin 16) (x : SlotLive) (e : Ev) : Ev :=
  handOnSlots (fun j => decide (j = k)) (e.on fun s => { s with slots := modifyAt s.slots k fun _ => x })

end Sys2Proof.Machine
end

