-- ==== Sys2Proof/Machine/Teach.lean ====
section
/-! DEFINITION. The table store's commit (R182, R183) and the teach line (R185 to R187). -/

namespace Sys2Proof.Machine

/-- A commit starts (R182): the marker is made invalid and the image is written from the working tables. -/
def startCommit (origin : CommitOrigin) (s : State) : State :=
  { s with
    store := { valid := false, image := s.tables }
    mgmt := { s.mgmt with service := .committing origin } }

/-- A commit is in progress (R173). -/
def committing (s : State) : Bool :=
  match s.mgmt.service with
  | .idle => false
  | .committing _ => true
  | .restarting => false

/-- The teach sequence in HAVE-EMPTY ends with no change; in another state nothing happens (R187). -/
def cancelTeach (s : State) : State :=
  match s.mgmt.teach with
  | .haveEmpty _ => { s with mgmt := { s.mgmt with teach := .idle, window := none } }
  | .idle => s
  | .committing => s

/-- What a press works on when the conditions of R186 hold: the teach gauge, its curve, and the reading of its slot. -/
def pressSource (s : State) : Option (Fin 4 × Fin 8 × Lane) :=
  match s.tables.hub.teachGauge with
  | none => none
  | some g =>
    match s.tables.gauges[g].source, s.tables.gauges[g].curve with
    | some k, some c =>
      if s.slots[k].state = .fresh ∧ s.slots[k].value ≠ noReading ∧ s.tables.curves[c].state = .inService ∧
          committing s = false then
        some (g, c, s.slots[k].value)
      else none
    | _, _ => none

/-- The window a first press starts, in milliseconds (R186). -/
def teachWindow : Nat := 30000

/-- The two readings of an accepted second press differ by at least 16 (R187). -/
def readingsApart (a b : Lane) : Bool := decide (a.toNat + 16 ≤ b.toNat) || decide (b.toNat + 16 ≤ a.toNat)

/-- An accepted second press (R187): the curve's points (R44), the gauge's reset (R130), the commit (R182). -/
def completeTeach (g : Fin 4) (c : Fin 8) (emptyReading fullReading : Lane) (s : State) : State :=
  let s1 := { s with
    mgmt := { s.mgmt with window := none }
    tables := { s.tables with curves := modifyAt s.tables.curves c fun x => x.taught emptyReading fullReading } }
  let s2 := startCommit .teach (resetChannel g s1)
  { s2 with mgmt := { s2.mgmt with teach := .committing } }

/-- A press of the teach button, by the teach state (R186, R187). -/
def press (s : State) : State :=
  match s.mgmt.teach with
  | .committing => s
  | .idle =>
    match pressSource s with
    | some (_, _, v) => { s with mgmt := { s.mgmt with teach := .haveEmpty v, window := some teachWindow } }
    | none => s
  | .haveEmpty e =>
    match pressSource s with
    | some (g, c, v) => if readingsApart e v then completeTeach g c e v s else cancelTeach s
    | none => cancelTeach s

/-- A falling edge of the TEACH line (R185): it acts and starts the lockout, unless the lockout runs or a restart is
awaited. -/
def teachEdge (s : State) : State :=
  if s.mgmt.lockout.isSome ∨ s.mgmt.service = .restarting then s
  else press { s with mgmt := { s.mgmt with lockout := some 2000 } }

/-- The store and the service state after a commit that verified or failed (R182, R183). -/
def commitEnded (verified : Bool) (s : State) : State :=
  { s with store := { s.store with valid := verified }, mgmt := { s.mgmt with service := .idle } }

/-- The teach state returns to IDLE at the completion of its commit (R182, R183). -/
def teachReturns (s : State) : State := { s with mgmt := { s.mgmt with teach := .idle } }

/-- The COMMIT reply of a completed commit (R168, R172). -/
def commitReply (r : Requester) (verified : Bool) : PendingReport := replyReport r 5 (if verified then 0 else 10) [] true false

/-- The completion of the commit in progress (R182, R183). -/
def completeCommit (verified : Bool) (e : Ev) : Ev :=
  match e.st.mgmt.service with
  | .idle => e
  | .restarting => e
  | .committing origin =>
    let e1 := e.on (commitEnded verified)
    let e2 := match origin with
      | .request r => { e1 with reply := some (commitReply r verified) }
      | .teach => e1.on teachReturns
    if verified then e2.on (clearUnlatched .store 0) else reportFault .store 0 0 e2

end Sys2Proof.Machine
end

