-- ==== Sys2Proof/Machine/Requests.lean ====
section
/-! DEFINITION. The management engine: acceptance (R173), the checks of a request (R174) and the service of each request
code (R175 to R180, R182, R184), with the live effects of a WRITE. -/

namespace Sys2Proof.Machine

/-- The answer of a served request: status and data lanes; none where a COMMIT reply comes later (R182). -/
abbrev Answer := Option (Status × List Lane)

/-- A request is accepted (R173): no restart is awaited and no ordinary REPLY is pending. -/
def acceptsRequest (s : State) : Bool :=
  match s.mgmt.service with
  | .idle => !replyPending s.reports.list
  | .committing _ => !replyPending s.reports.list
  | .restarting => false

/-- A discarded request sets MGMT-OVERRUN (R170, R173). -/
def setOverrun (s : State) : State := { s with reports := { s.reports with overrun := true } }

/-- A request handed to the engine: served with its ordinary REPLY joining at the end of the event, or discarded
(R173). The reply of a served RESTART is marked, since its transmission is waited for (R184). -/
def requestEvent (r : Requester) (code : Nat) (serve : Ev → Ev × Answer) (e : Ev) : Ev :=
  if acceptsRequest e.st then
    match serve e with
    | (e', some (status, data)) =>
      { e' with reply := some (replyReport r code status.code data false (decide (code = 10 ∧ status = .ok))) }
    | (e', none) => e'
  else e.on setOverrun

/-- A refusal, which changes nothing (R174). -/
def refuse (status : Status) (e : Ev) : Ev × Answer := (e, some (status, []))

/-- Step 2 of R174: too few lanes gives BADREQ. -/
def needLanes (n : Nat) (lanes : List Lane) (serve : Ev → Ev × Answer) (e : Ev) : Ev × Answer :=
  if lanes.length < n then refuse .badReq e else serve e

/-- Step 3 of R174: BUSY while COMMITTING. -/
def unlessCommitting (serve : Ev → Ev × Answer) (e : Ev) : Ev × Answer :=
  if committing e.st then refuse .busy e else serve e

/-- A data lane as a number; lanes that are absent read 0 (only where the request has none to give). -/
def laneNat (lanes : List Lane) (i : Nat) : Nat := (lanes.getD i 0).toNat

/-- A 24-bit value as two lanes (R174). -/
def twoLanes (v : Nat) : List Lane := [laneOf (v / 4096), laneOf (v % 4096)]

/-- The store state of IDENT (R175). -/
def storeState (s : State) : Status :=
  if committing s then .busy else if s.store.valid then .ok else .noStore

/-- The curve edit states of IDENT, bit c set while curve c is in EDIT (R175). -/
def editStates (t : Tables) : Nat :=
  ((List.finRange 8).map fun c => bitOf (decide (t.curves[c].state = .edit)) * 2 ^ c.val).sum

/-- IDENT (R175). -/
def serveIdent (e : Ev) : Ev × Answer :=
  (e, some (.ok, [416, 1, laneOf (e.st.node.toNat * 16 + (storeState e.st).code), laneOf (editStates e.st.tables)]))

/-- READ (R176). -/
def serveRead (lanes : List Lane) : Ev → Ev × Answer :=
  needLanes 2 lanes fun e =>
    let table := laneNat lanes 0 / 256
    let index := laneNat lanes 0 % 256
    let field := laneNat lanes 1
    match addressStatus table index field with
    | .ok =>
      match e.st.tables.readField table index field with
      | some v => (e, some (.ok, twoLanes v))
      | none => refuse .badField e
    | status => refuse status e

/-- A write to the POD table restarts or stops the timer of a known pod (R55). -/
def podTimeoutWritten (p : Fin 8) (s : State) : State :=
  if s.pods[linkPod p].known then
    { s with pods := modifyAt s.pods (linkPod p) fun x => { x with timer := podTimerStart s.tables.podTimeouts[p] } }
  else s

/-- A write to a condition entry sets its truth to false and clears its mark, without an edge (R70). -/
def conditionWritten (c : Fin 16) (s : State) : State :=
  { s with conds := modifyAt s.conds c fun _ => CondLive.reset }

/-- A write to a gauge entry resets its channel (R130); on the teach gauge it ends a waiting sequence (R187). -/
def gaugeEntryWritten (g : Fin 4) (s : State) : State :=
  resetChannel g (if s.tables.hub.teachGauge = some g then cancelTeach s else s)

/-- A write of the DETECT mask clears the flags of the classes turned off (R161). -/
def detectWritten (s : State) : State := { s with faults := clearUndetected s.tables.hub.detect s.faults }

/-- A write of the refresh setting stops or restarts the timer (R170). -/
def refreshWritten (s : State) : State :=
  { s with reports := { s.reports with refresh := refreshStart s.tables.hub } }

/-- The live effects of an accepted WRITE to a hub field (R161, R170, R177, R187). -/
def hubWritten (field : Nat) (s : State) : State :=
  match field with
  | 2 => refreshWritten s
  | 20 => cancelTeach s
  | 21 => detectWritten s
  | _ => s

/-- The live effects of an accepted WRITE, with the field already changed (R51, R55, R70, R90, R130, R177). -/
def writeEffect (table index field : Nat) (e : Ev) : Ev :=
  match table with
  | 2 => if h : index < 16 then setSlot ⟨index, h⟩ SlotLive.empty e else e
  | 3 => if h : index < 8 then e.on (podTimeoutWritten ⟨index, h⟩) else e
  | 4 => if h : index < 16 then e.on (conditionWritten ⟨index, h⟩) else e
  | 6 => if h : index < 12 then e.on (loadRewritten ⟨index, h⟩) else e
  | 8 => if h : index < 4 then e.on (gaugeEntryWritten ⟨index, h⟩) else e
  | 9 => e.on (hubWritten field)
  | _ => e

/-- The checks and the effects of one field write (R174 step 4, R176). -/
def writeField (table index field value : Nat) (e : Ev) : Ev × Answer :=
  match e.st.tables.writeChecked table index field value with
  | (.ok, t) => (writeEffect table index field (e.on fun s => { s with tables := t }), some (.ok, []))
  | (status, _) => refuse status e

/-- WRITE (R176). -/
def serveWrite (lanes : List Lane) : Ev → Ev × Answer :=
  needLanes 4 lanes (unlessCommitting
    (writeField (laneNat lanes 0 / 256) (laneNat lanes 0 % 256) (laneNat lanes 1)
      (laneNat lanes 2 * 4096 + laneNat lanes 3)))

/-- The lanes of a WRITE of one field (R174). -/
def writeLanes (table : Nat) (index : BitVec 8) (field : Lane) (value : BitVec 24) : List Lane :=
  [laneOf (table * 256 + index.toNat), field, laneOf (value.toNat / 4096), laneOf (value.toNat % 4096)]

/-- OPEN-CURVE on the teach gauge's curve ends a sequence in HAVE-EMPTY (R40). -/
def teachGaugeReads (t : Tables) (c : Fin 8) : Bool :=
  match t.hub.teachGauge with
  | some g => decide (t.gauges[g].curve = some c)
  | none => false

/-- A curve put into a state. -/
def setCurveState (c : Fin 8) (x : CurveState) (s : State) : State :=
  { s with tables := { s.tables with curves := modifyAt s.tables.curves c fun k => { k with state := x } } }

/-- OPEN-CURVE served (R40). -/
def openCurve (c : Fin 8) (s : State) : State :=
  setCurveState c .edit (if teachGaugeReads s.tables c then cancelTeach s else s)

/-- OPEN-CURVE (R40, R180). -/
def serveOpenCurve (lanes : List Lane) : Ev → Ev × Answer :=
  needLanes 1 lanes (unlessCommitting fun e =>
    if h : laneNat lanes 0 < 8 then (e.on (openCurve ⟨laneNat lanes 0, h⟩), some (.ok, []))
    else refuse .badIndex e)

/-- CLOSE-CURVE (R42, R180). -/
def serveCloseCurve (lanes : List Lane) : Ev → Ev × Answer :=
  needLanes 1 lanes (unlessCommitting fun e =>
    if h : laneNat lanes 0 < 8 then
      let c : Fin 8 := ⟨laneNat lanes 0, h⟩
      match e.st.tables.curves[c].state with
      | .inService => refuse .notEdit e
      | .edit =>
        match e.st.tables.curves[c].offending with
        | some i => (e, some (.badCurve, [laneOf i]))
        | none => (e.on (setCurveState c .inService), some (.ok, []))
    else refuse .badIndex e)

/-- COMMIT (R174, R182): BUSY also while a COMMIT reply is pending; a commit that starts is answered at its
completion. -/
def serveCommit (r : Requester) : Ev → Ev × Answer :=
  unlessCommitting fun e =>
    if commitReplyPending e.st.reports.list then refuse .busy e
    else (e.on (startCommit (.request r)), none)

/-- The number of a slot state in READ-LIVE (R179). -/
def SlotState.code : SlotState → Nat
  | .empty => 0
  | .fresh => 1
  | .stale => 2

/-- The number of a gauge state in READ-LIVE (R179). -/
def GaugeState.code : GaugeState → Nat
  | .waiting => 0
  | .live => 1
  | .fault => 2
  | .nocurve => 3

/-- The number of a protection state in READ-LIVE (R179). -/
def Protection.code : Protection → Nat
  | .normal => 0
  | .tripped => 1
  | .locked => 2

/-- The number of a flash phase in READ-LIVE (R179). -/
def FlashPhase.code : FlashPhase → Nat
  | .idle => 0
  | .setup => 1
  | .on => 2
  | .off => 3
  | .trail => 4

/-- The data lanes of a gauge in READ-LIVE (R179). -/
def gaugeLanes (g : GaugeLive) : List Lane :=
  [laneOf (g.state.code * 1024 + g.p), laneOf (g.f / 4096), laneOf (g.f % 4096),
    laneOf (bitOf g.underdrive * 2048 + g.d)]

/-- The data lanes of an output in READ-LIVE (R109, R179). -/
def outputLanes (e : LoadEntry) (x : OutLive) : List Lane :=
  [laneOf (bitOf x.drive * 2048 + x.protection.code * 512 + x.trips * 128 + shownDuty e x), laneOf (x.current / 10)]

/-- The data lanes of the flash sources in READ-LIVE (R128, R179). -/
def flashLanes (f : FlashState) : List Lane :=
  [laneOf (f.left.phase.code + 8 * f.right.phase.code + 64 * f.hazard.phase.code),
    laneOf (bitOf f.left.failLeft + 2 * bitOf f.right.failRight + 4 * bitOf f.hazard.failLeft
      + 8 * bitOf f.hazard.failRight)]

/-- The data lanes of a live item, none when the index is outside the item's range (R179). -/
def liveLanes (s : State) (item index : Nat) : Option (List Lane) :=
  match item with
  | 0 => (s.slots[index]?).map fun x => [x.value, laneOf x.state.code]
  | 1 => (s.gauges[index]?).map gaugeLanes
  | 2 => if h : index < 12 then some (outputLanes s.tables.loads[index] s.outs[index]) else none
  | 3 =>
    if index = 0 then
      some (twoLanes s.supply.vs ++ [laneOf s.supply.shed, laneOf (bitOf s.supply.ign)])
    else none
  | 4 => (s.conds[index]?).map fun c => [laneOf (bitOf c.truth + 2 * bitOf c.unordered)]
  | 5 => (s.faults.flags[index]?).map fun b => [b]
  | 6 => (s.pods[index]?).map fun p => [p.bits, laneOf (bitOf p.known)]
  | 7 => if index = 0 then some (flashLanes s.flash) else none
  | 8 => if index = 0 then some (twoLanes s.faults.uptime) else none
  | _ => none

/-- READ-LIVE (R179). -/
def serveReadLive (lanes : List Lane) : Ev → Ev × Answer :=
  needLanes 2 lanes fun e =>
    if 8 < laneNat lanes 0 then refuse .badValue e
    else match liveLanes e.st (laneNat lanes 0) (laneNat lanes 1) with
      | some l => (e, some (.ok, l))
      | none => refuse .badIndex e

/-- The class of a number (R159). -/
def FaultClass.ofNumber (n : Fin 10) : FaultClass :=
  match n with
  | 0 => .openLoad
  | 1 => .overload
  | 2 => .stall
  | 3 => .sender
  | 4 => .undervolt
  | 5 => .overvolt
  | 6 => .link
  | 7 => .pod
  | 8 => .egress
  | 9 => .store

/-- The cause of a flag is gone (R162). -/
def causeGone (s : State) (c : FaultClass) (i : Nat) : Bool :=
  match c with
  | .openLoad => if h : i < 12 then s.outs[i].openGone else true
  | .overload => if h : i < 12 then decide (s.outs[i].protection = .normal) else true
  | .stall => if h : i < 12 then decide (s.outs[i].protection = .normal) else true
  | .sender => if h : i < 4 then decide (s.gauges[i].state ≠ .fault) else true
  | .undervolt => s.supply.uvGone
  | .overvolt => s.supply.ovGone
  | .link => if i = 0 then s.fore.verdictGood else s.aft.verdictGood
  | .pod => if h : i < 8 then s.pods[i].seen else true
  | .egress => if i = 0 then s.fore.offerTaken else s.aft.offerTaken
  | .store => s.store.valid && !committing s

/-- The flags of a class whose cause persists, one bit per index. -/
def persisting (s : State) (c : FaultClass) : BitVec 12 :=
  BitVec.ofNat 12 (bits12 (tabulate fun i => !causeGone s c i.val))

/-- CLEAR-FAULTS served (R163): 15 stands for ALL. -/
def clearFaults (cls : Nat) (s : State) : State :=
  { s with faults := { s.faults with
      flags := tabulate fun n =>
        if cls = 15 ∨ cls = n.val then s.faults.flags[n] &&& persisting s (FaultClass.ofNumber n)
        else s.faults.flags[n]
      lost := false } }

/-- CLEAR-FAULTS (R163, R180). -/
def serveClearFaults (lanes : List Lane) : Ev → Ev × Answer :=
  needLanes 1 lanes (unlessCommitting fun e =>
    if laneNat lanes 0 ≤ 9 ∨ laneNat lanes 0 = 15 then (e.on (clearFaults (laneNat lanes 0)), some (.ok, []))
    else refuse .badValue e)

/-- The two parts of a record in READ-CAPTURE (R180). -/
def capturePart (r : CaptureRecord) (part : Nat) : Option (List Lane) :=
  match part with
  | 0 => some [laneOf (r.cls.number.val * 16 + r.index), laneOf (captureValue r), laneOf (r.vs / 10)]
  | 1 => some (twoLanes r.uptime)
  | _ => none

/-- READ-CAPTURE (R166, R180): the part is 0 when its lane is absent. -/
def serveReadCapture (lanes : List Lane) : Ev → Ev × Answer :=
  needLanes 1 lanes fun e =>
    match e.st.faults.capture[laneNat lanes 0]? with
    | none => refuse .badIndex e
    | some none => refuse .emptySlot e
    | some (some r) =>
      match capturePart r (laneNat lanes 1) with
      | some l => (e, some (.ok, l))
      | none => refuse .badValue e

/-- A capture slot freed, and its FAULT report withdrawn if it is still pending (R166). -/
def releaseSlot (slot : Fin 2) (e : Ev) : Ev :=
  { e with
    st := { e.st with
      faults := { e.st.faults with capture := modifyAt e.st.faults.capture slot fun _ => none }
      reports := { e.st.reports with list := e.st.reports.list.filter fun r => !r.ofSlot slot } }
    faults := e.faults.filter fun x => decide (x.1 ≠ slot) }

/-- RELEASE-CAPTURE (R166, R180). -/
def serveReleaseCapture (lanes : List Lane) : Ev → Ev × Answer :=
  needLanes 1 lanes fun e =>
    if h : laneNat lanes 0 < 2 then (releaseSlot ⟨laneNat lanes 0, h⟩ e, some (.ok, []))
    else refuse .badIndex e

/-- RESTART served (R184): the service state awaits the reply's transmission. -/
def awaitRestart (s : State) : State := { s with mgmt := { s.mgmt with service := .restarting } }

/-- RESTART (R184). -/
def serveRestart : Ev → Ev × Answer :=
  unlessCommitting fun e => (e.on awaitRestart, some (.ok, []))

/-- A request of any code, as a MGMT frame brings it (R173, R174): codes 11 to 15 give BADREQ. -/
def anyRequest (r : Requester) (code : Nat) (lanes : List Lane) : Ev → Ev :=
  match code with
  | 0 => requestEvent r 0 serveIdent
  | 1 => requestEvent r 1 (serveRead lanes)
  | 2 => requestEvent r 2 (serveWrite lanes)
  | 3 => requestEvent r 3 (serveOpenCurve lanes)
  | 4 => requestEvent r 4 (serveCloseCurve lanes)
  | 5 => requestEvent r 5 (serveCommit r)
  | 6 => requestEvent r 6 (serveReadLive lanes)
  | 7 => requestEvent r 7 (serveClearFaults lanes)
  | 8 => requestEvent r 8 (serveReadCapture lanes)
  | 9 => requestEvent r 9 (serveReleaseCapture lanes)
  | 10 => requestEvent r 10 serveRestart
  | c => requestEvent r c (refuse .badReq)

end Sys2Proof.Machine
end

