-- ==== Sys2Proof/Machine/Router.lean ====
section
/-! DEFINITION. The frame router (chapter 2): search (R22), dispositions and cooking (R24 to R27), relay offers (R11, R15,
R28), feeds (R29 to R32), and the verdict at a frame boundary (R9, R10). -/

namespace Sys2Proof.Machine

/-- A key that is ANY or equals the frame's value (R22). -/
def keyMatches {α : Type} [DecidableEq α] (key : Option α) (x : α) : Bool :=
  match key with
  | none => true
  | some k => decide (k = x)

/-- A valid entry whose four keys all match (R22). -/
def MatchEntry.matchesFrame (e : MatchEntry) (p : PortId) (f : Frame) : Bool :=
  e.valid && keyMatches e.kindKey f.kind && keyMatches e.sourceKey f.source && keyMatches e.tagKey f.tag &&
    keyMatches e.portKey p

/-- The first matching entry, from entry 0 upward (R22). -/
def findEntry (t : Tables) (p : PortId) (f : Frame) : Option MatchEntry :=
  t.matches_.toList.find? fun e => e.matchesFrame p f

/-- COOK rewrites this frame (R26): a SAMPLE not yet cooked, through a curve in service. -/
def cooks (t : Tables) (e : MatchEntry) (f : Frame) : Bool :=
  decide (e.disposition = .cook) && decide (f.kind = .sample) && !f.cooked &&
    decide (t.curves[e.curve].state = .inService)

/-- The lanes of a cooked frame (R27). -/
def cookedLanes (c : Curve) (scope : CookScope) (lanes : List Lane) : List Lane :=
  match scope with
  | .all => lanes.map c.output
  | .lane0 =>
    match lanes with
    | l :: rest => c.output l :: rest
    | [] => []

/-- The frame with its outgoing lanes and marker, as its disposition fixes them (R24 to R28). -/
def outgoing (t : Tables) (e : MatchEntry) (f : Frame) : Frame :=
  if cooks t e f then { f with cooked := true, lanes := cookedLanes t.curves[e.curve] e.scope f.lanes } else f

/-- A relay offer to a port's egress queue (R15). -/
def offerRelay (p : PortId) (f : Frame) (e : Ev) : Ev :=
  let s := e.st
  let port := s.port p
  if port.queue.length < 8 then
    e.on fun _ => clearUnlatched .egress (portIndex p)
      (s.setPort p { port with queue := port.queue ++ [{ frame := f, note := .relay }], offerTaken := true })
  else
    reportFault .egress (portIndex p) 0 (e.on fun _ => s.setPort p { port with offerTaken := false })

/-- The relay frame of a frame that may make one more forward, hops less one (R11). -/
def relayed (f : Frame) : Frame := { f with hops := f.hops - 1 }

/-- The relay offer of a frame, unless it arrived with hops 0 (R11, R28). -/
def relayAction (p : PortId) (f : Frame) : List (Ev → Ev) :=
  if f.hops = 0 then [] else [offerRelay p.opposite (relayed f)]

/-- The delivery of a frame by its entry's feed, when it fits the frame's kind (R29 to R32). -/
def feedAction (node : BitVec 4) (feed : Feed) (f out : Frame) : List (Ev → Ev) :=
  match feed, f.kind with
  | .pod p, .state => [Ev.on (updatePod p (f.lanes.getD 0 0))]
  | .slots, .sample => [fun e => updateSlots (linkValues e.st f.source f.tag f.lanes out.lanes) e]
  | .obey, .order =>
    if f.target = node ∨ f.target = 15 then [Ev.on (orderEvent f.tag (f.lanes.getD 0 0))] else []
  | _, _ => []

/-- An ORDER to this hub that an OBEY entry catches is consumed (R32). -/
def consumed (node : BitVec 4) (feed : Feed) (f : Frame) : Bool :=
  decide (feed = .obey) && decide (f.kind = .order) && decide (f.target = node)

/-- The request a MGMT frame hands to the management engine (R21, R173). -/
def frameRequest (p : PortId) (f : Frame) : Ev → Ev :=
  anyRequest { port := p, source := f.source, ticket := f.lanes.getD 0 0 } f.tag.toNat (f.lanes.drop 1)

/-- What a frame's arrival does (R20): the relay offer and the delivery, or the request and its forwarding; which
comes first the manual leaves open. -/
def arrivalActions (s : State) (p : PortId) (f : Frame) : List (Ev → Ev) :=
  if f.kind = .mgmt ∧ f.target = s.node then [frameRequest p f]
  else if f.kind = .mgmt ∧ f.target = 15 then frameRequest p f :: relayAction p f
  else match findEntry s.tables p f with
    | none => relayAction p f
    | some entry =>
      let out := outgoing s.tables entry f
      (if entry.disposition = .drop ∨ consumed s.node entry.feed f = true then [] else relayAction p out) ++
        feedAction s.node entry.feed f out

/-- The arrival event of a good frame (R20). -/
def arrival (p : PortId) (f : Frame) (e : Ev) : Ev := anyOrderEv (arrivalActions e.st p f) e

/-- A good verdict on a port: an unlatched LINK flag clears (R10). -/
def goodVerdict (p : PortId) (s : State) : State :=
  clearUnlatched .link (portIndex p) (s.setPort p { s.port p with rx := .idle true, verdictGood := true })

/-- A bad verdict on a port: the frame is discarded whole and LINK is reported (R9). -/
def badVerdict (p : PortId) (e : Ev) : Ev :=
  reportFault .link (portIndex p) 0
    (e.on fun s => s.setPort p { s.port p with rx := .idle true, verdictGood := false })

/-- The frame boundary, by the receiver's state (R3, R9). -/
def frameBoundary (p : PortId) (e : Ev) : Ev :=
  match (e.st.port p).rx with
  | .idle _ => e.on fun s => s.setPort p { s.port p with rx := .idle true }
  | .receiving _ => badVerdict p e
  | .discarding => badVerdict p e
  | .closing bytes =>
    match parseFrame bytes with
    | some f => arrival p f (e.on (goodVerdict p))
    | none => badVerdict p e

end Sys2Proof.Machine
end

