-- ==== Sys2Proof/Machine/Startup.lean ====
section
/-! DEFINITION. The supply reset: the hub while it is held in reset (R157), and its start-up state and first events
(R18, R158, R181). -/

namespace Sys2Proof.Machine

/-- The node number that the straps give; 15 gives 14 (R17). -/
def nodeOf (straps : BitVec 4) : BitVec 4 := if straps = 15 then 14 else straps

/-- The tables a start works with (R181). -/
def loadedTables (st : StoreState) : Tables := if st.valid then st.image else Tables.default

/-- A debouncer at the end of a supply reset: no settled level, and its hold timer starts (R61, R185). -/
def Debouncer.atReset (length : Nat) (d : Debouncer) : Debouncer := { pin := d.pin, settled := none, hold := some length }

/-- The debounce time of the TEACH line (R185). -/
def teachDebounce : Nat := 20

/-- Every block in its start-up state (R158): straps read, tables loaded, Vs the first sample. What a reset leaves
alone is the table store, the levels of the pins, and the model's own two fields. -/
def startState (i : StartInputs) (s : State) : State :=
  { inReset := false
    node := nodeOf i.straps
    fore := PortState.reset
    aft := PortState.reset
    tables := loadedTables s.store
    slots := Vector.replicate 16 SlotLive.empty
    pods := Vector.replicate 9 PodLive.reset
    inputs := tabulate fun k => s.inputs[k].atReset (loadedTables s.store).hub.debounce
    conds := Vector.replicate 16 CondLive.reset
    outs := Vector.replicate 12 OutLive.reset
    flash := { left := FlashSource.reset, right := FlashSource.reset, hazard := FlashSource.reset }
    gauges := Vector.replicate 4 GaugeLive.reset
    supply :=
      { vs := clampSupply i.supply, shed := 0, enter := none, restore := none, ign := false, uvGone := true,
        ovGone := true }
    faults := FaultState.reset
    reports := { list := [], held := false, overrun := false, refresh := none }
    mgmt :=
      { service := .idle, teach := .idle, window := none, lockout := none, pin := s.mgmt.pin.atReset teachDebounce }
    store := s.store
    choices := s.choices
    pending := s.pending }

/-- The end of a supply reset, from the supply or from RESTART (R158, R184): the start-up STATE report joins (R170), STORE
is reported if the marker is invalid (R181), and the first Vs update is handed on (R148). -/
def supplyReset (i : StartInputs) (s : State) : State :=
  let s1 := joinState (startState i s)
  let e1 := if s.store.valid then Ev.start s1 else reportFault .store 0 0 (Ev.start s1)
  finish s1 (handOnVs e1)

/-- The hub held in reset (R157): nothing is driven, sent or remembered but the table store and the pins. The commit a
dip cuts short has its marker invalid already (R182, R183). -/
def heldInReset (s : State) : State :=
  { startState { straps := 0, supply := 0 } s with
    inReset := true, node := s.node, tables := Tables.default,
    inputs := tabulate fun k => { pin := s.inputs[k].pin, settled := none, hold := none },
    mgmt :=
      { service := .idle, teach := .idle, window := none, lockout := none,
        pin := { pin := s.mgmt.pin.pin, settled := none, hold := none } } }

end Sys2Proof.Machine
end

