-- ==== Sys2Proof/Machine/LinkCommands.lean ====
section
/-! DEFINITION. The commands of the link ports (chapter 1) and of the supply reset (R157, R158). -/

namespace Sys2Proof.Machine

/-- FRAME_BOUNDARY: the frame in progress gets its verdict, and a good one arrives (R3, R9, R20). -/
def execFrameBoundary (p : PortId) (s : State) : Host.Outcome State Fault Refusal := event (frameBoundary p) s

/-- A WAITING transmitter with a record in its queue starts to send the head frame (R14). -/
def startSending (x : PortState) : PortState :=
  match x.tx, x.queue with
  | .waiting, r :: _ => { x with tx := .sending (encodeFrame r.frame) }
  | _, _ => x

/-- TRANSMIT_START (R14). -/
def execTransmitStart (p : PortId) (s : State) : Host.Outcome State Fault Refusal :=
  event (Ev.on fun t => t.setPort p (startSending (t.port p))) s

/-- The transmitter of this port is sending. -/
def PortState.isSending (x : PortState) : Bool :=
  match x.tx with
  | .waiting => false
  | .sending _ => true

/-- The head record leaves, the transmitter waits, and the freed place goes to the oldest pending report (R14, R16). -/
def completeSending (p : PortId) (s : State) : State :=
  copyReports 16 (s.setPort p { s.port p with tx := .waiting, queue := (s.port p).queue.tail })

/-- The frame leaving is the RESTART reply that is waited for (R184). -/
def completesRestart (p : PortId) (s : State) : Bool :=
  decide (s.mgmt.service = .restarting) &&
    match (s.port p).queue with
    | r :: _ => decide (r.note = .restartReply)
    | [] => false

/-- TRANSMISSION_COMPLETION (R14, R16); of the RESTART reply, it makes a supply reset (R184). -/
def execTransmissionCompletion (p : PortId) (i : StartInputs) (s : State) : Host.Outcome State Fault Refusal :=
  if s.inReset = false ∧ (s.port p).isSending = true then
    if completesRestart p s then .next (supplyReset i s) else event (Ev.on (completeSending p)) s
  else .next s

/-- RESET_ENTRY: the supply falls below 4500 mV (R157). -/
def execResetEntry (s : State) : Host.Outcome State Fault Refusal :=
  .next (if s.inReset then s else heldInReset s)

/-- RESET_END: the supply has risen above 5000 mV, and the hub starts (R157, R158). -/
def execResetEnd (i : StartInputs) (s : State) : Host.Outcome State Fault Refusal :=
  .next (if s.inReset = true ∧ 5000 < i.supply then supplyReset i s else s)

/-- CHARACTER_START: a character with its data begins on a receive line (R3, R4, R5). -/
def execCharacterStart (p : PortId) (b : Byte) (s : State) : Host.Outcome State Fault Refusal :=
  event (Ev.on fun t => t.setPort p { t.port p with rx := receiveByte (t.port p).rx b }) s

/-- CHARACTER_FAULT (R2). -/
def execCharacterFault (p : PortId) (s : State) : Host.Outcome State Fault Refusal :=
  event (Ev.on fun t => t.setPort p { t.port p with rx := receiveFault (t.port p).rx }) s

end Sys2Proof.Machine
end

