-- ==== Sys2Proof/Machine/LoadCommands.lean ====
section
/-! DEFINITION. The commands of the load controller (chapter 6) and of the flasher (chapter 7). -/

namespace Sys2Proof.Machine

/-- The sample the current sense gives, in steps of 10 mA (R98). -/
def sensed (x : OutLive) (tens : Nat) : Nat := if x.drive then min 20000 (10 * tens) else 0

/-- An output taken to its protection by a trip or a stall: TRIPPED with the retry timer below three trips and LOCKED
otherwise (R101), or LOCKED (R108). -/
def OutLive.protect (x : OutLive) (trips : Nat) : OutLive :=
  if trips < 3 then { x with protection := .tripped, retry := some 1000 }
  else { x with protection := .locked, retry := none }

/-- Steps 1 and 2 of a trip (R101): the drive goes off, the count rises; a fan's duty becomes 0, its stall timer
stops. -/
def OutLive.tripStart (x : OutLive) : OutLive := { driveOff x with trips := x.trips + 1, actual := 0 }

/-- Step 4 of a trip (R101), by the count as it now stands. -/
def tripEnd (o : Fin 12) (s : State) : State :=
  redriveOne o { s with outs := modifyAt s.outs o fun x => x.protect x.trips }

/-- An overload sample trips the output (R101), in the order of the rule's steps (log 9). -/
def tripOutput (o : Fin 12) (e : Ev) : Ev :=
  ((reportFault .overload o.val e.st.outs[o].current
    (e.on fun s => { s with outs := modifyAt s.outs o fun x =>
      { x.tripStart with openGone := false } })).on (tripEnd o))

/-- The stall test of a fan's checked sample that is not an overload (R108). -/
def stallTest (entry : LoadEntry) (x : OutLive) : OutLive :=
  if entry.kind = .fan ∧ x.drive = true then
    if entry.stallLimit < x.current then { x with stall := some (x.stall.getD 2000) } else { x with stall := none }
  else x

/-- A checked sample that is not an overload (R100, R108): OPEN is reported below Imin, and an unlatched OPEN flag clears
within limits. A fan's stall test comes after the links of its OPEN raise (the model's choice, log 29). -/
def checkLimits (o : Fin 12) (e : Ev) : Ev :=
  let entry := e.st.tables.loads[o]
  let x := e.st.outs[o]
  let within := decide (entry.imin ≤ x.current)
  let e1 := e.on fun s => { s with outs := modifyAt s.outs o fun y => { y with openGone := within } }
  let e2 := if within then e1.on (clearUnlatched .openLoad o.val) else reportFault .openLoad o.val x.current e1
  e2.on fun s => { s with outs := modifyAt s.outs o (stallTest entry) }

/-- A sample that was taken while the check window was open, checked if the window is still open once the conditions have
taken it (R98, R99; log 13). -/
def checkSample (o : Fin 12) (taken : Bool) (e : Ev) : Ev :=
  if taken = true ∧ e.st.outs[o].window = .opened then
    if e.st.tables.loads[o].imax < e.st.outs[o].current then tripOutput o e else checkLimits o e
  else e

/-- CURRENT_SAMPLE: the latest sample, the CURRENT conditions, then the checks (R98, R99). -/
def execCurrentSample (o : Fin 12) (tens : Nat) (s : State) : Host.Outcome State Fault Refusal :=
  event (fun e => checkSample o (decide (e.st.outs[o].window = .opened)) ((e.on fun t =>
    { t with outs := modifyAt t.outs o fun x => { x with current := sensed x tens } }).on
      (evalConds (affectsCurrent o)))) s

/-- One 10 ms count of a soft start (R97). -/
def countSoftStart (entry : LoadEntry) (x : OutLive) : OutLive :=
  match x.softStart with
  | none => x
  | some k =>
    { x with duty := rampDuty entry.ramp (k + 1)
             softStart := if k + 1 < entry.ramp then some (k + 1) else none }

/-- SOFT_START_COUNT (R97). -/
def execSoftStartCount (o : Fin 12) (s : State) : Host.Outcome State Fault Refusal :=
  event (Ev.on fun t => { t with outs := modifyAt t.outs o (countSoftStart t.tables.loads[o]) }) s

/-- The check window of a driven output opens at the end of its wait (R99). -/
def openWindow (x : OutLive) : OutLive :=
  match x.window with
  | .waiting _ => { x with window := .opened }
  | .closed => x
  | .opened => x

/-- CHECK_WINDOW_OPEN (R99). -/
def execCheckWindowOpen (o : Fin 12) (s : State) : Host.Outcome State Fault Refusal :=
  event (Ev.on fun t => { t with outs := modifyAt t.outs o openWindow }) s

/-- The retry timer of a tripped output has expired: NORMAL with the count unchanged, and the drive recomputed
(R102). -/
def retryExpired (o : Fin 12) (s : State) : State :=
  redriveOne o { s with outs := modifyAt s.outs o fun x => { x with protection := .normal, retry := none } }

/-- RETRY_EXPIRY (R102). -/
def execRetryExpiry (o : Fin 12) (s : State) : Host.Outcome State Fault Refusal :=
  event (Ev.on fun t =>
    if t.outs[o].protection = .tripped ∧ t.outs[o].retry.isSome = true then retryExpired o t else t) s

/-- The target duty of a fan (R107). -/
def targetDuty (h : HubTable) (level : Nat) : Nat := if level = 0 then 0 else h.fanDuty.toList.getD (level - 1) 0

/-- A duty moved toward its target by at most the slew (R107). -/
def slewed (slew target duty : Nat) : Nat :=
  if duty < target then min target (duty + slew) else max target (duty - slew)

/-- The slew step of one output: a fan in NORMAL moves (R107). -/
def slewOutput (h : HubTable) (entry : LoadEntry) (x : OutLive) : OutLive :=
  if entry.kind = .fan ∧ x.protection = .normal then
    { x with actual := slewed h.fanSlew (targetDuty h x.effective) x.actual }
  else x

/-- FAN_SLEW_STEP (R107). -/
def execFanSlewStep (s : State) : Host.Outcome State Fault Refusal :=
  event (Ev.on fun t =>
    redriveAll { t with outs := tabulate fun o => slewOutput t.tables.hub t.tables.loads[o] t.outs[o] }) s

/-- Step 2 of a stall (R108): LOCKED, the drive off, the actual duty 0, the count as it was. -/
def lockStalled (x : OutLive) : OutLive := { driveOff x with protection := .locked, retry := none, actual := 0 }

/-- STALL_EXPIRY (R108), in the order of the rule's steps (log 9). -/
def execStallExpiry (o : Fin 12) (s : State) : Host.Outcome State Fault Refusal :=
  event (fun e =>
    if e.st.outs[o].stall.isSome then
      (reportFault .stall o.val e.st.outs[o].current e).on fun t => { t with outs := modifyAt t.outs o lockStalled }
    else e) s

/-- A source's phase timer has expired: its step, then the settle and the drives (R117, R120). -/
def phaseExpired (i : SourceId) (s : State) : State :=
  let stepped := s.flash.setSource i (phaseStep s.tables s.faults i (s.flash.source i))
  redriveAll (handContexts (drives s) (settleFlash s.tables s.faults s.supply.ign stepped) s)

/-- PHASE_EXPIRY (R117). -/
def execPhaseExpiry (i : SourceId) (s : State) : Host.Outcome State Fault Refusal :=
  event (Ev.on fun t => if (t.flash.source i).timer.isSome then phaseExpired i t else t) s

/-- GAP_EXPIRY: a stop/turn output's gap ends and it follows its side's lit state (R124). An end of the context that comes
together with it is a command of its own, before or after (the model's reading, log 30). -/
def execGapExpiry (o : Fin 12) (s : State) : Host.Outcome State Fault Refusal :=
  event (Ev.on fun t =>
    if t.outs[o].gap.isSome then redriveOne o { t with outs := modifyAt t.outs o fun x => { x with gap := none } }
    else t) s

end Sys2Proof.Machine
end

