-- ==== Sys2Proof/Machine/RequestCommands.lean ====
section
/-! DEFINITION. The commands of the management engine: requests as the router hands them over (R21, R173), commit
completion, and the teach line. -/

namespace Sys2Proof.Machine

/-- IDENT (R175). -/
def execIdent (r : Requester) (_lanes : List Lane) (s : State) : Host.Outcome State Fault Refusal :=
  event (requestEvent r 0 serveIdent) s

/-- READ (R176). -/
def execRead (r : Requester) (lanes : List Lane) (s : State) : Host.Outcome State Fault Refusal :=
  event (requestEvent r 1 (serveRead lanes)) s

/-- WRITE (R176). -/
def execWrite (r : Requester) (lanes : List Lane) (s : State) : Host.Outcome State Fault Refusal :=
  event (requestEvent r 2 (serveWrite lanes)) s

/-- CURVE_POINT_WRITE: a WRITE to a curve (R41). -/
def execCurvePointWrite (r : Requester) (curve : BitVec 8) (field : Lane) (value : BitVec 24) (s : State) :
    Host.Outcome State Fault Refusal :=
  event (requestEvent r 2 (serveWrite (writeLanes 1 curve field value))) s

/-- SLOT_CONFIG_WRITE: a WRITE to a slot (R51). -/
def execSlotConfigWrite (r : Requester) (slot : BitVec 8) (field : Lane) (value : BitVec 24) (s : State) :
    Host.Outcome State Fault Refusal :=
  event (requestEvent r 2 (serveWrite (writeLanes 2 slot field value))) s

/-- POD_TIMEOUT_WRITE: a WRITE of a pod's timeout (R55). -/
def execPodTimeoutWrite (r : Requester) (pod : BitVec 8) (value : BitVec 24) (s : State) :
    Host.Outcome State Fault Refusal :=
  event (requestEvent r 2 (serveWrite (writeLanes 3 pod 0 value))) s

/-- CONDITION_WRITE: a WRITE to a condition entry (R70). -/
def execConditionWrite (r : Requester) (entry : BitVec 8) (field : Lane) (value : BitVec 24) (s : State) :
    Host.Outcome State Fault Refusal :=
  event (requestEvent r 2 (serveWrite (writeLanes 4 entry field value))) s

/-- LOAD_ENTRY_WRITE: a WRITE to a load entry (R89, R90). -/
def execLoadEntryWrite (r : Requester) (output : BitVec 8) (field : Lane) (value : BitVec 24) (s : State) :
    Host.Outcome State Fault Refusal :=
  event (requestEvent r 2 (serveWrite (writeLanes 6 output field value))) s

/-- GAUGE_ENTRY_WRITE: a WRITE to a gauge entry (R130). -/
def execGaugeEntryWrite (r : Requester) (channel : BitVec 8) (field : Lane) (value : BitVec 24) (s : State) :
    Host.Outcome State Fault Refusal :=
  event (requestEvent r 2 (serveWrite (writeLanes 8 channel field value))) s

/-- DETECT_MASK_WRITE: a WRITE of the DETECT mask (R161). -/
def execDetectMaskWrite (r : Requester) (value : BitVec 24) (s : State) : Host.Outcome State Fault Refusal :=
  event (requestEvent r 2 (serveWrite (writeLanes 9 0 21 value))) s

/-- REFRESH_WRITE: a WRITE of the refresh setting (R170). -/
def execRefreshWrite (r : Requester) (value : BitVec 24) (s : State) : Host.Outcome State Fault Refusal :=
  event (requestEvent r 2 (serveWrite (writeLanes 9 0 2 value))) s

/-- The lanes of the WRITE that reaches a waiting teach sequence (R187). -/
def teachWriteLanes (target : TeachWrite) : List Lane :=
  match target with
  | .gaugeField value => writeLanes 9 0 20 value
  | .gaugeEntry index field value => writeLanes 8 index field value

/-- TEACH_GAUGE_WRITE: a WRITE of the teach gauge field or to a gauge entry (R187). -/
def execTeachGaugeWrite (r : Requester) (target : TeachWrite) (s : State) : Host.Outcome State Fault Refusal :=
  event (requestEvent r 2 (serveWrite (teachWriteLanes target))) s

/-- OPEN_CURVE (R40). -/
def execOpenCurve (r : Requester) (lanes : List Lane) (s : State) : Host.Outcome State Fault Refusal :=
  event (requestEvent r 3 (serveOpenCurve lanes)) s

/-- CLOSE_CURVE (R42). -/
def execCloseCurve (r : Requester) (lanes : List Lane) (s : State) : Host.Outcome State Fault Refusal :=
  event (requestEvent r 4 (serveCloseCurve lanes)) s

/-- COMMIT (R182). -/
def execCommit (r : Requester) (_lanes : List Lane) (s : State) : Host.Outcome State Fault Refusal :=
  event (requestEvent r 5 (serveCommit r)) s

/-- COMMIT_COMPLETION: the store has kept what was written, or it has not (R182, R183). -/
def execCommitCompletion (verified : Bool) (s : State) : Host.Outcome State Fault Refusal :=
  event (completeCommit verified) s

/-- READ_LIVE (R179). -/
def execReadLive (r : Requester) (lanes : List Lane) (s : State) : Host.Outcome State Fault Refusal :=
  event (requestEvent r 6 (serveReadLive lanes)) s

/-- CLEAR_FAULTS (R163). -/
def execClearFaults (r : Requester) (lanes : List Lane) (s : State) : Host.Outcome State Fault Refusal :=
  event (requestEvent r 7 (serveClearFaults lanes)) s

/-- READ_CAPTURE (R166). -/
def execReadCapture (r : Requester) (lanes : List Lane) (s : State) : Host.Outcome State Fault Refusal :=
  event (requestEvent r 8 (serveReadCapture lanes)) s

/-- RELEASE_CAPTURE (R166). -/
def execReleaseCapture (r : Requester) (lanes : List Lane) (s : State) : Host.Outcome State Fault Refusal :=
  event (requestEvent r 9 (serveReleaseCapture lanes)) s

/-- RESTART (R184). -/
def execRestart (r : Requester) (_lanes : List Lane) (s : State) : Host.Outcome State Fault Refusal :=
  event (requestEvent r 10 serveRestart) s

/-- TEACH_PIN_CHANGE (R185); in reset only the level itself changes (R157). -/
def execTeachPinChange (high : Bool) (s : State) : Host.Outcome State Fault Refusal :=
  .next { s with mgmt := { s.mgmt with
    pin := if s.inReset then { s.mgmt.pin with pin := high } else s.mgmt.pin.pinChange 20 high } }

/-- The TEACH line settles; a change from high to low is a falling edge (R185). -/
def teachSettled (s : State) : State :=
  let s1 := { s with mgmt := { s.mgmt with pin := s.mgmt.pin.settle } }
  if s.mgmt.pin.settled = some true ∧ s.mgmt.pin.pin = false then teachEdge s1 else s1

/-- TEACH_HOLD_EXPIRY (R185). -/
def execTeachHoldExpiry (s : State) : Host.Outcome State Fault Refusal :=
  event (Ev.on fun t => if t.mgmt.pin.hold.isSome then teachSettled t else t) s

/-- TEACH_LOCKOUT_EXPIRY (R185). -/
def execTeachLockoutExpiry (s : State) : Host.Outcome State Fault Refusal :=
  event (Ev.on fun t => { t with mgmt := { t.mgmt with lockout := none } }) s

/-- WINDOW_EXPIRY (R187). -/
def execWindowExpiry (s : State) : Host.Outcome State Fault Refusal :=
  event (Ev.on fun t => if t.mgmt.window.isSome then cancelTeach t else t) s

end Sys2Proof.Machine
end

