-- ==== Sys2Proof/Machine/SampleCommands.lean ====
section
/-! DEFINITION. The commands of the sample slots, the switch image, the gauge modulator and the supply monitor. -/

namespace Sys2Proof.Machine

/-- LOCAL_SAMPLE: AN0 to AN3 sampled together (R50). -/
def execLocalSample (an0 an1 an2 an3 : Lane) (s : State) : Host.Outcome State Fault Refusal :=
  event (fun e => updateSlots (localValues e.st #v[an0, an1, an2, an3]) e) s

/-- SLOT_AGE_EXPIRY: a running age timer reaches its timeout (R48). Each slot's expiry is an event of its own, also where the timers
of several slots end at the same moment (DESIGN CHOICE, log 35). -/
def execSlotAgeExpiry (k : Fin 16) (s : State) : Host.Outcome State Fault Refusal :=
  event (fun e => if e.st.slots[k].state = .fresh ∧ e.st.slots[k].age.isSome = true then setSlot k SlotLive.expired e
    else e) s

/-- POD_TIMEOUT_EXPIRY (R57). -/
def execPodTimeoutExpiry (p : Fin 8) (s : State) : Host.Outcome State Fault Refusal :=
  event (fun e => if e.st.pods[linkPod p].known = true ∧ e.st.pods[linkPod p].timer.isSome = true then podExpired p e
    else e) s

/-- LOCAL_PIN_CHANGE: a pin stands at a new level (R60, R61); in reset only the level itself changes (R157). -/
def execLocalPinChange (i : Fin 9) (level : Bool) (s : State) : Host.Outcome State Fault Refusal :=
  .next { s with inputs := modifyAt s.inputs i fun d =>
    if s.inReset then { d with pin := level } else d.pinChange s.tables.hub.debounce level }

/-- DEBOUNCE_HOLD_EXPIRY (R60, R61, R62). -/
def execDebounceHoldExpiry (i : Fin 9) (s : State) : Host.Outcome State Fault Refusal :=
  event (Ev.on fun t => if t.inputs[i].hold.isSome then inputSettled i t else t) s

/-- MODULATOR_STEP: each channel's modulator (R140). That one event steps all four channels, with no event between them, is the
model's reading of the table's one row (DEDUCED, log 34). -/
def execModulatorStep (s : State) : Host.Outcome State Fault Refusal :=
  event (Ev.on fun t => { t with gauges := tabulate fun g => modulate t.gauges[g] }) s

/-- VS_UPDATE: a sample is filtered into Vs and handed on (R148, R149). -/
def execVsUpdate (sample : Nat) (s : State) : Host.Outcome State Fault Refusal :=
  event (fun e => handOnVs (e.on fun t =>
    { t with supply := { t.supply with vs := damp 3 t.supply.vs (clampSupply sample) } })) s

/-- ENTER_TIMER_EXPIRY (R153, R155). -/
def execEnterTimerExpiry (s : State) : Host.Outcome State Fault Refusal :=
  event (Ev.on fun t => if t.supply.enter.isSome then enterExpired t else t) s

/-- RESTORE_TIMER_EXPIRY (R154, R155). -/
def execRestoreTimerExpiry (s : State) : Host.Outcome State Fault Refusal :=
  event (Ev.on fun t => if t.supply.restore.isSome then restoreExpired t else t) s

/-- UPTIME_TICK (R167). -/
def execUptimeTick (s : State) : Host.Outcome State Fault Refusal :=
  event (Ev.on fun t => { t with faults := { t.faults with uptime := (t.faults.uptime + 1) % 16777216 } }) s

/-- The refresh timer's expiry: it restarts, and a STATE need arises (R170). -/
def refreshExpired (s : State) : State :=
  stateNeed { s with reports := { s.reports with refresh := refreshStart s.tables.hub } }

/-- REFRESH_EXPIRY (R170). -/
def execRefreshExpiry (s : State) : Host.Outcome State Fault Refusal :=
  event (Ev.on fun t => if t.reports.refresh.isSome then refreshExpired t else t) s

end Sys2Proof.Machine
end

