-- ==== Sys2Proof/Machine/Dispatch.lean ====
section
/-! DEFINITION. The meaning of every command, one arm per row of the opcode table. -/

namespace Sys2Proof.Machine

/-- The effect of one command on everything but the queue. -/
def exec (i : Instr) (s : State) : Host.Outcome State Fault Refusal :=
  match i with
  | .frameBoundary port => Sys2Proof.Machine.execFrameBoundary port s
  | .transmitStart port => Sys2Proof.Machine.execTransmitStart port s
  | .transmissionCompletion port atRestart => Sys2Proof.Machine.execTransmissionCompletion port atRestart s
  | .resetEntry => Sys2Proof.Machine.execResetEntry s
  | .resetEnd inputs => Sys2Proof.Machine.execResetEnd inputs s
  | .localSample an0 an1 an2 an3 => Sys2Proof.Machine.execLocalSample an0 an1 an2 an3 s
  | .slotAgeExpiry slot => Sys2Proof.Machine.execSlotAgeExpiry slot s
  | .podTimeoutExpiry pod => Sys2Proof.Machine.execPodTimeoutExpiry pod s
  | .localPinChange input level => Sys2Proof.Machine.execLocalPinChange input level s
  | .debounceHoldExpiry input => Sys2Proof.Machine.execDebounceHoldExpiry input s
  | .currentSample output tens => Sys2Proof.Machine.execCurrentSample output tens s
  | .softStartCount output => Sys2Proof.Machine.execSoftStartCount output s
  | .checkWindowOpen output => Sys2Proof.Machine.execCheckWindowOpen output s
  | .retryExpiry output => Sys2Proof.Machine.execRetryExpiry output s
  | .fanSlewStep => Sys2Proof.Machine.execFanSlewStep s
  | .stallExpiry output => Sys2Proof.Machine.execStallExpiry output s
  | .phaseExpiry source => Sys2Proof.Machine.execPhaseExpiry source s
  | .gapExpiry output => Sys2Proof.Machine.execGapExpiry output s
  | .modulatorStep => Sys2Proof.Machine.execModulatorStep s
  | .vsUpdate sample => Sys2Proof.Machine.execVsUpdate sample s
  | .enterTimerExpiry => Sys2Proof.Machine.execEnterTimerExpiry s
  | .restoreTimerExpiry => Sys2Proof.Machine.execRestoreTimerExpiry s
  | .uptimeTick => Sys2Proof.Machine.execUptimeTick s
  | .refreshExpiry => Sys2Proof.Machine.execRefreshExpiry s
  | .ident r lanes => Sys2Proof.Machine.execIdent r lanes s
  | .read r lanes => Sys2Proof.Machine.execRead r lanes s
  | .write r lanes => Sys2Proof.Machine.execWrite r lanes s
  | .curvePointWrite r curve field value => Sys2Proof.Machine.execCurvePointWrite r curve field value s
  | .slotConfigWrite r slot field value => Sys2Proof.Machine.execSlotConfigWrite r slot field value s
  | .podTimeoutWrite r pod value => Sys2Proof.Machine.execPodTimeoutWrite r pod value s
  | .conditionWrite r entry field value => Sys2Proof.Machine.execConditionWrite r entry field value s
  | .loadEntryWrite r output field value => Sys2Proof.Machine.execLoadEntryWrite r output field value s
  | .gaugeEntryWrite r channel field value => Sys2Proof.Machine.execGaugeEntryWrite r channel field value s
  | .detectMaskWrite r value => Sys2Proof.Machine.execDetectMaskWrite r value s
  | .refreshWrite r value => Sys2Proof.Machine.execRefreshWrite r value s
  | .teachGaugeWrite r target => Sys2Proof.Machine.execTeachGaugeWrite r target s
  | .openCurve r lanes => Sys2Proof.Machine.execOpenCurve r lanes s
  | .closeCurve r lanes => Sys2Proof.Machine.execCloseCurve r lanes s
  | .commit r lanes => Sys2Proof.Machine.execCommit r lanes s
  | .commitCompletion verified => Sys2Proof.Machine.execCommitCompletion verified s
  | .readLive r lanes => Sys2Proof.Machine.execReadLive r lanes s
  | .clearFaults r lanes => Sys2Proof.Machine.execClearFaults r lanes s
  | .readCapture r lanes => Sys2Proof.Machine.execReadCapture r lanes s
  | .releaseCapture r lanes => Sys2Proof.Machine.execReleaseCapture r lanes s
  | .restart r lanes => Sys2Proof.Machine.execRestart r lanes s
  | .teachPinChange high => Sys2Proof.Machine.execTeachPinChange high s
  | .teachHoldExpiry => Sys2Proof.Machine.execTeachHoldExpiry s
  | .teachLockoutExpiry => Sys2Proof.Machine.execTeachLockoutExpiry s
  | .windowExpiry => Sys2Proof.Machine.execWindowExpiry s
  | .characterStart port byte => Sys2Proof.Machine.execCharacterStart port byte s
  | .characterFault port => Sys2Proof.Machine.execCharacterFault port s

end Sys2Proof.Machine
end

