-- ==== Sys2Proof/Safety.lean ====
section
/-! DEFINITION. What a sound run of the hub keeps, and the words the statements use: which part of the state a command
may change, when the management engine takes a request, and what the hub is like once it is answered. -/

namespace Sys2Proof.Machine

/-- A property of the hub that every command keeps, whatever state it starts from. -/
def KeptByEveryStep (inv : State → Prop) : Prop :=
  ∀ s t : State, inv s → step s = .next t → inv t

/-! Parts of the state left out of a comparison. -/

/-- The hub with its egress queues and its report generator left out. -/
def State.lessReports (s : State) : State :=
  { s with
    fore := { s.fore with queue := [] }
    aft := { s.aft with queue := [] }
    reports := { list := [], held := false, overrun := false, refresh := none } }

/-- The hub with what links may change left out: outputs, flasher, flags, capture slots, LOST and the count of open
orders. The uptime stays in. -/
def State.lessLoads (s : State) : State :=
  { s with
    outs := Vector.replicate 12 OutLive.reset
    flash := { left := FlashSource.reset, right := FlashSource.reset, hazard := FlashSource.reset }
    faults := { FaultState.reset with uptime := s.faults.uptime }
    choices := 0 }

/-- The hub with the live state of its conditions left out. -/
def State.lessConds (s : State) : State := { s with conds := Vector.replicate 16 CondLive.reset }

/-- The hub with the live state of its gauge channels left out. -/
def State.lessGauges (s : State) : State := { s with gauges := Vector.replicate 4 GaugeLive.reset }

/-- What neither links, nor reports, nor condition edges, nor pipeline runs can change. -/
def State.bystanders (s : State) : State := s.lessReports.lessLoads.lessConds.lessGauges

/-! Egress queues and pending reports. -/

/-- Each egress queue holds at most 8 records, and a sending transmitter has its frame at the head (R13, R14). -/
abbrev PortState.bounded (x : PortState) : Prop := x.queue.length ≤ 8 ∧ (x.isSending = true → x.queue ≠ [])

/-- Both queues are bounded. -/
abbrev State.queuesBounded (s : State) : Prop := s.fore.bounded ∧ s.aft.bounded

/-- Nothing waits for a port whose queue has a free place: its copy is made already (R16). -/
abbrev State.portServed (s : State) (p : PortId) : Prop :=
  (s.port p).queue.length < 8 → ∀ r ∈ s.reports.list, r.wants p = false

/-- Every copy that could be made is made. -/
abbrev State.copiesMade (s : State) : Prop := s.portServed .fore ∧ s.portServed .aft

/-- How many pending reports satisfy a test. -/
def countReports (test : ReportBody → Bool) (s : State) : Nat := (s.reports.list.filter fun r => test r.body).length

/-- An ordinary REPLY. -/
def ReportBody.isReply : ReportBody → Bool
  | .state _ _ => false
  | .reply _ _ commit _ => !commit
  | .fault _ _ => false

/-- A COMMIT reply. -/
def ReportBody.isCommitReply : ReportBody → Bool
  | .state _ _ => false
  | .reply _ _ commit _ => commit
  | .fault _ _ => false

/-- The FAULT report of a slot. -/
def ReportBody.isFaultOf (slot : Fin 2) : ReportBody → Bool
  | .state _ _ => false
  | .reply _ _ _ _ => false
  | .fault n _ => decide (n = slot)

/-- A commit that a request started is in progress (R173). -/
def State.commitAsked (s : State) : Bool :=
  match s.mgmt.service with
  | .idle => false
  | .committing (.request _) => true
  | .committing .teach => false
  | .restarting => false

/-- The limits of the pending list (R168): one STATE, one ordinary REPLY, one COMMIT reply and one FAULT for each HELD
slot; and what keeps them: no COMMIT reply stands while a commit is asked for, and a need is held only while a STATE
report is pending. -/
structure State.pendingBounded (s : State) : Prop where
  state : countReports ReportBody.isState s ≤ 1
  reply : countReports ReportBody.isReply s ≤ 1
  commit : countReports ReportBody.isCommitReply s ≤ 1
  fault : ∀ slot : Fin 2, countReports (ReportBody.isFaultOf slot) s ≤ 1
  faultHeld : ∀ slot : Fin 2, s.faults.capture[slot] = none → countReports (ReportBody.isFaultOf slot) s = 0
  commitAsked : s.commitAsked = true → countReports ReportBody.isCommitReply s = 0
  held : s.reports.held = true → countReports ReportBody.isState s = 1

/-! Tables. -/

/-- The points from one x onward ascend and stay within the scale (R37). -/
def pointsLegal (before : Option Nat) : List Point → Bool
  | [] => true
  | p :: ps =>
    decide (p.y ≤ 1000) && (match before with
      | none => true
      | some x => decide (x < p.x)) && pointsLegal (some p.x) ps

/-- A curve in service has two to nine points, ascending, within 0 to 1000 (R37). -/
def Curve.legal (c : Curve) : Bool :=
  decide (c.state = .edit) || (decide (2 ≤ c.count) && decide (c.count ≤ 9) && pointsLegal none c.used)

/-- An entry whose kind is never shed has shed class 0 (R89). -/
def LoadEntry.legal (e : LoadEntry) : Bool := !e.kind.neverShed || decide (e.shedClass = 0)

/-- The zero of a gauge is not above its full scale, its mark lies on the scale (R129, R130). -/
def GaugeEntry.legal (e : GaugeEntry) : Bool :=
  decide (e.vz ≤ e.vfs) && decide (e.vfs ≤ 18000) && decide (e.mark ≤ 1000)

/-- The relations between fields that tables keep: R37 for curves, R89 for loads, R130 for gauges. -/
def Tables.legal (t : Tables) : Bool :=
  allOf t.curves Curve.legal && allOf t.loads LoadEntry.legal && allOf t.gauges GaugeEntry.legal

/-- The working tables and the stored image are legal. -/
abbrev State.tablesLegal (s : State) : Prop := s.tables.legal = true ∧ s.store.image.legal = true

/-! Gauges, faults, outputs, flasher, management. -/

/-- The bounds of a channel (R131), and what its state says of F, P and D (R132, R144). -/
def GaugeLive.bounded (ign : Bool) (g : GaugeLive) : Bool :=
  decide (g.f ≤ 16000) && decide (g.p ≤ 1000) && decide (g.d ≤ 1024) && decide (g.acc ≤ 1023) &&
    (ign || decide (g.d = 0)) &&
    (!(decide (g.state = .waiting) || decide (g.state = .nocurve)) ||
      (decide (g.f = 0) && decide (g.p = 0) && decide (g.d = 0) && !g.underdrive))

/-- Every channel is bounded (R131, R132). -/
abbrev State.gaugesBounded (s : State) : Prop := allOf s.gauges (GaugeLive.bounded s.supply.ign) = true

/-- Every flag of a class whose DETECT is off is clear (R161). -/
abbrev State.undetectedClear (s : State) : Prop :=
  ∀ c : Fin 10, s.tables.hub.detect.getLsbD c.val = false → s.faults.flags[c] = 0

/-- The protection of an output holds together: it is driven only in NORMAL (R96, R103), the count is 0 to 3 and 3 only
in LOCKED (R101), the retry timer runs in TRIPPED alone (R91), and without drive there is no soft start, no check window and
no stall timer (R96, R99, R108). -/
def OutLive.protectionSound (x : OutLive) : Bool :=
  (!x.drive || decide (x.protection = .normal)) &&
    decide (x.trips ≤ 3) && (decide (x.protection = .locked) || decide (x.trips ≤ 2)) &&
    (x.retry.isSome == decide (x.protection = .tripped)) &&
    (x.drive || (x.softStart.isNone && decide (x.window = .closed) && x.stall.isNone))

/-- The protection of every output holds together. -/
abbrev State.protectionSound (s : State) : Prop := allOf s.outs OutLive.protectionSound = true

/-- A source runs, which is neither IDLE nor TRAIL. -/
def FlashSource.runs (x : FlashSource) : Bool :=
  match x.phase with
  | .idle => false
  | .setup => true
  | .on => true
  | .off => true
  | .trail => false

/-- A source with its go signal: it runs exactly when that is true (R115, R116), its timer runs except in IDLE (R113),
its marks are clear in IDLE (R116), and in ON, OFF and TRAIL its two lengths are multiples of 10 ms with at least 10 ms on
either side (R112). -/
def FlashSource.sound (go : Bool) (x : FlashSource) : Bool :=
  (x.runs == go) && (x.timer.isSome == x.active) &&
    (x.active || (!x.failLeft && !x.failRight)) &&
    ((decide (x.phase = .idle) || decide (x.phase = .setup)) ||
      (decide (10 ≤ x.onLength) && decide (x.onLength + 10 ≤ x.cycleLength) && decide (x.onLength % 10 = 0) &&
        decide (x.cycleLength % 10 = 0)))

/-- The flasher is settled: every source agrees with its go signal (R114), and an active HAZARD has LEFT and RIGHT in
IDLE (R119). -/
abbrev State.flasherSound (s : State) : Prop :=
  s.flash.hazard.sound s.flash.hazard.demand = true ∧
    s.flash.left.sound (s.flash.left.demand && s.supply.ign && !s.flash.hazard.active) = true ∧
    s.flash.right.sound (s.flash.right.demand && s.supply.ign && !s.flash.hazard.active) = true ∧
    (s.flash.hazard.active = true → s.flash.left.active = false ∧ s.flash.right.active = false)

/-- The store, the service state and the teach state agree: while a commit runs the marker is invalid (R182), the teach
state is COMMITTING exactly during a commit of its own (R187), and the window runs exactly in HAVE-EMPTY (R185, R186). -/
def State.commitSound (s : State) : Bool :=
  (!committing s || !s.store.valid) &&
    (decide (s.mgmt.teach = .committing) == decide (s.mgmt.service = .committing .teach)) &&
    (s.mgmt.window.isSome == (match s.mgmt.teach with
      | .idle => false
      | .haveEmpty _ => true
      | .committing => false))

/-! Frames on the link. -/

/-- The frame length that a lane count announces; 7 has none (R4). -/
def lengthOfLanes (n : Nat) : Option Nat := [4, 6, 7, 9, 10, 12, 13][n]?

/-- The lane counts legal for a kind (R6). -/
def Frame.lanesLegal (f : Frame) : Prop :=
  match f.kind with
  | .state => f.lanes.length = 1
  | .sample => 1 ≤ f.lanes.length ∧ f.lanes.length ≤ 4
  | .order => f.lanes.length = 1
  | .mgmt => 1 ≤ f.lanes.length ∧ f.lanes.length ≤ 6
  | .report => 1 ≤ f.lanes.length ∧ f.lanes.length ≤ 6

/-- The good frame that a frame boundary would pass to the router (R5, R9). -/
def State.arriving (s : State) (p : PortId) : Option Frame :=
  match (s.port p).rx with
  | .closing bytes => parseFrame bytes
  | .idle _ => none
  | .receiving _ => none
  | .discarding => none

/-- A frame in progress that a frame boundary would find bad (R9). -/
def State.badFrame (s : State) (p : PortId) : Bool :=
  match (s.port p).rx with
  | .closing bytes => (parseFrame bytes).isNone
  | .idle _ => false
  | .receiving _ => true
  | .discarding => true

/-- A valid entry whose keys are ANY or equal to the frame's kind, source, tag and port of arrival (R22). -/
def keyedOn (e : MatchEntry) (p : PortId) (f : Frame) : Prop :=
  e.valid = true ∧ (e.kindKey = none ∨ e.kindKey = some f.kind) ∧
    (e.sourceKey = none ∨ e.sourceKey = some f.source) ∧ (e.tagKey = none ∨ e.tagKey = some f.tag) ∧
    (e.portKey = none ∨ e.portKey = some p)

/-- A MGMT frame for this hub, which the match table does not see (R20, R21). -/
def forThisHub (s : State) (f : Frame) : Prop := f.kind = .mgmt ∧ (f.target = s.node ∨ f.target = 15)

/-- The entry that decides a frame: the lowest that matches it (R22). -/
def decidedBy (s : State) (p : PortId) (f : Frame) (e : MatchEntry) : Prop :=
  ¬ forThisHub s f ∧ ∃ i : Fin 32, s.tables.matches_[i] = e ∧ keyedOn e p f ∧
    ∀ j : Fin 32, j < i → ¬ keyedOn s.tables.matches_[j] p f

/-- The hub with a relay frame enqueued for a port, which clears an unlatched EGRESS flag (R11, R15). -/
def relayTaken (q : PortId) (f : Frame) (s : State) : State :=
  clearUnlatched .egress (portIndex q) (s.setPort q { s.port q with
    queue := (s.port q).queue ++ [{ frame := { f with hops := f.hops - 1 }, note := .relay }], offerTaken := true })

/-- The lanes a frame leaves with (R24 to R28), the marker with them. -/
def leavesAs (t : Tables) (e : MatchEntry) (f : Frame) : Frame :=
  if e.disposition = .cook ∧ f.kind = .sample ∧ f.cooked = false ∧ t.curves[e.curve].state = .inService then
    { f with
      cooked := true
      lanes := match e.scope with
        | .all => f.lanes.map t.curves[e.curve].output
        | .lane0 => (f.lanes.take 1).map t.curves[e.curve].output ++ f.lanes.drop 1 }
  else f

/-- A feed that fits the frame's kind, so that it delivers the frame to its block (R29). -/
def feedFits (feed : Feed) (kind : FrameKind) : Bool :=
  match feed with
  | .none => false
  | .pod _ => decide (kind = .state)
  | .slots => decide (kind = .sample)
  | .obey => decide (kind = .order)

/-- The hub after a good verdict on a port (R10): the receiver waits for a frame, the latest verdict is good, and the port's
LINK flag is clear unless the class is latched. -/
def verdictPassed (p : PortId) (s : State) : State :=
  let flags := if s.tables.hub.latch.getLsbD 6 then s.faults.flags
    else s.faults.flags.set 6 (s.faults.flags[6] &&& ~~~(match p with | .fore => 1#12 | .aft => 2#12))
  match p with
  | .fore =>
    { s with fore := { s.fore with rx := .idle true, verdictGood := true }, faults := { s.faults with flags := flags } }
  | .aft => { s with aft := { s.aft with rx := .idle true, verdictGood := true }, faults := { s.faults with flags := flags } }

/-! Verbs. -/

/-- A valid link matches an event (R72, R75): a SWITCH link by pod × 16 + bit and an edge on that bit, a COND link by the
entry and its edge, a FAULT link by the class's number, with RISE or ANY. -/
def linkMatches (l : LinkEntry) (ev : MatrixEvent) : Bool :=
  l.valid && match ev with
  | .switch pod rise fall =>
    decide (l.event = .switch) && (List.range 12).any fun bit => decide (l.index = pod.val * 16 + bit) &&
      ((decide (l.edge ≠ .fall) && rise.getLsbD bit) || (decide (l.edge ≠ .rise) && fall.getLsbD bit))
  | .cond entry rise =>
    decide (l.event = .cond) && decide (l.index = entry.val) && decide (l.edge ≠ (if rise then .fall else .rise))
  | .fault c =>
    decide (l.event = .fault) && decide (l.edge ≠ .fall) && decide (l.index = match c with
      | .openLoad => 0 | .overload => 1 | .stall => 2 | .sender => 3 | .undervolt => 4 | .overvolt => 5 | .link => 6
      | .pod => 7 | .egress => 8 | .store => 9)

/-- The guard of a link holds with the truths as they stand (R76). -/
def guardAllows (l : LinkEntry) (conds : Vector CondLive 16) : Bool :=
  match l.guard with
  | none => true
  | some c => decide (conds[c].truth = l.sense)

/-- The effective level of a fan with the level it holds, under IGN and a shed level (R94, R95). -/
def effectiveOf (t : Tables) (e : LoadEntry) (ign : Bool) (shed level : Nat) : Nat :=
  let allowed := if e.domain = .always ∨ ign = true then level else 0
  if 1 ≤ e.shedClass ∧ 4 - e.shedClass ≤ shed then min allowed t.hub.fanShedCap else allowed

/-- The verb resolved for a flash source (R82). -/
def sourceTarget : SourceId → Fin 15
  | .left => 12
  | .right => 13
  | .hazard => 14

/-- An on/off demand after a verb (R80, R82). -/
def demandByVerb (held : Bool) : Option Resolved → Bool
  | none => held
  | some .on => true
  | some .off => false
  | some (.level n) => decide (1 ≤ n)
  | some .toggle => !held

/-- A fan level and its memory after a verb (R81). -/
def fanByVerb (level memory : Nat) : Option Resolved → Nat × Nat
  | none => (level, memory)
  | some .on => (memory, memory)
  | some .off => (0, memory)
  | some (.level n) => if n = 0 then (0, memory) else (n, n)
  | some .toggle => if level = 0 then (memory, memory) else (0, memory)

/-- A kind with an on/off demand (R80). -/
def LoadKind.switched : LoadKind → Bool
  | .lamp => true
  | .stop => true
  | .stopturn => true
  | .unused => false
  | .indicator => false
  | .fan => false

/-- An event of the action matrix has moved the demands of the switched outputs, the levels of the fans and the demands of the
flash sources by the verbs of its links, and nothing else has (R79 to R82). -/
def demandsFollow (s t : State) (ev : MatrixEvent) : Prop :=
  let verb := resolvedVerbs (firingSet s ev)
  (∀ o : Fin 12, s.tables.loads[o].kind.switched = true →
    t.outs[o].demand = demandByVerb s.outs[o].demand (verb (outputTarget o))) ∧
  (∀ o : Fin 12, s.tables.loads[o].kind = .fan → (t.outs[o].fanLevel, t.outs[o].fanMemory) =
    fanByVerb s.outs[o].fanLevel s.outs[o].fanMemory (verb (outputTarget o))) ∧
  (∀ i : SourceId, (t.flash.source i).demand = demandByVerb (s.flash.source i).demand (verb (sourceTarget i)))

/-! Curves, slots, gauges, conditions. -/

/-- n is p divided by q to the nearest integer, halves away from zero (R39). -/
def nearestAway (p : Int) (q : Nat) (n : Int) : Prop :=
  2 * (p - n * q).natAbs ≤ q ∧ (2 * (p - n * q).natAbs = q → p.natAbs ≤ (n * q).natAbs)

/-- Point i of a curve offends: its y is above 1000, or its x is not above that of the point before it (R42). -/
def Curve.offends (c : Curve) (i : Nat) : Prop :=
  ∃ a, c.points[i]? = some a ∧ (1000 < a.y ∨ ∃ j b, i = j + 1 ∧ c.points[j]? = some b ∧ a.x ≤ b.x)

/-- A slot that takes a value (R47), or keeps what it holds. -/
def slotTaking (c : SlotConfig) (v : Option Lane) (x : SlotLive) : SlotLive :=
  match v with
  | some l => { value := if c.ceiling < l.toNat then noReading else l, state := .fresh, age := some (c.timeout * 100) }
  | none => x

/-- The lane of a SAMPLE frame that a slot takes, as it arrived or as it leaves (R31). -/
def laneTaken (c : SlotConfig) (f out : Frame) : Option Lane :=
  if c.binding = .link ∧ c.node = f.source ∧ c.tag = f.tag then
    match c.take with
    | .raw => f.lanes[c.lane]?
    | .cooked => out.lanes[c.lane]?
  else none

/-- After an event of some slots, each channel sourced from one of them has made one run with the slot's value, and no other
channel has changed (R133). -/
def gaugesFollow (s t : State) (changed : Fin 16 → Bool) : Prop :=
  ∀ g : Fin 4, t.gauges[g] = match s.tables.gauges[g].source with
    | some k =>
      if changed k then
        gaugeRun s.tables s.tables.gauges[g] s.supply.ign s.supply.vs t.slots[k].value s.gauges[g]
      else s.gauges[g]
    | none => s.gauges[g]

/-- After an event of some slots, the SENDER flag of each channel sourced from one of them is set where its run has ended in
FAULT, and cleared, unless latched, where the run has left FAULT; every other one stands (R143). -/
def sendersFollow (s t : State) (changed : Fin 16 → Bool) : Prop :=
  ∀ g : Fin 4, t.faults.isSet .sender g.val = match s.tables.gauges[g].source with
    | some k =>
      if changed k then
        (if t.gauges[g].state = .fault then s.faults.isSet .sender g.val || s.tables.hub.detects .sender
          else s.faults.isSet .sender g.val && (decide (s.gauges[g].state ≠ .fault) || s.tables.hub.latches .sender))
      else s.faults.isSet .sender g.val
    | none => s.faults.isSet .sender g.val

/-- The plain predicate on two ordered values (R65). -/
def plainly (p : Predicate) (a b : Nat) : Prop :=
  match p with
  | .eq => a = b
  | .lt => a < b
  | .le => a ≤ b
  | .ord => True
  | .unord => False
  | .neq => a ≠ b
  | .nlt => b ≤ a
  | .nle => b < a

/-- A true entry with hysteresis h becomes false (R66). -/
def releasedBy (p : Predicate) (a b h : Nat) : Prop :=
  match p with
  | .lt => b + h ≤ a
  | .le => b + h < a
  | .nlt => a < b - h
  | .nle => a ≤ b - h
  | .eq => a ≠ b
  | .neq => a = b
  | .ord => False
  | .unord => True

/-- The teach state is HAVE-EMPTY (R186). -/
def teachWaits (s : State) : Bool :=
  match s.mgmt.teach with
  | .idle => false
  | .haveEmpty _ => true
  | .committing => false

/-- The teach sequence ended with no change, if it waits (R187). -/
def teachEnded (s : State) : State :=
  if teachWaits s then { s with mgmt := { s.mgmt with teach := .idle, window := none } } else s

/-- A press finds what it needs (R186): a teach gauge with a slot for its source, FRESH with a reading, and a curve in service, and
no commit in progress. -/
def pressReady (s : State) (g : Fin 4) (k : Fin 16) (c : Fin 8) : Prop :=
  s.tables.hub.teachGauge = some g ∧ s.tables.gauges[g].source = some k ∧ s.tables.gauges[g].curve = some c ∧
    s.slots[k].state = .fresh ∧ s.slots[k].value ≠ 4095 ∧ s.tables.curves[c].state = .inService ∧ committing s = false

/-- The modulator steps of one channel: how many of n turned the output on, and the channel after them (R140). -/
def modulatorSteps : Nat → State → Fin 4 → Nat × State
  | 0, s, _ => (0, s)
  | n + 1, s, g =>
    match exec .modulatorStep s with
    | .next t => let (on, u) := modulatorSteps n t g; ((if t.gauges[g].out then 1 else 0) + on, u)
    | .fault _ => (0, s)
    | .refused _ => (0, s)

/-! Requests. -/

/-- The engine takes a request (R173) of a hub whose outstanding copies are made (R16). -/
structure State.takesRequests (s : State) : Prop where
  running : s.inReset = false
  serving : s.mgmt.service ≠ .restarting
  free : replyPending s.reports.list = false
  copied : s.copiesMade

/-- The frame of a REPLY (R12, R172). -/
def replyFrame (s : State) (r : Requester) (code status : Nat) (data : List Lane) : Frame :=
  { kind := .report, hops := s.tables.hub.originHops, source := s.node, target := r.source, tag := 1, cooked := false,
    lanes := r.ticket :: laneOf (code * 16 + status) :: data }

/-- The end of an event that has made `u` of `s`: a STATE need where lane 0 or lane 1 content has changed (R169, R170). -/
def afterNeed (s u : State) : State := if lanesChanged s u then stateNeed u else u

/-- A STATE or FAULT report that joins now goes to this port (R168). -/
def goesTo (s : State) (p : PortId) : Bool :=
  match p with
  | .fore => decide (s.tables.hub.reportPort ≠ .aft)
  | .aft => decide (s.tables.hub.reportPort ≠ .fore)

/-- It goes there and finds no free place (R13, R16). -/
def leftFor (s : State) (p : PortId) : Bool := goesTo s p && decide (8 ≤ (s.port p).queue.length)

/-- The hub with the copies of a report made for which there is room (R16). -/
def reportPut (s : State) (f : Frame) : State :=
  let more := fun p => if goesTo s p && !leftFor s p then [{ frame := f, note := FrameNote.report : FrameRecord }] else []
  { s with
    fore := { s.fore with queue := s.fore.queue ++ more .fore }
    aft := { s.aft with queue := s.aft.queue ++ more .aft } }

/-- A side is lit: by HAZARD while that is active, and by its own source otherwise, in ON and TRAIL (R113, R122). -/
def litShown (f : FlashState) (d : Side) : Bool :=
  let phase := if f.hazard.phase ≠ .idle then f.hazard.phase else match d with | .left => f.left.phase | .right => f.right.phase
  decide (phase = .on ∨ phase = .trail)

/-- The fail item of a side: HAZARD's mark while that is active, and its own source's otherwise (R128). -/
def failShown (f : FlashState) (d : Side) : Bool :=
  match d with
  | .left => if f.hazard.phase ≠ .idle then f.hazard.failLeft else f.left.failLeft
  | .right => if f.hazard.phase ≠ .idle then f.hazard.failRight else f.right.failRight

/-- The teach state as a number (R169). -/
def teachShown (s : State) : Nat :=
  match s.mgmt.teach with
  | .idle => 0
  | .haveEmpty _ => 1
  | .committing => 2

/-- The STATE frame of the hub as it stands (R12, R147, R169): the drive bits, the items of lane 1 at their bits, and the
positions of the four gauges. -/
def stateFrame (s : State) : Frame :=
  let weigh := fun (b : Bool) (weight : Nat) => if b then weight else 0
  { kind := .report, hops := s.tables.hub.originHops, source := s.node, target := 15, tag := 0, cooked := false
    lanes :=
      BitVec.ofNat 12 ((List.finRange 12).map fun o => weigh s.outs[o].drive (2 ^ o.val)).sum ::
      BitVec.ofNat 12 (weigh (litShown s.flash .left) 1 + weigh (litShown s.flash .right) 2 +
        weigh (decide (s.flash.hazard.phase ≠ .idle)) 4 + weigh (failShown s.flash .left) 8 +
        weigh (failShown s.flash .right) 16 + weigh s.supply.ign 32 + s.supply.shed * 64 + teachShown s * 256 +
        weigh s.faults.lost 1024 + weigh s.reports.overrun 2048) ::
      (List.finRange 4).map fun g =>
        if s.gauges[g].state = .live ∨ (s.gauges[g].state = .fault ∧ s.tables.gauges[g].policy ≠ .park) then
          BitVec.ofNat 12 s.gauges[g].p
        else 4095 }

/-- Some item of lane 0 or lane 1 differs; MGMT-OVERRUN only where it has been set (R169, R170). -/
def contentChanged (s t : State) : Prop :=
  (∃ o : Fin 12, t.outs[o].drive ≠ s.outs[o].drive) ∨
    (∃ d : Side, litShown t.flash d ≠ litShown s.flash d ∨ failShown t.flash d ≠ failShown s.flash d) ∨
    ¬(t.flash.hazard.phase = .idle ↔ s.flash.hazard.phase = .idle) ∨ t.supply.ign ≠ s.supply.ign ∨
    t.supply.shed ≠ s.supply.shed ∨ teachShown t ≠ teachShown s ∨ t.faults.lost ≠ s.faults.lost ∨
    (s.reports.overrun = false ∧ t.reports.overrun = true)

/-- The hub with a STATE report on its way where none was pending and no need held (R16, R168, R170): the refresh timer
starts again, and where every copy is made at once with MGMT-OVERRUN set, that clears. -/
def stateSent (s : State) : State :=
  let u := reportPut s (stateFrame s)
  let copied := (goesTo s .fore && !leftFor s .fore) || (goesTo s .aft && !leftFor s .aft)
  let left := leftFor s .fore || leftFor s .aft
  { u with reports := { s.reports with
      list := s.reports.list ++ (if left then
        [{ body := .state copied (!copied || s.reports.overrun), toFore := leftFor s .fore, toAft := leftFor s .aft }] else [])
      overrun := s.reports.overrun && left
      refresh := if s.tables.hub.refresh = 0 then none else some s.tables.hub.refresh } }

/-- The hub with a reply on its way (R16, R172): in the queue of the requester's port where that has a free place, and
otherwise at the end of the pending list. -/
def answeredWith (commit restart : Bool) (s : State) (r : Requester) (code status : Nat) (data : List Lane) : State :=
  if (s.port r.port).queue.length < 8 then
    s.setPort r.port { s.port r.port with
      queue := (s.port r.port).queue ++
        [{ frame := replyFrame s r code status data, note := if restart then .restartReply else .report }] }
  else
    { s with reports := { s.reports with list := s.reports.list ++ [
      { body := .reply r.source (r.ticket :: laneOf (code * 16 + status) :: data) commit restart
        toFore := decide (r.port = .fore), toAft := decide (r.port = .aft) }] } }

/-- The hub with an ordinary reply on its way. -/
def answered (s : State) (r : Requester) (code status : Nat) (data : List Lane) : State :=
  answeredWith false false s r code status data

/-- The table directory (R176): entries and fields of tables 0 to 9. -/
def directory : List (Nat × Nat) :=
  [(32, 9), (8, 20), (16, 8), (8, 1), (16, 7), (48, 9), (12, 10), (4, 11), (4, 7), (1, 23)]

/-- The status of an address of the directory: BADTABLE 2, BADINDEX 3, BADFIELD 4, or 0 (R176). -/
def addressCode (table index field : Nat) : Nat :=
  match directory[table]? with
  | none => 2
  | some (entries, fields) => if entries ≤ index then 3 else if fields ≤ field then 4 else 0

/-- The request row that a request code names (R174); 11 to 15 name none. -/
def rowOfCode (code : Nat) (r : Requester) (lanes : List Lane) : Option Instr :=
  match code with
  | 0 => some (.ident r lanes)
  | 1 => some (.read r lanes)
  | 2 => some (.write r lanes)
  | 3 => some (.openCurve r lanes)
  | 4 => some (.closeCurve r lanes)
  | 5 => some (.commit r lanes)
  | 6 => some (.readLive r lanes)
  | 7 => some (.clearFaults r lanes)
  | 8 => some (.readCapture r lanes)
  | 9 => some (.releaseCapture r lanes)
  | 10 => some (.restart r lanes)
  | _ => none

/-- A request row with its requester. -/
def requesterOf : Instr → Option Requester
  | .ident r _ => some r
  | .read r _ => some r
  | .write r _ => some r
  | .curvePointWrite r _ _ _ => some r
  | .slotConfigWrite r _ _ _ => some r
  | .podTimeoutWrite r _ _ => some r
  | .conditionWrite r _ _ _ => some r
  | .loadEntryWrite r _ _ _ => some r
  | .gaugeEntryWrite r _ _ _ => some r
  | .detectMaskWrite r _ => some r
  | .refreshWrite r _ => some r
  | .teachGaugeWrite r _ => some r
  | .openCurve r _ => some r
  | .closeCurve r _ => some r
  | .commit r _ => some r
  | .readLive r _ => some r
  | .clearFaults r _ => some r
  | .readCapture r _ => some r
  | .releaseCapture r _ => some r
  | .restart r _ => some r
  | .frameBoundary _ => none
  | .transmitStart _ => none
  | .transmissionCompletion _ _ => none
  | .resetEntry => none
  | .resetEnd _ => none
  | .localSample _ _ _ _ => none
  | .slotAgeExpiry _ => none
  | .podTimeoutExpiry _ => none
  | .localPinChange _ _ => none
  | .debounceHoldExpiry _ => none
  | .currentSample _ _ => none
  | .softStartCount _ => none
  | .checkWindowOpen _ => none
  | .retryExpiry _ => none
  | .fanSlewStep => none
  | .stallExpiry _ => none
  | .phaseExpiry _ => none
  | .gapExpiry _ => none
  | .modulatorStep => none
  | .vsUpdate _ => none
  | .enterTimerExpiry => none
  | .restoreTimerExpiry => none
  | .uptimeTick => none
  | .refreshExpiry => none
  | .commitCompletion _ => none
  | .teachPinChange _ => none
  | .teachHoldExpiry => none
  | .teachLockoutExpiry => none
  | .windowExpiry => none
  | .characterStart _ _ => none
  | .characterFault _ => none

/-- The rows that a running commit holds off with BUSY, and the request code of each (R174). -/
def heldOffCode : Instr → Option Nat
  | .write _ lanes => if lanes.length < 4 then none else some 2
  | .curvePointWrite _ _ _ _ => some 2
  | .slotConfigWrite _ _ _ _ => some 2
  | .podTimeoutWrite _ _ _ => some 2
  | .conditionWrite _ _ _ _ => some 2
  | .loadEntryWrite _ _ _ _ => some 2
  | .gaugeEntryWrite _ _ _ _ => some 2
  | .detectMaskWrite _ _ => some 2
  | .refreshWrite _ _ => some 2
  | .teachGaugeWrite _ _ => some 2
  | .openCurve _ lanes => if lanes.length < 1 then none else some 3
  | .closeCurve _ lanes => if lanes.length < 1 then none else some 4
  | .commit _ _ => some 5
  | .clearFaults _ lanes => if lanes.length < 1 then none else some 7
  | .restart _ _ => some 10
  | _ => none

/-! The check byte, the ranges of the fields, operands. -/

/-- One shift of the check register (R8). -/
def checkShift (r : Nat) : Nat := if 128 ≤ r then (2 * r % 256) ^^^ 7 else 2 * r % 256

/-- The check byte over some bytes (R8): all ones, and for each byte an exclusive-or and eight shifts. -/
def checkByte (bytes : List Byte) : Nat := bytes.foldl (fun r b => Nat.iterate checkShift 8 (r ^^^ b.toNat)) 255

/-- The least and the greatest number that a WRITE to each field of tables 0 to 9 accepts (R19, R36, R45, R55, R63, R71, R88,
R110, R129, R177), words by their places (R178). The state of a curve accepts none (R41). -/
def fieldRanges : List (List (Nat × Nat)) :=
  [[(0, 1), (0, 5), (0, 14), (0, 15), (0, 2), (0, 2), (0, 7), (0, 1), (0, 10)],
   [(0, 9), (0, 4094), (0, 4095), (0, 4094), (0, 4095), (0, 4094), (0, 4095), (0, 4094), (0, 4095), (0, 4094), (0, 4095),
    (0, 4094), (0, 4095), (0, 4094), (0, 4095), (0, 4094), (0, 4095), (0, 4094), (0, 4095)],
   [(0, 2), (0, 14), (0, 15), (0, 3), (0, 1), (0, 3), (1, 255), (0, 4094)],
   [(0, 255)],
   [(0, 1), (0, 4), (0, 15), (0, 5), (0, 65535), (0, 7), (0, 4095)],
   [(0, 1), (0, 2), (0, 143), (0, 2), (0, 14), (0, 3), (0, 4), (0, 15), (0, 1)],
   [(0, 5), (0, 1), (0, 1), (0, 3), (0, 255), (0, 255), (0, 20000), (0, 20000), (0, 20000), (0, 1)],
   [(0, 63), (0, 1), (0, 63), (0, 1), (0, 63), (0, 1), (0, 63), (0, 1), (0, 63), (0, 1), (0, 1)],
   [(0, 15), (0, 7), (0, 7), (0, 18000), (2000, 18000), (0, 2), (0, 1000)],
   [(0, 7), (0, 2), (100, 5000), (5, 255), (0, 100), (0, 100), (0, 100), (0, 100), (1, 100), (0, 4), (2000, 18000),
    (4000, 19700), (2000, 18000), (2000, 18000), (1, 60), (1, 60), (0, 3), (0, 3), (0, 3), (0, 1), (0, 3), (0, 1023),
    (0, 1023)]]

/-- The number lies in the range of its field: between the two ends, for a current in steps of 10 (R89); or it is the 255 of
ANY and NONE (R178), or the 0 of the refresh setting (R177). -/
def inRange (table field v : Nat) : Bool :=
  match (fieldRanges.getD table [])[field]? with
  | none => false
  | some (least, greatest) =>
    (decide (least ≤ v ∧ v ≤ greatest) && (decide (table ≠ 6 ∨ field < 6 ∨ 8 < field) || decide (v % 10 = 0))) ||
      (decide (v = 255) && decide ((table, field) ∈ [(0, 2), (0, 3), (5, 7), (8, 0), (8, 1), (9, 20)])) ||
      (decide (v = 0) && decide ((table, field) = (9, 2)))

/-- The number of a truth (R178). -/
def yesNo (b : Bool) : Nat := if b then 1 else 0

/-- The number of an index, 255 for NONE (R178). -/
def orNone {n : Nat} (x : Option (Fin n)) : Nat :=
  match x with
  | none => 255
  | some i => i.val

/-- The number of a key, 255 for ANY (R178). -/
def orAny (x : Option (BitVec 4)) : Nat :=
  match x with
  | none => 255
  | some k => k.toNat

/-- The fields of a match entry as numbers, in the directory's order (R19, R178). -/
def matchNumbers (e : MatchEntry) : List Nat :=
  [yesNo e.valid,
   match e.kindKey with
    | none => 0 | some .state => 1 | some .sample => 2 | some .order => 3 | some .mgmt => 4 | some .report => 5,
   orAny e.sourceKey, orAny e.tagKey,
   match e.portKey with | none => 0 | some .fore => 1 | some .aft => 2,
   match e.disposition with | .pass => 0 | .drop => 1 | .cook => 2,
   e.curve.val,
   match e.scope with | .all => 0 | .lane0 => 1,
   match e.feed with | .none => 0 | .pod p => p.val + 1 | .slots => 9 | .obey => 10]

/-- The fields of a curve as numbers: count, x0, y0 to x8, y8, state (R36, R178). -/
def curveNumbers (c : Curve) : List Nat :=
  c.count :: (c.points.toList.flatMap fun p => [p.x, p.y]) ++ [match c.state with | .edit => 0 | .inService => 1]

/-- The fields of a slot configuration as numbers (R45, R178). -/
def slotNumbers (c : SlotConfig) : List Nat :=
  [match c.binding with | .none => 0 | .link => 1 | .loc => 2,
   c.node.toNat, c.tag.toNat, c.lane,
   match c.take with | .raw => 0 | .cooked => 1,
   c.input.val, c.timeout, c.ceiling]

/-- The number of an operand kind (R63, R178). -/
def operandNumber : OperandKind → Nat
  | .slot => 0 | .gauge => 1 | .supply => 2 | .current => 3 | .shed => 4 | .const => 5

/-- The fields of a condition entry as numbers (R63, R178). -/
def condNumbers (e : CondEntry) : List Nat :=
  [yesNo e.valid, operandNumber e.aKind, e.aIndex, operandNumber e.bKind, e.bIndex,
   match e.predicate with | .eq => 0 | .lt => 1 | .le => 2 | .unord => 3 | .neq => 4 | .nlt => 5 | .nle => 6 | .ord => 7,
   e.hysteresis]

/-- The fields of a link as numbers (R71, R178). -/
def linkNumbers (l : LinkEntry) : List Nat :=
  [yesNo l.valid,
   match l.event with | .switch => 0 | .cond => 1 | .fault => 2,
   l.index,
   match l.edge with | .rise => 0 | .fall => 1 | .any => 2,
   l.target.val,
   match l.verb with | .on => 0 | .off => 1 | .toggle => 2 | .level => 3,
   l.level, orNone l.guard, yesNo (!l.sense)]

/-- The fields of a load entry as numbers (R88, R178). -/
def loadNumbers (e : LoadEntry) : List Nat :=
  [match e.kind with | .unused => 0 | .lamp => 1 | .stop => 2 | .indicator => 3 | .stopturn => 4 | .fan => 5,
   match e.side with | .left => 0 | .right => 1,
   match e.domain with | .always => 0 | .ignition => 1,
   e.shedClass, e.ramp, e.mask, e.imin, e.imax, e.stallLimit, yesNo e.ordersAllowed]

/-- The fields of a flash profile as numbers: five times with their units, and the release (R110, R178). -/
def profileNumbers (p : Profile) : List Nat :=
  ([p.setup, p.pulse, p.cycle, p.failcycle, p.gap].flatMap fun t =>
    [t.count, match t.unit with | .fine => 0 | .coarse => 1]) ++ [match p.release with | .complete => 0 | .cut => 1]

/-- The fields of a gauge entry as numbers (R129, R178). -/
def gaugeNumbers (e : GaugeEntry) : List Nat :=
  [orNone e.source, orNone e.curve, e.damping, e.vz, e.vfs, match e.policy with | .hold => 0 | .park => 1 | .mark => 2, e.mark]

/-- The fields of the hub table as numbers (R177, R178). -/
def hubNumbers (h : HubTable) : List Nat :=
  [h.originHops.toNat, match h.reportPort with | .fore => 0 | .aft => 1 | .both => 2, h.refresh, h.debounce] ++
    h.fanDuty.toList ++
    [h.fanSlew, h.fanShedCap, h.uv, h.ov, h.venter, h.vrestore, h.enterDwell, h.restoreDwell, h.profileLeft.val,
     h.profileRight.val, h.profileHazard.val, yesNo h.ordersToFlasher, orNone h.teachGauge, h.detect.toNat, h.latch.toNat]

/-- The fields of an entry of tables 0 to 9 as numbers (R176). -/
def entryNumbers (t : Tables) (table index : Nat) : List Nat :=
  match table with
  | 0 => (t.matches_[index]?).elim [] matchNumbers
  | 1 => (t.curves[index]?).elim [] curveNumbers
  | 2 => (t.slots[index]?).elim [] slotNumbers
  | 3 => (t.podTimeouts[index]?).elim [] fun timeout => [timeout]
  | 4 => (t.conds[index]?).elim [] condNumbers
  | 5 => (t.links[index]?).elim [] linkNumbers
  | 6 => (t.loads[index]?).elim [] loadNumbers
  | 7 => (t.profiles[index]?).elim [] profileNumbers
  | 8 => (t.gauges[index]?).elim [] gaugeNumbers
  | 9 => if index = 0 then hubNumbers t.hub else []
  | _ => []

/-- Only field `field` of an entry has changed, to v. -/
def onlyField (before after : List Nat) (field v : Nat) : Prop :=
  after[field]? = some v ∧ ∀ other : Nat, other ≠ field → after[other]? = before[other]?

/-- The value of an operand as the hub stands, none while it is unordered (R64). -/
def operandIn (s : State) (kind : OperandKind) (index : Nat) : Option Nat :=
  match kind with
  | .slot => (s.slots[index]?).bind fun x => if x.value = 4095 then none else some x.value.toNat
  | .gauge => (s.gauges[index]?).bind fun x => if x.state = .live then some x.p else none
  | .supply => some s.supply.vs
  | .current => (s.outs[index]?).map fun x => x.current
  | .shed => some s.supply.shed
  | .const => some index

/-- After an event that gives some operands new values, each valid condition that reads one of them has been evaluated once,
with the values as they stand, and no other has changed (R68). -/
def conditionsTake (s t : State) (reads : OperandKind → Nat → Bool) : Prop :=
  ∀ c : Fin 16,
    let e := s.tables.conds[c]
    t.conds[c] = if e.valid && (reads e.aKind e.aIndex || reads e.bKind e.bIndex) then
        evaluate e s.conds[c] (operandIn t e.aKind e.aIndex) (operandIn t e.bKind e.bIndex)
      else s.conds[c]

/-- The edges that conditions have made, each an event of the action matrix, in ascending entry number and with guards that see
every new truth, have moved the demands of outputs, fans and flash sources, and nothing else has (R69). -/
def edgesMove (s t : State) : Prop :=
  let edges := (List.finRange 16).filter fun c => decide (t.conds[c].truth ≠ s.conds[c].truth)
  let verb := fun c => resolvedVerbs (firingSet { s with conds := t.conds } (.cond c t.conds[c].truth))
  (∀ o : Fin 12, s.tables.loads[o].kind.switched = true →
    t.outs[o].demand = edges.foldl (fun d c => demandByVerb d (verb c (outputTarget o))) s.outs[o].demand) ∧
  (∀ o : Fin 12, s.tables.loads[o].kind = .fan → (t.outs[o].fanLevel, t.outs[o].fanMemory) =
    edges.foldl (fun x c => fanByVerb x.1 x.2 (verb c (outputTarget o))) (s.outs[o].fanLevel, s.outs[o].fanMemory)) ∧
  (∀ i : SourceId, (t.flash.source i).demand =
    edges.foldl (fun d c => demandByVerb d (verb c (match i with | .left => 12 | .right => 13 | .hazard => 14)))
      (s.flash.source i).demand)

/-- A channel sourced from a slot that an event changes: it makes a run in the event (R133). -/
def runsIn (s : State) (changed : Fin 16 → Bool) (g : Fin 4) : Bool :=
  match s.tables.gauges[g].source with
  | some k => changed k
  | none => false

/-- The operand is a slot that an event changes. -/
def slotChanged (changed : Fin 16 → Bool) (kind : OperandKind) (index : Nat) : Bool :=
  decide (kind = .slot) && (List.finRange 16).any fun k => decide (k.val = index) && changed k

/-- The operand takes a new value in an event of some slots (R68): it is one of them, or the gauge of a channel that runs. -/
def slotsReach (s : State) (changed : Fin 16 → Bool) (kind : OperandKind) (index : Nat) : Bool :=
  slotChanged changed kind index ||
    (decide (kind = .gauge) && (List.finRange 4).any fun g => decide (g.val = index) && runsIn s changed g)

/-- After an event of some slots, each valid condition with one of them as operand A or B has been evaluated with its new value
(R49, R68), each one on the gauge of a channel that has run with the new position (R68, R145), and no other has changed. The two
hand-ons are made in an open order: an entry that both reach is one with two live operands, so that its last evaluation finds
both of them new and no hysteresis applies (R66). -/
def conditionsFollow (s t : State) (changed : Fin 16 → Bool) : Prop := conditionsTake s t (slotsReach s changed)

/-- After an event of some slots, the edges of conditions have acted (R69): where no channel runs, and where one channel runs, no
valid condition reads the slots themselves, and no link acts on a SENDER raise beside them. -/
def slotEdgesMove (s t : State) (changed : Fin 16 → Bool) : Prop :=
  ((∀ g : Fin 4, runsIn s changed g = false) → edgesMove s t) ∧
  (∀ g : Fin 4, (∀ h : Fin 4, h ≠ g → runsIn s changed h = false) →
    (∀ c : Fin 16, s.tables.conds[c].valid = true →
      slotChanged changed s.tables.conds[c].aKind s.tables.conds[c].aIndex = false ∧
        slotChanged changed s.tables.conds[c].bKind s.tables.conds[c].bIndex = false) →
    (t.faults.isSet .sender g.val = s.faults.isSet .sender g.val ∨ wakesMatrix s (.fault .sender) = false) →
    edgesMove s t)

/-! The flasher's hold on outputs, fault raises and their reports. -/

/-- The changeover gap of a context that begins on a side, with the sources as they are after it (R123). -/
def gapTime (t : Tables) (after : FlashState) (d : Side) : Nat :=
  (if after.hazard.phase ≠ .idle then t.profiles[t.hub.profileHazard]
    else match d with
      | .left => t.profiles[t.hub.profileLeft]
      | .right => t.profiles[t.hub.profileRight]).gap.ms

/-- An output after a demand-off, if there was one (R104): NORMAL, no trips, retry and stall timers stopped. -/
def releasedIf (off : Bool) (x : OutLive) : OutLive :=
  if off then { x with protection := .normal, trips := 0, retry := none, stall := none } else x

/-- An output with its drive recomputed (R96): on where it is requested and NORMAL. A drive-on begins a soft start at 25 % where
there is a ramp, and is at 100 % otherwise (R97); its check window opens at the later end of mask and ramp (R99), at once where
both are 0 (log 24). A drive-off ends the soft start, closes the window, and leaves a duty of 0 and no stall timer. A drive
that stays as it was is left alone. -/
def drivenAs (wanted : Bool) (ramp mask : Nat) (x : OutLive) : OutLive :=
  if wanted = true ∧ x.protection = .normal then
    if x.drive then x
    else
      let wait := max mask (ramp * 10)
      { x with
        drive := true
        duty := if ramp = 0 then 100 else 25
        softStart := if ramp = 0 then none else some 0
        window := if wait = 0 then .opened else .waiting wait }
  else if x.drive then { x with drive := false, duty := 0, softStart := none, window := .closed, stall := none }
  else x

/-- An INDICATOR or STOPTURN output after an event that has taken the sources from `before` to `after`. Where its side's context
begins under its brake part's light, a gap starts (R123); where it ends, the gap is discarded (R124), and that is a demand-off
for an INDICATOR and for a brake demand that is OFF (R121). Then it follows its side's light, or its brake part outside a
context (R122, R125): an output that becomes lit is driven on with a fresh mask, and with a soft start by its brake part
alone (R97); one that stays lit under the flasher is at 100 %. -/
def flashedOutput (t : Tables) (before after : FlashState) (ign : Bool) (e : LoadEntry) (x : OutLive) : OutLive :=
  let began := !before.context e.side && after.context e.side
  let ended := before.context e.side && !after.context e.side
  let gap :=
    if e.kind ≠ .stopturn then x.gap
    else if began then (if x.drive = true ∧ gapTime t after e.side ≠ 0 then some (gapTime t after e.side) else none)
    else if ended then none else x.gap
  let y := releasedIf (ended && (decide (e.kind = .indicator) || !x.demand)) { x with gap := gap }
  let wanted :=
    if e.kind = .indicator then after.lit e.side
    else if after.context e.side then after.lit e.side && gap.isNone
    else x.demand && (decide (e.domain = .always) || ign)
  let flashed := e.kind = .stopturn ∧ after.context e.side = true
  if flashed ∧ wanted = true ∧ y.protection = .normal ∧ x.drive = true then { y with duty := 100, softStart := none }
  else drivenAs wanted (if e.kind = .stopturn ∧ ¬ flashed then e.ramp else 0) e.mask y

/-- An event that resolves some verb has moved an output by the verb resolved for it (R80, R81, R83), under IGN and the shed level
as they stand. A LAMP or STOP demand going OFF, a FAN level going to 0, the end of an INDICATOR's context, and for a STOPTURN its
brake demand going OFF outside a context or its context ending with the demand OFF, are demand-offs: they release the
protection (R104) and clear the OVERLOAD and STALL flags that are not latched (R105). The drive is then as the request and NORMAL
say (R92, R93, R96 to R99). A STOPTURN output reached by a verb of its own and by its flash sources takes them in an open order,
and its drive is as its values after both say. -/
def outputFollows (s t : State) (verb : Fin 15 → Option Resolved) (o : Fin 12) : Prop :=
  let e := s.tables.loads[o]
  let x := s.outs[o]
  let v := verb (outputTarget o)
  let demand := demandByVerb x.demand v
  let (level, memory) := fanByVerb x.fanLevel x.fanMemory v
  let allowed := decide (e.domain = .always) || s.supply.ign
  let shed := decide (1 ≤ e.shedClass) && decide (4 - e.shedClass ≤ s.supply.shed)
  let ended := s.flash.context e.side && !t.flash.context e.side
  let brakeOff := x.demand && !demand && !s.flash.context e.side
  let flagsAfter := fun (off : Bool) => ∀ c ∈ [FaultClass.overload, FaultClass.stall],
    t.faults.isSet c o.val = (s.faults.isSet c o.val && (s.tables.hub.latches c || !off))
  match e.kind with
  | .unused => t.outs[o] = drivenAs false 0 0 x ∧ flagsAfter false
  | .lamp | .stop =>
    let off := x.demand && !demand
    t.outs[o] = drivenAs (demand && allowed && !shed) e.ramp e.mask (releasedIf off { x with demand := demand }) ∧
      flagsAfter off
  | .fan =>
    let off := decide (0 < x.fanLevel) && decide (level = 0)
    let y := releasedIf off { x with
      fanLevel := level
      fanMemory := memory
      effective := if level = x.fanLevel then x.effective else effectiveOf s.tables e s.supply.ign s.supply.shed level }
    { t.outs[o] with duty := x.duty } = { drivenAs (decide (0 < x.actual)) 0 e.mask y with duty := x.duty } ∧ flagsAfter off
  | .indicator => t.outs[o] = flashedOutput s.tables s.flash t.flash s.supply.ign e x ∧ flagsAfter ended
  | .stopturn =>
    let z := t.outs[o]
    (v = none ∨ (verb 12 = none ∧ verb 13 = none ∧ verb 14 = none) →
      z = flashedOutput s.tables s.flash t.flash s.supply.ign e (releasedIf brakeOff { x with demand := demand }) ∧
        flagsAfter (brakeOff || (ended && !demand))) ∧
    z.demand = demand ∧
    z.drive = ((if t.flash.context e.side then t.flash.lit e.side && z.gap.isNone else demand && allowed) &&
      decide (z.protection = .normal))

/-- The sources run as their demands, IGN and HAZARD say (R114, R119, R120). -/
def sourcesSettled (t : State) : Prop :=
  t.flash.hazard.runs = t.flash.hazard.demand ∧
    ∀ d : Side, (t.flash.side d).runs = ((t.flash.side d).demand && t.supply.ign && !t.flash.hazard.active)

/-- The record of a raise made as the hub stands (R164). -/
def recordOf (s : State) (c : FaultClass) (i value : Nat) : CaptureRecord :=
  { cls := c, index := i, value := value, vs := s.supply.vs, uptime := s.faults.uptime }

/-- The capture slots and LOST after a report of a fault (R160, R165): where the report is a raise, the first FREE slot takes the
record, and with both HELD LOST is set. -/
def captured (s : State) (c : FaultClass) (i value : Nat) : Vector (Option CaptureRecord) 2 × Bool :=
  if s.faults.isSet c i = true ∨ s.tables.hub.detects c = false then (s.faults.capture, s.faults.lost)
  else if s.faults.capture[0] = none then (s.faults.capture.set 0 (some (recordOf s c i value)), s.faults.lost)
  else if s.faults.capture[1] = none then (s.faults.capture.set 1 (some (recordOf s c i value)), s.faults.lost)
  else (s.faults.capture, true)

/-- The value lane of a record (R171, R180). -/
def valueLane (r : CaptureRecord) : Nat :=
  match r.cls with
  | .openLoad | .overload | .stall | .undervolt | .overvolt => r.value / 10
  | .sender => r.value
  | .link | .pod | .egress | .store => 0

/-- The lanes of the FAULT report of a slot (R171). -/
def reportLanes (slot : Fin 2) (r : CaptureRecord) : List Lane :=
  [laneOf (slot.val * 256 + r.cls.number.val * 16 + r.index), laneOf (valueLane r), laneOf (r.vs / 10),
    laneOf (r.uptime / 4096), laneOf (r.uptime % 4096)]

/-- The hub with the FAULT report of a slot on its way (R12, R16, R168): in the queue of each destination with a free place, and
in the pending list for the others. -/
def faultSent (slot : Fin 2) (r : CaptureRecord) (s : State) : State :=
  let u := reportPut s { kind := .report, hops := s.tables.hub.originHops, source := s.node, target := 15, tag := 2,
                         cooked := false, lanes := reportLanes slot r }
  if leftFor s .fore || leftFor s .aft then
    { u with reports := { u.reports with list := u.reports.list ++
      [{ body := .fault slot (reportLanes slot r), toFore := leftFor s .fore, toAft := leftFor s .aft }] } }
  else u

/-- The hub after a raise that no link names, in an event that has made `u` of `s` and is answered by `reply`: the flag is set and
the capture attempt made (R160, R165), and what that brings joins in the order STATE, REPLY, FAULT (R168). -/
def raisedAlone (s u : State) (c : FaultClass) (i value : Nat) (reply : State → State) : State :=
  let slots := captured u c i value
  let w := { u with faults := { u.faults.setFlag c i with capture := slots.1, lost := slots.2 } }
  let v := reply (afterNeed s w)
  if u.faults.capture[0] = none then faultSent 0 (recordOf u c i value) v
  else if u.faults.capture[1] = none then faultSent 1 (recordOf u c i value) v
  else v

/-! The relay offer of a frame that arrives on a port, where something else is done with the frame as well. -/

/-- The queue of the opposite port has a free place (R15). -/
abbrev offerHasRoom (s : State) (p : PortId) : Prop := (s.port p.opposite).queue.length < 8

/-- A frame offered to the opposite port, or not, is discarded there for a full queue, and its EGRESS report is a raise (R15, R160). -/
def offerRaises (s : State) (p : PortId) (offered : Bool) : Bool :=
  offered && !decide (offerHasRoom s p) && !s.faults.isSet .egress (portIndex p.opposite) && s.tables.hub.detects .egress

/-- What an offer leaves in the state (R15, R160): the mark that it was enqueued or discarded, and the EGRESS flag, which an
enqueued one clears unless it is latched and a discarded one sets where the class is detected. -/
def offerShows (s t : State) (p : PortId) (offered : Bool) : Prop :=
  let q := p.opposite
  let flag := s.faults.isSet .egress (portIndex q)
  (t.port q).offerTaken = (if offered then decide (offerHasRoom s p) else (s.port q).offerTaken) ∧
    t.faults.isSet .egress (portIndex q) =
      (if offered = false then flag
        else if offerHasRoom s p then flag && s.tables.hub.latches .egress
        else flag || s.tables.hub.detects .egress)

/-- The capture slots and LOST after the offer (R15, R165). -/
def offerCaptures (s : State) (p : PortId) (offered : Bool) : Vector (Option CaptureRecord) 2 × Bool :=
  if offered = true ∧ ¬ offerHasRoom s p then captured s .egress (portIndex p.opposite) 0 else (s.faults.capture, s.faults.lost)

/-- No link acts on an EGRESS raise of the offer. -/
abbrev offerQuiet (s : State) (p : PortId) (offered : Bool) : Prop :=
  offerRaises s p offered = true → wakesMatrix s (.fault .egress) = false

/-- The hub after the offer alone (R11, R15): the relay frame enqueued, or discarded with the mark of it. The report of a discard
is apart. -/
def offerMade (p : PortId) (f : Frame) (s : State) : State :=
  if offerHasRoom s p then relayTaken p.opposite f s
  else s.setPort p.opposite { s.port p.opposite with offerTaken := false }

/-- A WRITE to this field of the hub table (R174, R176). -/
def writesHub (f : Frame) (field : Nat) : Bool :=
  decide (f.tag = 2) && decide (f.lanes[1]? = some 0x900) && decide (f.lanes[2]? = some (laneOf field))

end Sys2Proof.Machine
end

