-- ==== Sys2Proof/Certificates/Slice0/Obligations.lean ====
section
/-! DEFINITION. The statements for the provers: what the commands do, what every step keeps, and what reset leaves, each
from the numbered rules of spec/. -/

section

open Sys2Proof Sys2Proof.Machine

/-! The queue of commands and the reset. -/

/-- A step takes the command at the front of the queue and runs it with the rest; an empty queue idles (the model's
choice, logs 2 and 7). -/
def Obligations.StepRunsTheFrontCommand : Prop :=
  ∀ (c : Instr) (rest : List Instr) (s : State),
    step { s with pending := c :: rest } = exec c { s with pending := rest } ∧
    step { s with pending := [] } = .next { s with pending := [] }

/-- No command stops the hub, none takes a command from the queue or puts one there, and the node number changes only
where a supply reset starts the hub, at the end of a reset or at the completion of the RESTART reply (R17, R158, R184). -/
def Obligations.EveryCommandAnswersAndKeepsTheQueue : Prop :=
  ∀ (c : Instr) (s : State), ∃ t, exec c s = .next t ∧ t.pending = s.pending ∧
    (t.node ≠ s.node → ∃ i : StartInputs, t.node = (if i.straps = 15 then 14 else i.straps) ∧
      ((c = .resetEnd i ∧ s.inReset = true ∧ 5000 < i.supply) ∨
        (∃ p, c = .transmissionCompletion p i ∧ s.inReset = false ∧ (s.port p).isSending = true ∧
          s.mgmt.service = .restarting ∧
          ((s.port p).queue.head?.map fun r => r.note) = some FrameNote.restartReply)))

/-- RESET_ENTRY undrives every output and every GA output, cuts off both transmitters, empties both queues, leaves the
store as it is, and from then on nothing on the receive lines or the local pins is taken, the end of the reset apart
(R157). That the level of a pin is recorded all the while, so that the hub starts with the level it stands at, is the model's
choice (log 15). -/
def Obligations.ResetEntryHoldsTheHub : Prop :=
  (∀ s : State, s.inReset = false → ∃ t, exec .resetEntry s = .next t ∧ t.inReset = true ∧
    (∀ o : Fin 12, t.outs[o].drive = false ∧ t.outs[o].duty = 0) ∧ (∀ g : Fin 4, t.gauges[g].out = false) ∧
    (∀ p : PortId, (t.port p).tx = .waiting ∧ (t.port p).queue = []) ∧ t.store = s.store ∧ committing t = false) ∧
  (∀ (c : Instr) (s : State), s.inReset = true → (∀ i, c ≠ .resetEnd i) → (∀ i l, c ≠ .localPinChange i l) →
    (∀ l, c ≠ .teachPinChange l) → exec c s = .next s) ∧
  (∀ (i : Fin 9) (l : Bool) (s : State), s.inReset = true →
    exec (.localPinChange i l) s = .next { s with inputs := s.inputs.set i { s.inputs[i] with pin := l } }) ∧
  (∀ (l : Bool) (s : State), s.inReset = true →
    exec (.teachPinChange l) s = .next { s with mgmt := { s.mgmt with pin := { s.mgmt.pin with pin := l } } })

/-- The hub as a supply reset leaves it, whatever it held before (R17, R18, R46, R54, R131, R158, R170,
R181, R185): what no condition or link of the reset can change. No flag is set but STORE, raised by a start with an invalid
marker, which takes capture slot 0, and UNDERVOLT and OVERVOLT, raised by the first Vs update; every report of the reset is
copied into the empty queues at once, the STATE report first. The straps and the supply are operands of the model's (log 16), and
the levels of the pins are those recorded during the reset (log 15). -/
def Obligations.SupplyResetStartsTheHub : Prop :=
  ∀ (i : StartInputs) (s : State),
    (∀ p : PortId, s.inReset = false → (s.port p).isSending = true → s.mgmt.service = .restarting →
      ((s.port p).queue.head?.map fun r => r.note) = some FrameNote.restartReply →
      exec (.transmissionCompletion p i) s = .next (supplyReset i s)) ∧
    (s.inReset = true → 5000 < i.supply → exec (.resetEnd i) s = .next (supplyReset i s)) ∧
    (let t := supplyReset i s
     t.inReset = false ∧ t.node = (if i.straps = 15 then 14 else i.straps) ∧ t.store = s.store ∧
     t.tables = (if s.store.valid then s.store.image else Tables.default) ∧
     t.slots = Vector.replicate 16 { value := noReading, state := .empty, age := none } ∧
     (∀ p : Fin 9, t.pods[p].bits = 0 ∧ t.pods[p].known = false ∧ t.pods[p].timer = none) ∧
     (∀ k : Fin 9, t.inputs[k] =
       { pin := s.inputs[k].pin, settled := none, hold := some t.tables.hub.debounce }) ∧
     t.supply.vs = min 20000 i.supply ∧ t.supply.shed = 0 ∧ t.supply.ign = false ∧ t.faults.uptime = 0 ∧
     (∀ g : Fin 4, t.gauges[g] = { state := .waiting, f := 0, p := 0, d := 0, acc := 0, underdrive := false, lastRaw := 4095,
                                   out := false }) ∧
     (∀ (c : FaultClass) (k : Nat), t.faults.isSet c k = true → k = 0 ∧ t.tables.hub.detects c = true ∧
       ((c = .store ∧ s.store.valid = false) ∨ (c = .undervolt ∧ t.supply.vs < t.tables.hub.uv) ∨
         (c = .overvolt ∧ t.tables.hub.ov < t.supply.vs))) ∧
     (∀ c : FaultClass, t.tables.hub.detects c = true →
       ((c = .undervolt ∧ t.supply.vs < t.tables.hub.uv) ∨ (c = .overvolt ∧ t.tables.hub.ov < t.supply.vs)) →
       t.faults.isSet c 0 = true) ∧
     t.reports = { list := [], held := false, overrun := false,
                   refresh := if t.tables.hub.refresh = 0 then none else some t.tables.hub.refresh } ∧
     (∀ p : PortId, (p = .fore ∧ t.tables.hub.reportPort = .aft) ∨ (p = .aft ∧ t.tables.hub.reportPort = .fore) →
       (t.port p).queue = []) ∧
     t.mgmt = { service := .idle, teach := .idle, window := none, lockout := none,
                pin := { pin := s.mgmt.pin.pin, settled := none, hold := some 20 } } ∧
     (∀ p : PortId, (t.port p).rx = .idle false ∧ (t.port p).tx = .waiting) ∧
     (s.store.valid = false → t.faults.isSet .store 0 = true ∧ t.faults.capture[0] = some
       { cls := .store, index := 0, value := 0, vs := min 20000 i.supply, uptime := 0 }) ∧
     (∀ p : PortId, (t.tables.hub.reportPort = .both ∨ (p = .fore ∧ t.tables.hub.reportPort = .fore) ∨
         (p = .aft ∧ t.tables.hub.reportPort = .aft)) → (t.port p).queue.head? = some
         { frame := { kind := .report, hops := t.tables.hub.originHops, source := t.node, target := 15, tag := 0,
                      cooked := false, lanes := [0, 0, 4095, 4095, 4095, 4095] }, note := .report }))

/-! What every step keeps. -/

/-- Every step keeps each egress queue at no more than 8 records with a frame being sent at its head (R13, R14), and leaves
nothing waiting for a port whose queue has a free place (R16). -/
def Obligations.QueuesAndCopiesStayInStep : Prop :=
  (KeptByEveryStep State.queuesBounded) ∧
  (KeptByEveryStep State.copiesMade)

/-- Every step keeps the limits of the pending report list (R168, R170, R174). -/
def Obligations.PendingListStaysBounded : Prop := KeptByEveryStep State.pendingBounded

/-- Every step keeps the legality of the working tables and of the stored image: curves in service, shed classes and
gauge scales (R37, R89, R130). -/
def Obligations.TablesStayLegal : Prop := KeptByEveryStep State.tablesLegal

/-- Every step keeps the bounds of F, P, D and the accumulator of every gauge channel, and D at 0 with IGN off (R131,
R132, R144). The bounds rest on the legality of the tables. -/
def Obligations.GaugesStayBounded : Prop := KeptByEveryStep fun s => s.tablesLegal ∧ s.gaugesBounded

/-- Every step keeps every flag of a class whose DETECT is off clear (R161). -/
def Obligations.UndetectedFlagsStayClear : Prop := KeptByEveryStep State.undetectedClear

/-- Every step keeps the protection of the outputs sound: no output is driven in TRIPPED or LOCKED, and counts and timers
agree with the state (R91, R96, R99, R101, R103, R108). -/
def Obligations.ProtectionStaysSound : Prop := KeptByEveryStep State.protectionSound

/-- Every step keeps the flasher settled on its go signals, with LEFT and RIGHT in IDLE under HAZARD and flash lengths of
at least 10 ms (R112 to R116, R119, R120). -/
def Obligations.FlasherStaysSettled : Prop := KeptByEveryStep State.flasherSound

/-- Every step keeps the store's marker invalid while a commit runs, and the teach state, its window and the commit's origin
in agreement (R182, R185, R187). -/
def Obligations.CommitAndTeachStayInStep : Prop := KeptByEveryStep fun s => s.commitSound = true

/-- The state right after reset satisfies every one of these, and it is what a supply reset makes of a hub that was held in
reset with an invalid marker, its straps at 0 and its supply at 12600 mV (the model's choice of reset, log 6). -/
def Obligations.ResetStateIsSound : Prop :=
  State.reset.queuesBounded ∧ State.reset.copiesMade ∧ State.reset.pendingBounded ∧ State.reset.tablesLegal ∧
  State.reset.gaugesBounded ∧ State.reset.undetectedClear ∧ State.reset.protectionSound ∧ State.reset.flasherSound ∧
  State.reset.commitSound = true ∧
  exec (.resetEnd { straps := 0, supply := 12600 }) (heldInReset State.reset) = .next State.reset

/-- While a commit runs, no command but a reset changes the working tables (R174, R182). Nor does one change the image being
stored: that the image is written whole at the commit's start is the model's choice (log 19). -/
def Obligations.TablesStandWhileCommitting : Prop :=
  ∀ (c : Instr) (s t : State), committing s = true → s.inReset = false → c ≠ .resetEntry → exec c s = .next t →
    t.tables = s.tables ∧ t.store.image = s.store.image

/-- A HELD capture record is not altered by any command but a supply reset and the release of its own slot, as a request row or
as the MGMT frame that carries one (R164, R166). -/
def Obligations.HeldRecordsStand : Prop :=
  ∀ (c : Instr) (s t : State) (slot : Fin 2) (r : CaptureRecord), s.faults.capture[slot] = some r →
    exec c s = .next t →
    (c = .resetEntry → s.inReset = true) →
    (∀ i, c = .resetEnd i → s.inReset = true → i.supply ≤ 5000) →
    (∀ p i, c = .transmissionCompletion p i → s.mgmt.service = .restarting →
      ((s.port p).queue.head?.map fun x => x.note) ≠ some FrameNote.restartReply) →
    (∀ q lanes, c = .releaseCapture q lanes → (lanes.head?.map fun l => l.toNat) ≠ some slot.val) →
    (∀ p f, c = .frameBoundary p → s.arriving p = some f → f.kind = .mgmt → f.target = s.node ∨ f.target = 15 →
      f.tag = 9 → ((f.lanes[1]?).map fun l => l.toNat) ≠ some slot.val) →
    t.faults.capture[slot] = some r

/-! The link ports. -/

/-- CHARACTER_START and CHARACTER_FAULT move a receiver as R2 and R3 lay down, byte 2 fixing the length by its lane
count (R4, R5). -/
def Obligations.CharactersMoveTheReceiver : Prop :=
  ∀ (s : State) (p : PortId) (b : Byte), s.inReset = false →
    let onTo := fun (rx : Receiver) => s.setPort p { s.port p with rx := rx }
    ((s.port p).rx = .idle true → exec (.characterStart p b) s = .next (onTo (.receiving [b])) ∧
      exec (.characterFault p) s = .next (onTo .discarding)) ∧
    ((s.port p).rx = .idle false → exec (.characterStart p b) s = .next s ∧
      exec (.characterFault p) s = .next s) ∧
    (∀ bytes, (s.port p).rx = .receiving bytes → exec (.characterFault p) s = .next (onTo .discarding) ∧
      (bytes.length < 2 → exec (.characterStart p b) s = .next (onTo (.receiving (bytes ++ [b])))) ∧
      (bytes.length = 2 → exec (.characterStart p b) s = .next (onTo
        (if lengthOfLanes (b.toNat % 8) = none then .discarding else .receiving (bytes ++ [b])))) ∧
      (∀ (b2 : Byte) (n : Nat), bytes[2]? = some b2 → lengthOfLanes (b2.toNat % 8) = some n →
        exec (.characterStart p b) s = .next (onTo
          (if bytes.length + 1 < n then .receiving (bytes ++ [b]) else .closing (bytes ++ [b]))))) ∧
    (∀ bytes, (s.port p).rx = .closing bytes → exec (.characterStart p b) s = .next (onTo .discarding) ∧
      exec (.characterFault p) s = .next (onTo .discarding)) ∧
    ((s.port p).rx = .discarding → exec (.characterStart p b) s = .next s ∧
      exec (.characterFault p) s = .next s)

/-- A frame that is sent is read back with every field as it was, for every frame the port passes on (R6, R7). -/
def Obligations.SentFramesAreReadBack : Prop :=
  ∀ f : Frame, f.source ≠ 15 → f.lanesLegal → parseFrame (encodeFrame f) = some f

/-- The bytes of a frame as sent: header, lanes bit by bit, pad and length (R4, R7), and at its end the check byte over all the
bytes before it (R8). Bytes are a frame exactly where their length is that of their lane count, the check byte is right, and the
kind, the source and the lane count are legal (R6, R9); its fields are read from their places, and what the pad and the two low
bits of byte 0 hold plays no part (R7). -/
def Obligations.FramesAreLaidOutInBytes : Prop :=
  (∀ f : Frame, ∃ c, (encodeFrame f).getLast? = some c ∧ c.toNat = checkByte (encodeFrame f).dropLast) ∧
  (∀ bytes : List Byte, (∃ f, parseFrame bytes = some f) ↔ ∃ b0 b1 b2 rest c, bytes = b0 :: b1 :: b2 :: rest ∧
    bytes.getLast? = some c ∧ c.toNat = checkByte bytes.dropLast ∧ lengthOfLanes (b2.toNat % 8) = some bytes.length ∧
    b1.toNat / 16 ≠ 15 ∧
    ((b0.toNat / 32 = 1 ∧ b2.toNat % 8 = 1) ∨ (b0.toNat / 32 = 2 ∧ 1 ≤ b2.toNat % 8 ∧ b2.toNat % 8 ≤ 4) ∨
      (b0.toNat / 32 = 3 ∧ b2.toNat % 8 = 1) ∨
      ((b0.toNat / 32 = 4 ∨ b0.toNat / 32 = 5) ∧ 1 ≤ b2.toNat % 8 ∧ b2.toNat % 8 ≤ 6))) ∧
  (∀ (bytes : List Byte) (f : Frame), parseFrame bytes = some f →
    f.source ≠ 15 ∧ f.lanesLegal ∧
    (∃ b0 b1 b2 rest, bytes = b0 :: b1 :: b2 :: rest ∧
      b0.toNat / 32 = (match f.kind with | .state => 1 | .sample => 2 | .order => 3 | .mgmt => 4 | .report => 5) ∧
      b0.toNat / 4 % 8 = f.hops.toNat ∧ b1.toNat = f.source.toNat * 16 + f.target.toNat ∧
      b2.toNat = f.tag.toNat * 16 + (if f.cooked then 8 else 0) + f.lanes.length) ∧
    ∀ (k i : Nat) (lane : Lane), f.lanes[k]? = some lane → i < 12 →
      ∃ b, bytes[3 + (12 * k + i) / 8]? = some b ∧ b.getLsbD (7 - (12 * k + i) % 8) = lane.getLsbD (11 - i)) ∧
  ∀ f : Frame, f.lanesLegal →
    lengthOfLanes f.lanes.length = some (encodeFrame f).length ∧
    (∃ b0 b1 b2 rest, encodeFrame f = b0 :: b1 :: b2 :: rest ∧
      b0.toNat = (match f.kind with | .state => 1 | .sample => 2 | .order => 3 | .mgmt => 4 | .report => 5) * 32
        + f.hops.toNat * 4 ∧
      b1.toNat = f.source.toNat * 16 + f.target.toNat ∧
      b2.toNat = f.tag.toNat * 16 + (if f.cooked then 8 else 0) + f.lanes.length) ∧
    (∀ (k i : Nat) (lane : Lane), f.lanes[k]? = some lane → i < 12 →
      ∃ b, (encodeFrame f)[3 + (12 * k + i) / 8]? = some b ∧
        b.getLsbD (7 - (12 * k + i) % 8) = lane.getLsbD (11 - i)) ∧
    (f.lanes.length % 2 = 1 → ∃ b, (encodeFrame f)[3 + 12 * f.lanes.length / 8]? = some b ∧ b.toNat % 16 = 0)

/-- TRANSMIT_START starts to send the head frame, its bytes made from the record, and starts nothing where the transmitter is
sending or its queue is empty. TRANSMISSION_COMPLETION takes the head away and gives the freed place of a full queue to the
oldest report pending for the port, a STATE report with its lanes as they stand at this copy; where a STATE report leaves the
list with a need held, a new one joins at once and the hold is cleared (R14, R16, R168, R169, R170). MGMT-OVERRUN clears before
that (the model's reading, log 21). Of the
RESTART reply it makes the supply reset instead (R184): see `SupplyResetStartsTheHub`. -/
def Obligations.FramesAreSentFromTheHead : Prop :=
  (∀ (s : State) (p : PortId), s.inReset = false →
     (∀ r rest, (s.port p).tx = .waiting → (s.port p).queue = r :: rest → exec (.transmitStart p) s =
       .next (s.setPort p { s.port p with tx := .sending (encodeFrame r.frame) })) ∧
     ((s.port p).isSending = true ∨ (s.port p).queue = [] → exec (.transmitStart p) s = .next s)) ∧
  (∀ (s : State) (p : PortId) (i : StartInputs), s.inReset = false → s.copiesMade → completesRestart p s = false →
     ((s.port p).isSending = false → exec (.transmissionCompletion p i) s = .next s) ∧
     ((s.port p).isSending = true →
       ((∀ r ∈ s.reports.list, r.wants p = false) → exec (.transmissionCompletion p i) s =
         .next (s.setPort p { s.port p with tx := .waiting, queue := (s.port p).queue.tail })) ∧
       (∀ a x b, s.reports.list = a ++ x :: b → (∀ r ∈ a, r.wants p = false) → (s.port p).queue.length = 8 →
         x.wants p = true →
         (x.body.isState = true → x.wants p.opposite = false → s.reports.held = false) →
         exec (.transmissionCompletion p i) s = .next
           { s.setPort p { s.port p with
               tx := .waiting, queue := (s.port p).queue.tail ++ [reportRecord s x.body] } with
             reports := { s.reports with
               list := a ++ (if x.wants p.opposite then [x.copied p s.reports.overrun] else []) ++ b
               overrun := s.reports.overrun &&
                 (x.wants p.opposite || !(decide (∃ copied, x.body = .state copied true))) } }) ∧
       (∀ a x b copied all, s.reports.list = a ++ x :: b → (∀ r ∈ a, r.wants p = false) → (s.port p).queue.length = 8 →
         x.wants p = true → x.body = .state copied all → x.wants p.opposite = false → s.reports.held = true →
         let goes : PortId → Bool := fun
           | .fore => decide (s.tables.hub.reportPort ≠ .aft)
           | .aft => decide (s.tables.hub.reportPort ≠ .fore)
         let v := { s.setPort p { s.port p with
             tx := .waiting, queue := (s.port p).queue.tail ++ [reportRecord s x.body] } with
           reports :=
             { list := a ++ b, held := false, overrun := s.reports.overrun && !all
               refresh := if s.tables.hub.refresh = 0 then none else some s.tables.hub.refresh } }
         exec (.transmissionCompletion p i) s = .next
           (if 8 ≤ (s.port p.opposite).queue.length ∨ goes p.opposite = false then
             { v with reports := { v.reports with
                 list := a ++ b ++ [{ body := .state false true, toFore := goes .fore, toAft := goes .aft }] } }
           else
             let w := v.setPort p.opposite { v.port p.opposite with
               queue := (v.port p.opposite).queue ++ [reportRecord v (.state false true)] }
             if goes p then
               { w with reports := { w.reports with
                   list := a ++ b ++ [{ body := .state true v.reports.overrun, toFore := decide (p = .fore)
                                        toAft := decide (p = .aft) }] } }
             else { w with reports := { w.reports with overrun := false } }))))

/-- A bad frame is discarded whole: a LINK report apart, no block hears of it; where the report raises the flag, the links on
FAULT may act (R9, R10). Where no link names the class, the raise sets the flag and makes its capture attempt: the first FREE
slot takes the record and its FAULT report is sent, and with both HELD LOST is set (R160, R165, R168, R171). A boundary with no
frame in progress lets the next character start a frame (R3). -/
def Obligations.BadFramesReachNoBlock : Prop :=
  ∀ (s : State) (p : PortId), s.inReset = false →
    (∀ q, (s.port p).rx = .idle q →
      exec (.frameBoundary p) s = .next (s.setPort p { s.port p with rx := .idle true })) ∧
    (s.badFrame p = true →
      let u := s.setPort p { s.port p with rx := .idle true, verdictGood := false }
      ((s.faults.isSet .link (portIndex p) = true ∨ s.tables.hub.detects .link = false) →
        exec (.frameBoundary p) s = .next u) ∧
      (s.faults.isSet .link (portIndex p) = false → s.tables.hub.detects .link = true →
        ∃ t, exec (.frameBoundary p) s = .next t ∧ t.faults.isSet .link (portIndex p) = true ∧
          t.bystanders = u.bystanders ∧ t.conds = s.conds ∧ t.gauges = s.gauges ∧
          (wakesMatrix s (.fault .link) = false → t.outs = s.outs ∧ t.flash = s.flash)) ∧
      (s.faults.isSet .link (portIndex p) = false → s.tables.hub.detects .link = true →
        wakesMatrix s (.fault .link) = false → s.copiesMade →
        exec (.frameBoundary p) s = .next (raisedAlone s u .link (portIndex p) 0 id)))

/-- A frame that no entry matches is passed on unchanged, with one hop less, and feeds no block; with hops 0 it ends
here; a full queue discards it with EGRESS reported, and where that is a raise no link names, its capture attempt and FAULT report
are made (R10, R11, R15, R23, R28, R160, R165, R168, R171). -/
def Obligations.UnmatchedFramesPassOn : Prop :=
  ∀ (s : State) (p : PortId) (f : Frame), s.inReset = false → s.arriving p = some f → ¬ forThisHub s f →
    (∀ i : Fin 32, ¬ keyedOn s.tables.matches_[i] p f) →
    let u := goodVerdict p s
    (f.hops = 0 → exec (.frameBoundary p) s = .next u) ∧
    (f.hops ≠ 0 → (s.port p.opposite).queue.length < 8 →
      exec (.frameBoundary p) s = .next (relayTaken p.opposite f u)) ∧
    (f.hops ≠ 0 → (s.port p.opposite).queue.length = 8 →
      let v := u.setPort p.opposite { u.port p.opposite with offerTaken := false }
      ((s.faults.isSet .egress (portIndex p.opposite) = true ∨ s.tables.hub.detects .egress = false) →
        exec (.frameBoundary p) s = .next v) ∧
      (∃ t, exec (.frameBoundary p) s = .next t ∧ t.bystanders = v.bystanders ∧
        (t.port p.opposite).queue = (s.port p.opposite).queue ∧
        (t.faults.isSet .egress (portIndex p.opposite) =
          (s.faults.isSet .egress (portIndex p.opposite) || s.tables.hub.detects .egress))) ∧
      (s.faults.isSet .egress (portIndex p.opposite) = false → s.tables.hub.detects .egress = true →
        wakesMatrix s (.fault .egress) = false → s.copiesMade →
        exec (.frameBoundary p) s = .next (raisedAlone s v .egress (portIndex p.opposite) 0 id)))

/-- The lowest matching entry decides what leaves: PASS and a COOK that cannot cook as it arrived, a COOK with its lanes
rewritten and marked, DROP not at all (R22, R24 to R28). The entry here feeds no block, by NONE or by a feed that does not fit the
frame's kind (R29, R33). An offer to a full queue is discarded with EGRESS reported, and where that is a raise no link names, its
capture attempt and FAULT report are made (R15, R165, R168). The verdict that comes first makes the receiver wait, counts as good
and clears an unlatched LINK flag (R10). -/
def Obligations.DispositionsDecideTheRelay : Prop :=
  ∀ (s : State) (p : PortId) (f : Frame) (e : MatchEntry), s.inReset = false → s.arriving p = some f →
    decidedBy s p f e → feedFits e.feed f.kind = false →
    let u := goodVerdict p s
    u = verdictPassed p s ∧
    (e.disposition = .drop ∨ f.hops = 0 → exec (.frameBoundary p) s = .next u) ∧
    (e.disposition ≠ .drop → f.hops ≠ 0 → (s.port p.opposite).queue.length < 8 →
      exec (.frameBoundary p) s = .next (relayTaken p.opposite (leavesAs s.tables e f) u)) ∧
    (e.disposition ≠ .drop → f.hops ≠ 0 → 8 ≤ (s.port p.opposite).queue.length →
      let v := u.setPort p.opposite { u.port p.opposite with offerTaken := false }
      ((s.faults.isSet .egress (portIndex p.opposite) = true ∨ s.tables.hub.detects .egress = false) →
        exec (.frameBoundary p) s = .next v) ∧
      (s.faults.isSet .egress (portIndex p.opposite) = false → s.tables.hub.detects .egress = true →
        wakesMatrix s (.fault .egress) = false → s.copiesMade →
        exec (.frameBoundary p) s = .next (raisedAlone s v .egress (portIndex p.opposite) 0 id)))

/-- A STATE frame through a POD feed gives the pod its bits, makes it known, restarts its timer and clears an unlatched POD
flag, and the demands of switched outputs, fans and flash sources follow the edges where no links of an EGRESS raise act beside them (that the update is
marked as seen: log 11). The relay offer of
its entry is made all the same (R15, R20, R28, R30, R56, R75 to R82): it takes its place in the queue before any report of the event
(the model's reading, log 8), or is discarded for a full queue, with EGRESS reported and its capture attempt made (R160, R165). -/
def Obligations.StateFramesUpdateThePod : Prop :=
  ∀ (s : State) (p : PortId) (f : Frame) (e : MatchEntry) (pod : Fin 8) (bits : Lane), s.inReset = false →
    s.arriving p = some f → decidedBy s p f e → e.feed = .pod pod → f.kind = .state → f.lanes = [bits] →
    let offered := decide (e.disposition ≠ .drop ∧ f.hops ≠ 0)
    ∃ t, exec (.frameBoundary p) s = .next t ∧
      t.pods = s.pods.set pod.val
        { bits := bits, known := true, seen := true
          timer := if s.tables.podTimeouts[pod] = 0 then none else some (s.tables.podTimeouts[pod] * 100) } ∧
      t.faults.isSet .pod pod.val = (s.faults.isSet .pod pod.val && s.tables.hub.latches .pod) ∧
      t.tables = s.tables ∧ t.slots = s.slots ∧ t.inputs = s.inputs ∧ t.conds = s.conds ∧ t.gauges = s.gauges ∧
      t.supply = s.supply ∧ t.mgmt = s.mgmt ∧ t.store = s.store ∧
      (∃ reports, (∀ r ∈ reports, r.note ≠ .relay) ∧ (t.port p.opposite).queue = (s.port p.opposite).queue ++
        (if offered = true ∧ offerHasRoom s p then
          { frame := { f with hops := f.hops - 1 }, note := .relay } :: reports else reports)) ∧
      offerShows s t p offered ∧ (t.faults.capture, t.faults.lost) = offerCaptures s p offered ∧
      (offerQuiet s p offered →
        let old := s.pods[linkPod pod]
        let rise := if old.known then bits &&& ~~~old.bits else bits
        let fall := if old.known then old.bits &&& ~~~bits else 0
        demandsFollow s t (.switch (linkPod pod) rise fall))

/-- A SAMPLE frame through the SLOTS feed updates the LINK slots bound to its source, tag and lanes, RAW ones with the
lanes as they arrived and COOKED ones with the lanes as they leave; every channel sourced from one runs its pipeline and reports
or clears SENDER with it. Every valid condition on one of them, in either operand, and on the gauge of a channel that runs is
evaluated (R49, R68, R145), and the edges act where no run is made, or one run whose gauge alone is read (R69). The relay offer of
its entry is made all the same, with the lanes as they leave (R15, R20, R28, R31, R47,
R53, R133, R143): it takes its place
in the queue before any report of the event (the model's reading, log 8), or is discarded for a full queue, with EGRESS
reported. -/
def Obligations.SampleFramesUpdateTheSlots : Prop :=
  ∀ (s : State) (p : PortId) (f : Frame) (e : MatchEntry), s.inReset = false → s.arriving p = some f →
    decidedBy s p f e → e.feed = .slots → f.kind = .sample →
    let offered := decide (e.disposition ≠ .drop ∧ f.hops ≠ 0)
    let taken := fun (k : Fin 16) => (laneTaken s.tables.slots[k] f (leavesAs s.tables e f)).isSome
    ∃ t, exec (.frameBoundary p) s = .next t ∧
      (∀ k : Fin 16, t.slots[k] =
        slotTaking s.tables.slots[k] (laneTaken s.tables.slots[k] f (leavesAs s.tables e f)) s.slots[k]) ∧
      gaugesFollow s t taken ∧ conditionsFollow s t taken ∧ sendersFollow s t taken ∧
      (offerQuiet s p offered → slotEdgesMove s t taken) ∧
      (∃ reports, (∀ r ∈ reports, r.note ≠ .relay) ∧ (t.port p.opposite).queue = (s.port p.opposite).queue ++
        (if offered = true ∧ offerHasRoom s p then
          { frame := { leavesAs s.tables e f with hops := f.hops - 1 }, note := .relay } :: reports else reports)) ∧
      offerShows s t p offered ∧
      ((∀ g : Fin 4, runsIn s taken g = false) → (t.faults.capture, t.faults.lost) = offerCaptures s p offered) ∧
      t.tables = s.tables ∧ t.pods = s.pods ∧ t.inputs = s.inputs ∧ t.supply = s.supply ∧ t.mgmt = s.mgmt ∧
      t.store = s.store

/-- An ORDER that an OBEY entry catches for this hub is consumed and acts on its target alone, by its verb: ON, OFF, TOGGLE
or LEVEL as lane 0 codes it, where the target allows orders; otherwise it is ignored. One for all nodes is obeyed in the same way
and relayed by the entry's disposition, the relay taking its place in the queue before any report of the event (the model's
reading, log 8); one for another node is relayed by it and obeyed by nothing here (R11, R32, R84 to R86). A relay offer that finds
the queue full is discarded with EGRESS reported, and the ORDER is obeyed all the same (R15, R20). A verb on an
output gives it its drive, and a demand-off releases its protection (R96 to R99, R104, R105). That the drives are computed once,
at the end of the ORDER, that a window opens at once for a mask and a ramp of 0, and that a fan's effective level follows a change
of its level alone, are the model's readings (logs 14, 24 and 18). -/
def Obligations.OrdersActOnTheirTarget : Prop :=
  ∀ (s : State) (p : PortId) (f : Frame) (e : MatchEntry) (lane : Lane), s.inReset = false →
    s.arriving p = some f → decidedBy s p f e → e.feed = .obey → f.kind = .order → f.lanes = [lane] →
    let verb : Option Resolved := match lane.toNat / 256 with
      | 1 => some .on
      | 2 => some .off
      | 3 => some .toggle
      | 4 => if lane.toNat % 256 ≤ 4 then some (.level (lane.toNat % 256)) else none
      | _ => none
    let offered := decide (f.target ≠ s.node ∧ e.disposition ≠ .drop ∧ f.hops ≠ 0)
    let u := if offered then offerMade p f (goodVerdict p s) else goodVerdict p s
    let w := if offerRaises s p offered then raisedAlone s u .egress (portIndex p.opposite) 0 id else u
    let alone := offerRaises s p offered = true → wakesMatrix s (.fault .egress) = false ∧ s.copiesMade
    let ignored := f.tag = 15 ∨ verb = none ∨
      (∃ o : Fin 12, f.tag.toNat = o.val ∧ s.tables.loads[o].ordersAllowed = false) ∨
      (12 ≤ f.tag.toNat ∧ s.tables.hub.ordersToFlasher = false)
    (alone → f.target ≠ s.node → f.target ≠ 15 → exec (.frameBoundary p) s = .next w) ∧
    (f.target = s.node → ignored → exec (.frameBoundary p) s = .next u) ∧
    (f.target = s.node ∨ f.target = 15 →
      ∃ t, exec (.frameBoundary p) s = .next t ∧ t.lessReports.lessLoads = u.lessReports.lessLoads ∧
        (∃ reports, (∀ r ∈ reports, r.note ≠ .relay) ∧
          (t.port p.opposite).queue = (u.port p.opposite).queue ++ reports) ∧
        offerShows s t p offered ∧ (t.faults.capture, t.faults.lost) = offerCaptures s p offered ∧
        (alone → ignored → { t with choices := w.choices } = w) ∧
        (offerQuiet s p offered → ¬ ignored →
          ∀ o : Fin 12, outputFollows s t (fun target => if target.val = f.tag.toNat then verb else none) o) ∧
        (offerQuiet s p offered → ∀ o : Fin 12, f.tag.toNat = o.val → s.tables.loads[o].ordersAllowed = true → verb ≠ none →
          t.flash = s.flash ∧
          (∀ q : Fin 12, q ≠ o → t.outs[q].demand = s.outs[q].demand ∧ t.outs[q].fanLevel = s.outs[q].fanLevel) ∧
          (s.tables.loads[o].kind.switched = true → t.outs[o].demand = demandByVerb s.outs[o].demand verb) ∧
          (s.tables.loads[o].kind = .fan → (t.outs[o].fanLevel, t.outs[o].fanMemory) =
            fanByVerb s.outs[o].fanLevel s.outs[o].fanMemory verb)) ∧
        (offerQuiet s p offered → ∀ i : SourceId, f.tag = (match i with | .left => 12 | .right => 13 | .hazard => 14) →
          s.tables.hub.ordersToFlasher = true → verb ≠ none →
          (∀ j : SourceId, (t.flash.source j).demand =
            if j = i then demandByVerb (s.flash.source i).demand verb else (s.flash.source j).demand) ∧
          sourcesSettled t ∧
          (∀ q : Fin 12, t.outs[q].demand = s.outs[q].demand ∧ t.outs[q].fanLevel = s.outs[q].fanLevel)))

/-- A MGMT frame addressed to this hub is consumed and does what the row of its request code does; a code from 11 up is
answered BADREQ. One for all nodes is served in the same way and forwarded unchanged with one hop less, unless it arrived with
hops 0, whatever an entry would make of it. The frame's port, source and lane 0 make the requester (R11, R21, R173, R174). That
the verdict clears an unlatched LINK flag before the request is served, and that the forwarded frame takes its place before the
reply, is the model's reading (logs 22 and 8). Where the opposite queue is full the forwarded frame is discarded with EGRESS
reported, and the request is served all the same (R15, R20): what the row changes is changed, and a row
that reads and writes nothing of the fault unit is answered beside the raise, its reply before the FAULT report (R165, R168).
A request that reads or clears the EGRESS flag, or changes its class's masks, meets the offer in an open order (log 3), and is stated
only where the order plays no part. -/
def Obligations.MgmtFramesAreTheRequestRows : Prop :=
  ∀ (s : State) (p : PortId) (f : Frame), s.inReset = false → s.arriving p = some f → f.kind = .mgmt →
    let r : Requester := { port := p, source := f.source, ticket := f.lanes.getD 0 0 }
    let u := goodVerdict p s
    let v := { offerMade p f u with choices := s.choices + 2 }
    let flag := s.faults.isSet .egress (portIndex p.opposite)
    let readsFlags := f.tag = 6 ∧ f.lanes[1]? = some 5
    (f.target = s.node ∨ (f.target = 15 ∧ f.hops = 0) →
      (∀ c, rowOfCode f.tag.toNat r f.lanes.tail = some c → exec (.frameBoundary p) s = exec c u) ∧
      (11 ≤ f.tag.toNat → s.takesRequests → exec (.frameBoundary p) s = .next (answered u r f.tag.toNat 1 []))) ∧
    (f.target ≠ s.node → f.target = 15 → f.hops ≠ 0 → offerRaises s p true = false →
      (flag = true → offerHasRoom s p → ¬ readsFlags ∧ writesHub f 22 = false) →
      (f.tag = 7 → (flag = false ∧ offerHasRoom s p) ∨ (s.port p.opposite).offerTaken = decide (offerHasRoom s p)) →
      (s.tables.hub.detects .egress = false → offerHasRoom s p ∨ writesHub f 21 = false) →
      (∀ c, rowOfCode f.tag.toNat r f.lanes.tail = some c → exec (.frameBoundary p) s = exec c v) ∧
      (11 ≤ f.tag.toNat → s.takesRequests → exec (.frameBoundary p) s = .next (answered v r f.tag.toNat 1 []))) ∧
    (f.target ≠ s.node → f.target = 15 → f.hops ≠ 0 → offerRaises s p true = true →
      (∀ c w, rowOfCode f.tag.toNat r f.lanes.tail = some c → exec c v = .next w →
        (∃ t, exec (.frameBoundary p) s = .next t ∧ t.bystanders = w.bystanders ∧ (t.port p.opposite).offerTaken = false ∧
          (writesHub f 21 = false → t.faults.isSet .egress (portIndex p.opposite) = true)) ∧
        (let x := { w with fore := v.fore, aft := v.aft, reports := { w.reports with list := v.reports.list } }
         s.takesRequests → wakesMatrix s (.fault .egress) = false → x.faults = v.faults → x.tables.hub.detects .egress = true →
         lanesChanged v x = false → ¬ readsFlags → f.tag ≠ 7 → f.tag ≠ 8 → f.tag ≠ 9 →
         ∀ (restart : Bool) (status : Nat) (data : List Lane), w = answeredWith false restart x r f.tag.toNat status data →
           exec (.frameBoundary p) s = .next (raisedAlone s x .egress (portIndex p.opposite) 0
             fun y => answeredWith false restart y r f.tag.toNat status data))) ∧
      (11 ≤ f.tag.toNat → s.takesRequests → wakesMatrix s (.fault .egress) = false →
        exec (.frameBoundary p) s = .next (raisedAlone s v .egress (portIndex p.opposite) 0
          fun y => answered y r f.tag.toNat 1 [])))

/-! Curves and sample slots. -/

/-- A curve in service converts a reading by its points: NO-READING stays, both ends are clamped, and within a segment the
quotient is rounded to the nearest integer, halves away from zero, so that the output lies between the ends of the segment
(R37 to R39). -/
def Obligations.CurvesInterpolate : Prop :=
  ∀ (c : Curve) (r : Lane), c.state = .inService → c.legal = true →
    (r = 4095 → c.output r = 4095) ∧
    (r ≠ 4095 →
      (c.output r).toNat ≤ 1000 ∧
      (r.toNat ≤ c.points[0].x → (c.output r).toNat = c.points[0].y) ∧
      (∀ a, c.points[c.count - 1]? = some a → a.x ≤ r.toNat → (c.output r).toNat = a.y) ∧
      (∀ i a b, i + 1 < c.count → c.points[i]? = some a → c.points[i + 1]? = some b → a.x ≤ r.toNat → r.toNat < b.x →
        (∃ n : Int, nearestAway (((b.y : Int) - a.y) * ((r.toNat : Int) - a.x)) (b.x - a.x) n ∧
          ((c.output r).toNat : Int) = a.y + n) ∧
        min a.y b.y ≤ (c.output r).toNat ∧ (c.output r).toNat ≤ max a.y b.y))

/-- OPEN_CURVE puts a curve into EDIT, points and count as they were, and ends a teach sequence that waits on a gauge reading
it (R40). CLOSE_CURVE validates a curve in EDIT: a count below 2 or the first offending point is answered BADCURVE with its
index, and a curve without one goes in service; a curve in service is answered NOTEDIT (R42, R180). -/
def Obligations.CurvesOpenAndClose : Prop :=
  (∀ (s : State) (r : Requester) (lane : Lane) (more : List Lane), s.takesRequests → committing s = false →
     exec (.openCurve r []) s = .next (answered s r 3 1 []) ∧
     (8 ≤ lane.toNat → exec (.openCurve r (lane :: more)) s = .next (answered s r 3 3 [])) ∧
     (∀ c : Fin 8, lane.toNat = c.val →
       let w := if ∃ g, s.tables.hub.teachGauge = some g ∧ s.tables.gauges[g].curve = some c then teachEnded s else s
       let u := { w with tables := { s.tables with
         curves := s.tables.curves.set c { s.tables.curves[c] with state := .edit } } }
       exec (.openCurve r (lane :: more)) s = .next (answered (afterNeed s u) r 3 0 []))) ∧
  (∀ (s : State) (r : Requester) (lane : Lane) (more : List Lane), s.takesRequests → committing s = false →
     exec (.closeCurve r []) s = .next (answered s r 4 1 []) ∧
     (8 ≤ lane.toNat → exec (.closeCurve r (lane :: more)) s = .next (answered s r 4 3 [])) ∧
     (∀ c : Fin 8, lane.toNat = c.val →
       let k := s.tables.curves[c]
       (k.state = .inService → exec (.closeCurve r (lane :: more)) s = .next (answered s r 4 7 [])) ∧
       (k.state = .edit → k.count ≤ 9 →
         (k.count < 2 →
           exec (.closeCurve r (lane :: more)) s = .next (answered s r 4 8 [BitVec.ofNat 12 k.count])) ∧
         (∀ i, 2 ≤ k.count → i < k.count → k.offends i → (∀ j, j < i → ¬ k.offends j) →
           exec (.closeCurve r (lane :: more)) s = .next (answered s r 4 8 [BitVec.ofNat 12 i])) ∧
         (2 ≤ k.count → (∀ i, i < k.count → ¬ k.offends i) →
           exec (.closeCurve r (lane :: more)) s = .next (answered
             { s with tables := { s.tables with curves := s.tables.curves.set c { k with state := .inService } } }
             r 4 0 [])))))

/-- CURVE_POINT_WRITE changes the count or one coordinate of a curve in EDIT, within its range, and nothing of a curve in
service; the state field is refused in either (R36, R41). -/
def Obligations.CurvePointsAreWrittenInEdit : Prop :=
  ∀ (s : State) (r : Requester) (curve : BitVec 8) (field : Lane) (v : BitVec 24), s.takesRequests →
    committing s = false →
    let cmd := Instr.curvePointWrite r curve field v
    (8 ≤ curve.toNat → exec cmd s = .next (answered s r 2 3 [])) ∧
    (∀ c : Fin 8, curve.toNat = c.val →
      let k := s.tables.curves[c]
      let ok := fun (x : Curve) =>
        answered { s with tables := { s.tables with curves := s.tables.curves.set c x } } r 2 0 []
      (19 ≤ field.toNat → exec cmd s = .next (answered s r 2 4 [])) ∧
      (field.toNat < 19 → k.state = .inService → exec cmd s = .next (answered s r 2 7 [])) ∧
      (k.state = .edit →
        (field = 0 → exec cmd s = .next
          (if v.toNat ≤ 9 then ok { k with count := v.toNat } else answered s r 2 5 [])) ∧
        (∀ i : Fin 9, field.toNat = 2 * i.val + 1 → exec cmd s = .next
          (if v.toNat ≤ 4094 then ok { k with points := k.points.set i { k.points[i] with x := v.toNat } }
            else answered s r 2 5 [])) ∧
        (∀ i : Fin 9, field.toNat = 2 * i.val + 2 → exec cmd s = .next
          (if v.toNat ≤ 4095 then ok { k with points := k.points.set i { k.points[i] with y := v.toNat } }
            else answered s r 2 5 []))))

/-- LOCAL_SAMPLE updates every LOCAL slot with the sample of its input, 4095 taken as 4094, and hands it on (R47, R49, R50,
R133); that AN0 to AN3 are one event is the model's choice (log 10). SLOT_AGE_EXPIRY makes a FRESH slot STALE with NO-READING
and its timer stopped, and hands that on; a slot whose timer is stopped cannot expire (R48, R49). That slots whose timers end
together expire one after the other, each in an event of its own, is the model's choice (log 35). Every valid condition on such a
slot, in either operand, and on the gauge of a channel that runs is evaluated (R49, R68, R145), and the edges act where no
channel runs, or one whose gauge alone is read (R69). A run that loses its reading
reports SENDER, with the last raw reading in its capture attempt, and one that leaves FAULT clears an unlatched flag (R143,
R165). -/
def Obligations.SlotsTakeSamplesAndAge : Prop :=
  (∀ (s : State) (an0 an1 an2 an3 : Lane), s.inReset = false →
     let sample := fun (i : Fin 4) =>
       let v := #v[an0, an1, an2, an3][i]
       if v = 4095 then (4094 : Lane) else v
     let taken := fun (k : Fin 16) =>
       if s.tables.slots[k].binding = .loc then some (sample s.tables.slots[k].input) else none
     ∃ t, exec (.localSample an0 an1 an2 an3) s = .next t ∧
       (∀ k : Fin 16, t.slots[k] = slotTaking s.tables.slots[k] (taken k) s.slots[k]) ∧
       gaugesFollow s t (fun k => (taken k).isSome) ∧ conditionsFollow s t (fun k => (taken k).isSome) ∧
       sendersFollow s t (fun k => (taken k).isSome) ∧ slotEdgesMove s t (fun k => (taken k).isSome) ∧
       t.bystanders = { s with slots := t.slots }.bystanders) ∧
  (∀ (s : State) (k : Fin 16), s.inReset = false →
     (s.slots[k].state ≠ .fresh ∨ s.slots[k].age = none → exec (.slotAgeExpiry k) s = .next s) ∧
     (s.slots[k].state = .fresh → s.slots[k].age ≠ none → ∃ t, exec (.slotAgeExpiry k) s = .next t ∧
       t.slots = s.slots.set k { value := 4095, state := .stale, age := none } ∧
       gaugesFollow s t (fun j => decide (j = k)) ∧ conditionsFollow s t (fun j => decide (j = k)) ∧
       sendersFollow s t (fun j => decide (j = k)) ∧ slotEdgesMove s t (fun j => decide (j = k)) ∧
       (∀ g : Fin 4, s.tables.gauges[g].source = some k → (∀ h : Fin 4, h ≠ g → s.tables.gauges[h].source ≠ some k) →
         t.gauges[g].state = .fault →
         (t.faults.capture, t.faults.lost) = captured s .sender g.val t.gauges[g].lastRaw.toNat) ∧
       t.bystanders = { s with slots := t.slots }.bystanders))

/-- SLOT_CONFIG_WRITE changes one field and empties the slot, which is handed on as an expiry; a refused one changes
nothing. The values a field takes are those of its range (R45, R51, R143, R178). Channels sourced from the slot run (R133), every
valid condition on it, in either operand, and on the gauge of a channel that runs is evaluated (R49, R68, R145), and the edges act
where no channel runs, or one whose gauge alone is read (R69). Where nothing reads the slot, the write and the reply are all. -/
def Obligations.SlotWritesEmptyTheSlot : Prop :=
  ∀ (s : State) (r : Requester) (slot : BitVec 8) (field : Lane) (v : BitVec 24), s.takesRequests →
    committing s = false →
    let cmd := Instr.slotConfigWrite r slot field v
    (16 ≤ slot.toNat → exec cmd s = .next (answered s r 2 3 [])) ∧
    (∀ k : Fin 16, slot.toNat = k.val →
      (8 ≤ field.toNat → exec cmd s = .next (answered s r 2 4 [])) ∧
      (field.toNat < 8 →
        ((s.tables.slots[k].writeField field.toNat v.toNat).isSome = true ↔ inRange 2 field.toNat v.toNat = true)) ∧
      (field.toNat < 8 → s.tables.slots[k].writeField field.toNat v.toNat = none →
        exec cmd s = .next (answered s r 2 5 [])) ∧
      (∀ c, s.tables.slots[k].writeField field.toNat v.toNat = some c →
        onlyField (slotNumbers s.tables.slots[k]) (slotNumbers c) field.toNat v.toNat ∧
        let u := { s with
          tables := { s.tables with slots := s.tables.slots.set k c }
          slots := s.slots.set k { value := 4095, state := .empty, age := none } }
        (∃ t, exec cmd s = .next t ∧ t.slots = u.slots ∧ gaugesFollow s t (fun j => decide (j = k)) ∧
          conditionsFollow s t (fun j => decide (j = k)) ∧ sendersFollow s t (fun j => decide (j = k)) ∧
          slotEdgesMove s t (fun j => decide (j = k)) ∧
          t.bystanders = u.bystanders) ∧
        (condsConcerned s (affectsSlots fun j => decide (j = k)) = false →
          (∀ g : Fin 4, s.tables.gauges[g].source ≠ some k) → exec cmd s = .next (answered u r 2 0 []))))

/-! Switch image and conditions. -/

/-- POD_TIMEOUT_EXPIRY makes a known pod unknown with all bits 0 and reports POD; its set bits fall as one event, which
switched outputs, fans and flash sources follow where no link of a raise acts beside it (R79 to R82). A raise makes a capture attempt and waits for the pod's next update
(R57, R58, R165), which the mark `seen` keeps (the model's reading, log 11). -/
def Obligations.SilentPodsTimeOut : Prop :=
  ∀ (s : State) (p : Fin 8), s.inReset = false →
    let old := s.pods[linkPod p]
    (old.known = false ∨ old.timer = none → exec (.podTimeoutExpiry p) s = .next s) ∧
    (old.known = true → old.timer ≠ none → ∃ t, exec (.podTimeoutExpiry p) s = .next t ∧
      t.pods[linkPod p].bits = 0 ∧ t.pods[linkPod p].known = false ∧ t.pods[linkPod p].timer = none ∧
      (∀ q : Fin 9, q ≠ linkPod p → t.pods[q] = s.pods[q]) ∧
      t.faults.isSet .pod p.val = (s.faults.isSet .pod p.val || s.tables.hub.detects .pod) ∧
      (t.faults.capture, t.faults.lost) = captured s .pod p.val 0 ∧
      t.pods[linkPod p].seen = (old.seen && (s.faults.isSet .pod p.val || !s.tables.hub.detects .pod)) ∧
      t.conds = s.conds ∧ t.gauges = s.gauges ∧ t.bystanders = { s with pods := t.pods }.bystanders ∧
      (s.faults.isSet .pod p.val = true ∨ s.tables.hub.detects .pod = false ∨ wakesMatrix s (.fault .pod) = false →
        demandsFollow s t (.switch (linkPod p) 0 old.bits)))

/-- POD_TIMEOUT_WRITE sets the timeout and, for a known pod, restarts its timer with it, or stops it for 0; CONDITION_WRITE
sets one field, the truth to false and the mark clear, without an edge. The values a field takes are those of its range (R55,
R63, R70, R178). -/
def Obligations.PodAndConditionWrites : Prop :=
  ∀ (s : State) (r : Requester) (entry : BitVec 8) (field : Lane) (v : BitVec 24), s.takesRequests →
    committing s = false →
    (8 ≤ entry.toNat → exec (.podTimeoutWrite r entry v) s = .next (answered s r 2 3 [])) ∧
    (∀ p : Fin 8, entry.toNat = p.val →
      (256 ≤ v.toNat → exec (.podTimeoutWrite r entry v) s = .next (answered s r 2 5 [])) ∧
      (v.toNat < 256 → exec (.podTimeoutWrite r entry v) s = .next (answered
        { s with
          tables := { s.tables with podTimeouts := s.tables.podTimeouts.set p v.toNat }
          pods := if s.pods[linkPod p].known then
              s.pods.set (linkPod p) { s.pods[linkPod p] with
                timer := if v = 0 then none else some (v.toNat * 100) }
            else s.pods } r 2 0 []))) ∧
    (16 ≤ entry.toNat → exec (.conditionWrite r entry field v) s = .next (answered s r 2 3 [])) ∧
    (∀ c : Fin 16, entry.toNat = c.val →
      (7 ≤ field.toNat → exec (.conditionWrite r entry field v) s = .next (answered s r 2 4 [])) ∧
      (field.toNat < 7 →
        ((s.tables.conds[c].writeField field.toNat v.toNat).isSome = true ↔ inRange 4 field.toNat v.toNat = true)) ∧
      (field.toNat < 7 → s.tables.conds[c].writeField field.toNat v.toNat = none →
        exec (.conditionWrite r entry field v) s = .next (answered s r 2 5 [])) ∧
      (∀ e, s.tables.conds[c].writeField field.toNat v.toNat = some e →
        onlyField (condNumbers s.tables.conds[c]) (condNumbers e) field.toNat v.toNat ∧
        exec (.conditionWrite r entry field v) s = .next (answered
          { s with
            tables := { s.tables with conds := s.tables.conds.set c e }
            conds := s.conds.set c { truth := false, unordered := false } } r 2 0 [])))

/-- LOCAL_PIN_CHANGE and TEACH_PIN_CHANGE run the debouncer of their line: leaving the settled level starts the hold timer
with the debounce time, and returning stops it (R60, R185). Before a first settled level the timer starts again with the length
it was started with (R61, by the model's reading, log 17). -/
def Obligations.PinsRunTheirDebouncers : Prop :=
  ∀ (s : State) (i : Fin 9) (level : Bool), s.inReset = false →
    let moved := fun (d : Debouncer) (length : Nat) => (
      { pin := level
        settled := d.settled
        hold := match d.settled with
          | none => d.hold
          | some l => if level = l then none else some length } : Debouncer)
    (exec (.localPinChange i s.inputs[i].pin) s = .next s) ∧
    (level ≠ s.inputs[i].pin → exec (.localPinChange i level) s =
      .next { s with inputs := s.inputs.set i (moved s.inputs[i] s.tables.hub.debounce) }) ∧
    (exec (.teachPinChange s.mgmt.pin.pin) s = .next s) ∧
    (level ≠ s.mgmt.pin.pin → exec (.teachPinChange level) s =
      .next { s with mgmt := { s.mgmt with pin := moved s.mgmt.pin 20 } })

/-- DEBOUNCE_HOLD_EXPIRY settles an input at its pin's level: its bit of pod 8 follows, the pod is known once all nine have
settled, and the edge, if the level is a new one, is an event that the demands follow (R59 to R62). IGN hands its level to the
supply monitor, and with it to the gauges, the flasher, the outputs and the fans (R114, R139, R144, R156). Where no link acts
beside it, each lamp and stop lamp is driven as its request says, and each INDICATOR and STOPTURN output follows the sources,
also where IGN off ends their context (the model's reading, log 32), with drives computed once, after them, and a window that
opens at once for a mask and a ramp of 0 (logs 14 and 24); the effective level of a fan is formed anew (log 18). -/
def Obligations.HeldInputsSettle : Prop :=
  ∀ (s : State) (i : Fin 9), s.inReset = false →
    (s.inputs[i].hold = none → exec (.debounceHoldExpiry i) s = .next s) ∧
    (s.inputs[i].hold ≠ none → ∃ t, exec (.debounceHoldExpiry i) s = .next t ∧
      t.inputs = s.inputs.set i { pin := s.inputs[i].pin, settled := some s.inputs[i].pin, hold := none } ∧
      (∀ b, b < 12 → t.pods[8].bits.getLsbD b = if b = i.val then s.inputs[i].pin else s.pods[8].bits.getLsbD b) ∧
      (t.pods[8].known = true ↔ s.pods[8].known = true ∨ ∀ j : Fin 9, t.inputs[j].settled ≠ none) ∧
      (∀ q : Fin 9, q ≠ 8 → t.pods[q] = s.pods[q]) ∧
      t.supply = { s.supply with ign := if i = 8 then s.inputs[i].pin else s.supply.ign } ∧
      (∀ g : Fin 4, t.gauges[g] =
        if i ≠ 8 ∨ s.inputs[i].pin = s.supply.ign then s.gauges[g]
        else if s.inputs[i].pin then formDuty s.tables.gauges[g] true s.supply.vs s.gauges[g]
        else { s.gauges[g] with d := 0, acc := 0, underdrive := false }) ∧
      (let old := s.inputs[i].settled = some true
       let bit : BitVec 12 := 1#12 <<< i.val
       let rise := if s.inputs[i].pin = true ∧ ¬ old then bit else 0
       let fall := if s.inputs[i].pin = false ∧ old then bit else 0
       demandsFollow s t (.switch 8 rise fall) ∧
       (i = 8 → s.inputs[i].pin ≠ s.supply.ign →
         (t.flash.hazard.runs = t.flash.hazard.demand ∧ ∀ d : Side, (t.flash.side d).runs =
           ((t.flash.side d).demand && s.inputs[i].pin && !t.flash.hazard.active)) ∧
         (wakesMatrix s (.switch 8 rise fall) = false → ∀ o : Fin 12,
           let e := s.tables.loads[o]
           let x := s.outs[o]
           (e.kind = .lamp ∨ e.kind = .stop → t.outs[o].drive = (x.demand && decide (x.protection = .normal) &&
             (decide (e.domain = .always) || s.inputs[i].pin) &&
             !(decide (1 ≤ e.shedClass) && decide (4 - e.shedClass ≤ s.supply.shed)))) ∧
           (e.kind = .indicator ∨ e.kind = .stopturn →
             t.outs[o] = flashedOutput s.tables s.flash t.flash s.inputs[i].pin e x) ∧
           (e.kind = .fan →
             t.outs[o].effective = effectiveOf s.tables e s.inputs[i].pin s.supply.shed x.fanLevel)))) ∧
      t.conds = s.conds ∧
      t.bystanders = { s with inputs := t.inputs, pods := t.pods, supply := t.supply }.bystanders)

/-- The truth of a condition: by the table of predicates where an operand is unordered or hysteresis does not apply, and by
the release test where it does (R65 to R67). -/
def Obligations.ConditionsCompare : Prop :=
  ∀ (e : CondEntry) (live : CondLive) (x y : Nat) (a b : Option Nat),
    (a = none ∨ b = none → (evaluate e live a b).unordered = true ∧
      ((evaluate e live a b).truth = true ↔
        e.predicate = .unord ∨ e.predicate = .neq ∨ e.predicate = .nlt ∨ e.predicate = .nle)) ∧
    (evaluate e live (some x) (some y)).unordered = false ∧
    (e.bKind ≠ .const ∨ live.unordered = true ∨ live.truth = false →
      ((evaluate e live (some x) (some y)).truth = true ↔ plainly e.predicate x y)) ∧
    (e.bKind = .const → live.unordered = false → live.truth = true →
      ((evaluate e live (some x) (some y)).truth = false ↔ releasedBy e.predicate x y e.hysteresis))

/-! The action matrix. -/

/-- The links of a firing set that name a target resolve to one verb for it: ON, else OFF, else the highest LEVEL, else one
TOGGLE, and none where no link names it; the order of the links plays no part (R77). -/
def Obligations.VerbsResolveByPrecedence : Prop :=
  ∀ fs : List LinkEntry,
    ((∃ l ∈ fs, l.verb = .on) → resolve fs = some .on) ∧
    ((∀ l ∈ fs, l.verb ≠ .on) → (∃ l ∈ fs, l.verb = .off) → resolve fs = some .off) ∧
    ((∀ l ∈ fs, l.verb ≠ .on ∧ l.verb ≠ .off) → (∃ l ∈ fs, l.verb = .level) →
      ∃ n, resolve fs = some (.level n) ∧ (∃ l ∈ fs, l.verb = .level ∧ l.level = n) ∧
        ∀ l ∈ fs, l.verb = .level → l.level ≤ n) ∧
    (fs ≠ [] → (∀ l ∈ fs, l.verb = .toggle) → resolve fs = some .toggle) ∧
    (fs = [] → resolve fs = none) ∧
    (∀ gs, fs.Perm gs → resolve gs = resolve fs) ∧
    (∀ target, resolvedVerbs fs target = resolve (fs.filter fun l => decide (l.target = target)))

/-- An event moves the demand of every output and of every flash source by the verb resolved for it, and no other demand:
lamps, stop and stop/turn lamps by R80, fans by R81, sources by R82; indicators and unused outputs ignore theirs (R78 to
R83). Its links are those valid, matching and with their guard holding: a SWITCH link by pod × 16 + bit and its edge, a COND link by
its entry and edge, a FAULT link by its class with RISE or ANY (R72, R75, R76). A verb on a source settles the sources on their
go signals (R114, R120), and an output that flashes follows them, its gap and its brake part (R121 to R125). After the event each
output is driven as its request and NORMAL say: a drive-on with its soft start, duty and fresh window, a drive-off without them
(R92 to R97, R99). A demand going OFF, or a fan level going to 0, returns a TRIPPED or LOCKED output to NORMAL with no trips and its
retry and stall timers stopped, and clears its OVERLOAD and STALL flags unless they are latched (R104, R105); no other flag
changes. A STOPTURN output with a verb of its own beside one on a source takes them in an open order (log 3), and is driven as its
values after both say. That the drives are
computed once, at the end of the event, that a window opens at once for a mask and a ramp of 0, and that a fan's effective level
follows a change of its level alone, are the model's readings (logs 14, 24 and 18). -/
def Obligations.EventsMoveDemands : Prop :=
  ∀ (s : State) (ev : MatrixEvent) (o : Fin 12) (i : SourceId),
    let firing := s.tables.links.toList.filter fun l => linkMatches l ev && guardAllows l s.conds
    let verb := resolvedVerbs firing
    let t := matrixEvent ev s
    firingSet s ev = firing ∧
    (wakesMatrix s ev = true ↔ ∃ l ∈ s.tables.links.toList, linkMatches l ev = true) ∧
    (s.tables.loads[o].kind.switched = true →
      t.outs[o].demand = demandByVerb s.outs[o].demand (verb (outputTarget o)) ∧
        t.outs[o].fanLevel = s.outs[o].fanLevel ∧ t.outs[o].fanMemory = s.outs[o].fanMemory) ∧
    (s.tables.loads[o].kind = .fan →
      (t.outs[o].fanLevel, t.outs[o].fanMemory) =
        fanByVerb s.outs[o].fanLevel s.outs[o].fanMemory (verb (outputTarget o)) ∧
        t.outs[o].demand = s.outs[o].demand) ∧
    (s.tables.loads[o].kind = .indicator ∨ s.tables.loads[o].kind = .unused →
      t.outs[o].demand = s.outs[o].demand ∧ t.outs[o].fanLevel = s.outs[o].fanLevel ∧
        t.outs[o].fanMemory = s.outs[o].fanMemory) ∧
    (t.flash.source i).demand = demandByVerb (s.flash.source i).demand
      (verb (match i with | .left => 12 | .right => 13 | .hazard => 14)) ∧
    ((∃ j : SourceId, verb (match j with | .left => 12 | .right => 13 | .hazard => 14) ≠ none) → sourcesSettled t) ∧
    ((∀ target, verb target = none) → t = s) ∧
    ((∃ target, verb target ≠ none) → outputFollows s t verb o) ∧
    (∀ c : FaultClass, c ≠ .overload → c ≠ .stall → t.faults.flags[c.number] = s.faults.flags[c.number]) ∧
    t.lessLoads = s.lessLoads ∧ t.faults.capture = s.faults.capture ∧ t.faults.lost = s.faults.lost

/-! Load channels. -/

/-- CURRENT_SAMPLE takes the output's sample, in steps of 10 mA up to 20000 and 0 while it is not driven, and every condition that
reads it is evaluated, its edges acting in turn (R68, R69, R98). Where no condition reads it, a sample outside the check window
changes nothing else, one above Imax trips the output, one below Imin reports OPEN, and one within limits clears an unlatched
OPEN flag; a fan's starts or stops its stall timer (R98 to R101, R108). A raise makes a capture attempt with the current (R165).
Where the raise would fire links, they act as well. That one command samples one output, and the other eleven keep their samples,
is the model's choice (log 13). -/
def Obligations.CurrentSamplesAreChecked : Prop :=
  ∀ (s : State) (o : Fin 12) (tens : Nat), s.inReset = false →
    let cmd := Instr.currentSample o tens
    let x := s.outs[o]
    let e := s.tables.loads[o]
    let i := if x.drive then min 20000 (10 * tens) else 0
    let stall := if e.kind = .fan ∧ x.drive = true then
        (if e.stallLimit < i then some (x.stall.getD 2000) else none) else x.stall
    let withOut := fun (y : OutLive) => { s with outs := s.outs.set o y }
    (∃ t, exec cmd s = .next t ∧
      (∀ q : Fin 12, t.outs[q].current = if q = o then i else s.outs[q].current) ∧
      conditionsTake s t (fun kind index => decide (kind = .current ∧ index = o.val)) ∧
      (x.window ≠ .opened ∨ (e.imin ≤ i ∧ i ≤ e.imax) → edgesMove s t) ∧
      t.gauges = s.gauges ∧ t.bystanders = s.bystanders) ∧
    (condsConcerned s (affectsCurrent o) = false →
      (x.window ≠ .opened → exec cmd s = .next (withOut { x with current := i })) ∧
      (x.window = .opened → e.imax < i → wakesMatrix s (.fault .overload) = false →
        ∃ t, exec cmd s = .next t ∧ t.faults.isSet .overload o.val =
            (s.faults.isSet .overload o.val || s.tables.hub.detects .overload) ∧ t.flash = s.flash ∧
          (t.faults.capture, t.faults.lost) = captured s .overload o.val i ∧
          t.outs = (withOut { x with
            current := i, drive := false, duty := 0, softStart := none, window := .closed, stall := none, actual := 0
            openGone := false, trips := x.trips + 1
            protection := if x.trips + 1 < 3 then .tripped else .locked
            retry := if x.trips + 1 < 3 then some 1000 else none }).outs) ∧
      (x.window = .opened → i ≤ e.imax → i < e.imin → wakesMatrix s (.fault .openLoad) = false →
        ∃ t, exec cmd s = .next t ∧ t.faults.isSet .openLoad o.val =
            (s.faults.isSet .openLoad o.val || s.tables.hub.detects .openLoad) ∧ t.flash = s.flash ∧
          (t.faults.capture, t.faults.lost) = captured s .openLoad o.val i ∧
          t.outs = (withOut { x with current := i, openGone := false, stall := stall }).outs) ∧
      (x.window = .opened → e.imin ≤ i → i ≤ e.imax → exec cmd s = .next
        (clearUnlatched .openLoad o.val (withOut { x with current := i, openGone := true, stall := stall }))))

/-- SOFT_START_COUNT takes a soft start of R counts from count k to k + 1, at 25 % plus 75 × (k + 1) ÷ R below R and 100 %
from R on; CHECK_WINDOW_OPEN opens a window that waits. An output without either is left as it is (R97, R99). -/
def Obligations.SoftStartsAndWindowsRun : Prop :=
  ∀ (s : State) (o : Fin 12), s.inReset = false →
    let x := s.outs[o]
    let ramp := s.tables.loads[o].ramp
    (x.softStart = none → exec (.softStartCount o) s = .next s) ∧
    (∀ k, x.softStart = some k →
      let y := if k + 1 < ramp then { x with duty := 25 + 75 * (k + 1) / ramp, softStart := some (k + 1) }
        else { x with duty := 100, softStart := none }
      exec (.softStartCount o) s = .next { s with outs := s.outs.set o y }) ∧
    ((∀ ms, x.window ≠ .waiting ms) → exec (.checkWindowOpen o) s = .next s) ∧
    (∀ ms, x.window = .waiting ms → exec (.checkWindowOpen o) s =
      .next { s with outs := s.outs.set o { x with window := .opened } })

/-- RETRY_EXPIRY returns a TRIPPED output to NORMAL with its count, and drives it where it is requested: a lamp, a stop lamp or the
brake part of a stop/turn lamp with a soft start where it has a ramp, an INDICATOR or STOPTURN output in a lit flash at 100 %, a
fan by its actual duty, each with a new inrush mask (R96, R97, R99, R102, R122). GAP_EXPIRY ends the changeover gap of a stop/turn
lamp: it is driven at 100 % with a fresh mask if its side is lit at that moment, and stays dark if not (R124). A window with
neither a mask nor a ramp to wait for opens at once (the model's reading, log 24). -/
def Obligations.DarkTimesEndInAFreshDrive : Prop :=
  (∀ (s : State) (o : Fin 12), s.inReset = false →
     let x := s.outs[o]
     let e := s.tables.loads[o]
     let y := { x with protection := .normal, retry := none }
     (x.protection ≠ .tripped ∨ x.retry = none → exec (.retryExpiry o) s = .next s) ∧
     (x.protection = .tripped → x.retry ≠ none → x.drive = false →
       (requested e s.flash s.supply.ign s.supply.shed y = false →
         exec (.retryExpiry o) s = .next { s with outs := s.outs.set o y }) ∧
       (e.kind = .lamp ∨ e.kind = .stop → x.demand = true → (e.domain = .always ∨ s.supply.ign = true) →
         (e.shedClass = 0 ∨ s.supply.shed + e.shedClass < 4) →
         let u := { s with outs := s.outs.set o { y with
           drive := true
           duty := if e.ramp = 0 then 100 else 25
           softStart := if e.ramp = 0 then none else some 0
           window := if max e.mask (e.ramp * 10) = 0 then .opened else .waiting (max e.mask (e.ramp * 10)) } }
         exec (.retryExpiry o) s = .next (afterNeed s u)) ∧
       (e.kind = .stopturn → s.flash.context e.side = false → x.demand = true →
         (e.domain = .always ∨ s.supply.ign = true) →
         let u := { s with outs := s.outs.set o { y with
           drive := true
           duty := if e.ramp = 0 then 100 else 25
           softStart := if e.ramp = 0 then none else some 0
           window := if max e.mask (e.ramp * 10) = 0 then .opened else .waiting (max e.mask (e.ramp * 10)) } }
         exec (.retryExpiry o) s = .next (afterNeed s u)) ∧
       (s.flash.lit e.side = true →
         e.kind = .indicator ∨ (e.kind = .stopturn ∧ s.flash.context e.side = true ∧ x.gap = none) →
         let u := { s with outs := s.outs.set o { y with
           drive := true, duty := 100, softStart := none
           window := if e.mask = 0 then .opened else .waiting e.mask } }
         exec (.retryExpiry o) s = .next (afterNeed s u)) ∧
       (e.kind = .fan → 0 < x.actual →
         let u := { s with outs := s.outs.set o { y with
           drive := true, softStart := none
           window := if e.mask = 0 then .opened else .waiting e.mask } }
         exec (.retryExpiry o) s = .next (afterNeed s u)))) ∧
  (∀ (s : State) (o : Fin 12), s.inReset = false →
     let x := s.outs[o]
     let e := s.tables.loads[o]
     (x.gap = none → exec (.gapExpiry o) s = .next s) ∧
     (x.gap ≠ none → e.kind = .stopturn → s.flash.context e.side = true → x.drive = false →
       (s.flash.lit e.side = false ∨ x.protection ≠ .normal →
         exec (.gapExpiry o) s = .next { s with outs := s.outs.set o { x with gap := none } }) ∧
       (s.flash.lit e.side = true → x.protection = .normal →
         let u := { s with outs := s.outs.set o { x with
           gap := none, drive := true, duty := 100, softStart := none
           window := if e.mask = 0 then .opened else .waiting e.mask } }
         exec (.gapExpiry o) s = .next (afterNeed s u))))

/-- FAN_SLEW_STEP moves the actual duty of every fan in NORMAL toward the duty of its effective level, by the slew or the
whole difference; its drive-on, with a fresh mask, comes as the duty rises above 0 and its drive-off as it comes down to 0, and
nothing else of the fan moves. Every other output whose drive is as requested stands, but that a stop/turn lamp driven in its
flash context is at 100 % with no soft start (R96, R97, R99, R107). The effective level is the one held since IGN, the shed level
or the fan level last changed (the model's reading, log 18); a window with no mask opens at once (log 24). -/
def Obligations.FansSlewTowardTheirLevel : Prop :=
  ∀ s : State, s.inReset = false → ∃ t, exec .fanSlewStep s = .next t ∧
    { t with outs := s.outs }.lessReports = s.lessReports ∧
    (∀ o : Fin 12, s.tables.loads[o].kind = .fan → s.outs[o].protection = .normal →
      let x := s.outs[o]
      let mask := s.tables.loads[o].mask
      let target := if x.effective = 0 then 0 else s.tables.hub.fanDuty.toList.getD (x.effective - 1) 0
      let actual := if x.actual < target then min target (x.actual + s.tables.hub.fanSlew)
        else max target (x.actual - s.tables.hub.fanSlew)
      t.outs[o] =
        if 0 < actual then
          (if x.drive then { x with actual := actual }
            else { x with
              actual := actual, drive := true, softStart := none
              window := if mask = 0 then .opened else .waiting mask })
        else if x.drive then
          { x with actual := actual, drive := false, duty := 0, softStart := none, window := .closed, stall := none }
        else { x with actual := actual }) ∧
    (∀ o : Fin 12, s.tables.loads[o].kind ≠ .fan ∨ s.outs[o].protection ≠ .normal →
      let x := s.outs[o]
      let e := s.tables.loads[o]
      t.outs[o].actual = x.actual ∧
      (wantsDrive e s.flash s.supply.ign s.supply.shed x = x.drive →
        t.outs[o] = if x.drive = true ∧ e.kind = .stopturn ∧ s.flash.context e.side = true then
          { x with duty := 100, softStart := none } else x)) ∧
    (∀ o : Fin 12,
      let x := s.outs[o]
      let y := t.outs[o]
      (y.demand, y.fanLevel, y.fanMemory, y.effective, y.protection, y.trips, y.retry, y.current, y.openGone, y.gap) =
        (x.demand, x.fanLevel, x.fanMemory, x.effective, x.protection, x.trips, x.retry, x.current, x.openGone, x.gap))

/-- STALL_EXPIRY reports STALL, with the current in its capture attempt (R165), and locks the fan with its drive off and its count
as it was; where no link names the class, the other outputs stand (R108). That it ends LOCKED even where a link fired by the
report has switched it off is the model's reading of the order of the steps (log 9). -/
def Obligations.StalledFansLock : Prop :=
  ∀ (s : State) (o : Fin 12), s.inReset = false →
    (s.outs[o].stall = none → exec (.stallExpiry o) s = .next s) ∧
    (s.outs[o].stall ≠ none → ∃ t, exec (.stallExpiry o) s = .next t ∧
      t.outs[o].protection = .locked ∧ t.outs[o].drive = false ∧ t.outs[o].actual = 0 ∧ t.outs[o].stall = none ∧
      t.gauges = s.gauges ∧ t.conds = s.conds ∧ t.bystanders = s.bystanders ∧
      (wakesMatrix s (.fault .stall) = false →
        t.faults.isSet .stall o.val = (s.faults.isSet .stall o.val || s.tables.hub.detects .stall) ∧
        (t.faults.capture, t.faults.lost) = captured s .stall o.val s.outs[o].current ∧
        t.flash = s.flash ∧
        t.outs = s.outs.set o { s.outs[o] with
          drive := false, duty := 0, softStart := none, window := .closed, stall := none, protection := .locked
          retry := none, actual := 0 }))

/-- LOAD_ENTRY_WRITE changes one field of the entry (and the shed class with a kind that is never shed), resets the output's
demand, protection and drive, clears its unlatched flags, and drives it again only where the flasher lights it under
the new entry; a refused one changes nothing. The values a field takes are those of its range, 0 alone for the shed class of a kind
that is never shed (R88, R89, R90, R127, R178). That the latest current sample stands is the model's reading (log 33). A window with no mask opens at once (the model's reading, log 24). -/
def Obligations.LoadWritesResetTheOutput : Prop :=
  ∀ (s : State) (r : Requester) (output : BitVec 8) (field : Lane) (v : BitVec 24), s.takesRequests →
    committing s = false →
    let cmd := Instr.loadEntryWrite r output field v
    (12 ≤ output.toNat → exec cmd s = .next (answered s r 2 3 [])) ∧
    (∀ o : Fin 12, output.toNat = o.val →
      (10 ≤ field.toNat → exec cmd s = .next (answered s r 2 4 [])) ∧
      (field.toNat < 10 → ((s.tables.loads[o].writeField field.toNat v.toNat).isSome = true ↔
        inRange 6 field.toNat v.toNat = true ∧ (field = 3 → v ≠ 0 → s.tables.loads[o].kind ≠ .stop ∧
          s.tables.loads[o].kind ≠ .indicator ∧ s.tables.loads[o].kind ≠ .stopturn))) ∧
      (field.toNat < 10 → s.tables.loads[o].writeField field.toNat v.toNat = none →
        exec cmd s = .next (answered s r 2 5 [])) ∧
      (∀ e, s.tables.loads[o].writeField field.toNat v.toNat = some e →
        onlyField (loadNumbers { s.tables.loads[o] with
          shedClass := if field = 0 ∧ (v = 2 ∨ v = 3 ∨ v = 4) then 0 else s.tables.loads[o].shedClass })
          (loadNumbers e) field.toNat v.toNat ∧
        let lit := (e.kind = .indicator ∨ (e.kind = .stopturn ∧ s.flash.context e.side = true)) ∧
          s.flash.lit e.side = true
        let cleared := clearUnlatched .stall o.val (clearUnlatched .overload o.val (clearUnlatched .openLoad o.val s))
        let u := { cleared with
          tables := { s.tables with loads := s.tables.loads.set o e }
          outs := s.outs.set o { OutLive.reset with
            current := s.outs[o].current
            drive := decide lit
            duty := if lit then 100 else 0
            window := if lit then (if e.mask = 0 then .opened else .waiting e.mask) else .closed } }
        exec cmd s = .next (answered (afterNeed s u) r 2 0 [])))

/-! The flasher. -/

/-- PHASE_EXPIRY steps its source: SETUP and OFF to ON, with the fail test and the two lengths of its cycle; ON to OFF for
the rest of the cycle; TRAIL to IDLE, marks clear. The other sources stand, but that the end of HAZARD lets LEFT and RIGHT
start. Each INDICATOR and STOPTURN output follows the sources, its gap and its brake part (R111, R112, R117 to R125), with the
drives computed once, at the end of the event, and a window that opens at once for a mask and a ramp of 0 (the model's readings,
logs 14 and 24); every other output whose drive is as requested stands. -/
def Obligations.PhasesFollowTheirTimers : Prop :=
  ∀ (s : State) (i : SourceId), s.inReset = false → s.flasherSound →
    let x := s.flash.source i
    let profile := match i with
      | .left => s.tables.profiles[s.tables.hub.profileLeft]
      | .right => s.tables.profiles[s.tables.hub.profileRight]
      | .hazard => s.tables.profiles[s.tables.hub.profileHazard]
    let fails := fun (d : Side) => decide (∃ o : Fin 12,
      (s.tables.loads[o].kind = .indicator ∨ s.tables.loads[o].kind = .stopturn) ∧ s.tables.loads[o].side = d ∧
        s.faults.isSet .openLoad o.val = true)
    let failLeft := decide (i ≠ .right) && fails .left
    let failRight := decide (i ≠ .left) && fails .right
    let cycle := max 20 (if failLeft || failRight then profile.failcycle.ms else profile.cycle.ms)
    let lit := if failLeft || failRight then max 10 (cycle / 2 / 10 * 10) else min (cycle - 10) (max 10 profile.pulse.ms)
    (x.timer = none → exec (.phaseExpiry i) s = .next s) ∧
    (x.timer ≠ none → ∃ t, exec (.phaseExpiry i) s = .next t ∧
      (x.phase = .setup ∨ x.phase = .off → t.flash.source i = { x with
        phase := .on, timer := some lit, onLength := lit, cycleLength := cycle, failLeft := failLeft
        failRight := failRight }) ∧
      (x.phase = .on → t.flash.source i = { x with phase := .off, timer := some (x.cycleLength - x.onLength) }) ∧
      (x.phase = .trail → t.flash.source i = { x with
        phase := .idle, timer := none, failLeft := false, failRight := false }) ∧
      (∀ j, j ≠ i → i ≠ .hazard ∨ x.phase ≠ .trail → t.flash.source j = s.flash.source j) ∧
      (i = .hazard → x.phase = .trail → ∀ d : Side,
        (t.flash.side d).active = ((s.flash.side d).demand && s.supply.ign)) ∧
      (∀ o : Fin 12, s.tables.loads[o].kind = .indicator ∨ s.tables.loads[o].kind = .stopturn →
        t.outs[o] = flashedOutput s.tables s.flash t.flash s.supply.ign s.tables.loads[o] s.outs[o]) ∧
      (∀ o : Fin 12, s.tables.loads[o].kind ≠ .indicator → s.tables.loads[o].kind ≠ .stopturn →
        wantsDrive s.tables.loads[o] s.flash s.supply.ign s.supply.shed s.outs[o] = s.outs[o].drive →
        t.outs[o] = s.outs[o]) ∧
      t.lessLoads.lessReports = s.lessLoads.lessReports ∧ t.choices = s.choices)

/-! Gauge drivers. -/

/-- A run of a channel: by the state table where its curve is in EDIT or there is no reading, and otherwise curve, damping and
position, ending LIVE; the target mean and compensation from the drive position it ends with (R131 to R138, R141, R142). That a run
which finds the curve in EDIT or no reading leaves the last raw reading as it was is the model's reading (log 20). -/
def Obligations.PipelineRunsCompute : Prop :=
  ∀ (t : Tables) (e : GaugeEntry) (ign : Bool) (vs : Nat) (r : Lane) (g : GaugeLive), t.legal = true →
    let out := gaugeRun t e ign vs r g
    let edit := ∃ c, e.curve = some c ∧ t.curves[c].state = .edit
    let vc := max 4000 (min 18000 vs)
    let drivenFrom := fun (pos : Nat) =>
      let mean := e.vz + ((e.vfs - e.vz) * pos + 500) / 1000
      (out.d, out.underdrive) =
        if ign = false then (0, false) else if vc < mean then (1024, true) else (mean * 1024 / vc, false)
    let undriven := out.d = 0 ∧ out.underdrive = false
    (out.acc = g.acc ∧ out.out = g.out) ∧
    (edit → out.state = .nocurve ∧ out.f = 0 ∧ out.p = 0 ∧ out.lastRaw = g.lastRaw ∧ undriven) ∧
    (¬ edit → r = 4095 → out.lastRaw = g.lastRaw ∧
      (g.state = .waiting ∨ g.state = .nocurve → out.state = .waiting ∧ out.f = g.f ∧ out.p = g.p ∧ undriven) ∧
      (g.state = .live ∨ g.state = .fault → out.state = .fault ∧ (match e.policy with
        | .hold => out.f = g.f ∧ out.p = g.p ∧ drivenFrom g.p
        | .park => out.f = 0 ∧ out.p = 0 ∧ undriven
        | .mark => out.f = g.f ∧ out.p = e.mark ∧ drivenFrom e.mark))) ∧
    (¬ edit → r ≠ 4095 →
      let y := match e.curve with
        | none => min 1000 r.toNat
        | some c => (t.curves[c].output r).toNat
      let d : Int := 16 * y - g.f
      out.state = .live ∧ out.lastRaw = r ∧
      (d.natAbs < 2 ^ e.damping → (out.f : Int) = g.f + d.sign) ∧
      (2 ^ e.damping ≤ d.natAbs → (out.f : Int) = g.f + d.tdiv (2 ^ e.damping)) ∧
      out.p = (out.f + 8) / 16 ∧ drivenFrom out.p)

/-- MODULATOR_STEP adds D to each accumulator and turns the output on at an overflow; over 1024 steps with D held the output
is on in exactly D of them, and the accumulator returns to where it was (R140). That one event steps all four channels is the
model's reading (log 34). -/
def Obligations.ModulatorMeetsItsDuty : Prop :=
  (∀ s : State, s.inReset = false → ∃ t, exec .modulatorStep s = .next t ∧ { t with gauges := s.gauges } = s ∧
    ∀ g : Fin 4,
      let sum := s.gauges[g].acc + s.gauges[g].d
      t.gauges[g] = { s.gauges[g] with
        acc := if 1024 ≤ sum then sum - 1024 else sum
        out := decide (1024 ≤ sum) }) ∧
  (∀ (s : State) (g : Fin 4), s.inReset = false → s.gauges[g].acc ≤ 1023 → s.gauges[g].d ≤ 1024 →
    (modulatorSteps 1024 s g).1 = s.gauges[g].d ∧
      (modulatorSteps 1024 s g).2.gauges[g].acc = s.gauges[g].acc)

/-- GAUGE_ENTRY_WRITE changes one field, resets the channel with its accumulator kept, ends a teach sequence that waits on
it and clears an unlatched SENDER flag; conditions on the channel are evaluated with it unordered, and their edges act in turn
(R64, R68, R69, R129, R130, R187). That its output stays as the last step left it until the next one is the model's reading
(log 31). The values a field takes are those of its range, and neither end of the scale crosses the other
(R129, R130, R178). TEACH_GAUGE_WRITE does
the same to an entry, and of the hub field it names a gauge or none and ends a sequence that waits (R177, R187). A refused
one changes nothing. -/
def Obligations.GaugeWritesResetTheChannel : Prop :=
  (∀ (s : State) (r : Requester) (channel : BitVec 8) (field : Lane) (v : BitVec 24), s.takesRequests →
     committing s = false → ∀ cmd ∈ [Instr.gaugeEntryWrite r channel field v,
       Instr.teachGaugeWrite r (.gaugeEntry channel field v)],
     (4 ≤ channel.toNat → exec cmd s = .next (answered s r 2 3 [])) ∧
     (∀ g : Fin 4, channel.toNat = g.val →
       (7 ≤ field.toNat → exec cmd s = .next (answered s r 2 4 [])) ∧
       (field.toNat < 7 → ((s.tables.gauges[g].writeField field.toNat v.toNat).isSome = true ↔
         inRange 8 field.toNat v.toNat = true ∧ (field = 3 → v.toNat ≤ s.tables.gauges[g].vfs) ∧
           (field = 4 → s.tables.gauges[g].vz ≤ v.toNat))) ∧
       (field.toNat < 7 → s.tables.gauges[g].writeField field.toNat v.toNat = none →
         exec cmd s = .next (answered s r 2 5 [])) ∧
       (∀ e, s.tables.gauges[g].writeField field.toNat v.toNat = some e →
         onlyField (gaugeNumbers s.tables.gauges[g]) (gaugeNumbers e) field.toNat v.toNat ∧
         let w := clearUnlatched .sender g.val
           (if s.tables.hub.teachGauge = some g then teachEnded s else s)
         let u := { w with
           tables := { s.tables with gauges := s.tables.gauges.set g e }
           gauges := s.gauges.set g { s.gauges[g] with
             state := .waiting, f := 0, p := 0, d := 0, underdrive := false, lastRaw := 4095 } }
         (∃ t, exec cmd s = .next t ∧ t.gauges = u.gauges ∧
           conditionsTake s t (fun kind index => decide (kind = .gauge ∧ index = g.val)) ∧ edgesMove s t ∧
           t.lessReports.lessLoads.lessConds = u.lessReports.lessLoads.lessConds) ∧
         (condsConcerned s (affectsGauge g) = false → exec cmd s = .next (answered (afterNeed s u) r 2 0 []))))) ∧
  (∀ (s : State) (r : Requester) (v : BitVec 24), s.takesRequests → committing s = false →
     let cmd := Instr.teachGaugeWrite r (.gaugeField v)
     (∀ g : Option (Fin 4), v.toNat = (match g with | none => 255 | some i => i.val) →
       let u := { teachEnded s with
         tables := { s.tables with hub := { s.tables.hub with teachGauge := g } } }
       exec cmd s = .next (answered (afterNeed s u) r 2 0 [])) ∧
     (4 ≤ v.toNat → v.toNat ≠ 255 → exec cmd s = .next (answered s r 2 5 [])))

/-! Supply. -/

/-- VS_UPDATE moves Vs toward the sample by an eighth of the difference, at least 1 mV; runs or stops the shed timers by the
thresholds; reports and clears UNDERVOLT and OVERVOLT, with Vs in their capture attempts; evaluates every condition on the supply,
whose edges act in turn; and forms the duty of each driven channel again (R68, R69, R139, R148 to R151, R153, R154, R165). The
causes of the two classes are those of the latest update (the model's reading, log 12). -/
def Obligations.VsUpdatesAreHandedOn : Prop :=
  ∀ (s : State) (mv : Nat), s.inReset = false →
    let h := s.tables.hub
    let d : Int := (min 20000 mv : Nat) - (s.supply.vs : Int)
    let top := max h.vrestore (h.venter + 100)
    ∃ t, exec (.vsUpdate mv) s = .next t ∧
      (d.natAbs < 8 → (t.supply.vs : Int) = s.supply.vs + d.sign) ∧
      (8 ≤ d.natAbs → (t.supply.vs : Int) = s.supply.vs + d.tdiv 8) ∧
      t.supply.shed = s.supply.shed ∧ t.supply.ign = s.supply.ign ∧
      t.supply.enter = (if t.supply.vs < h.venter then some (s.supply.enter.getD (h.enterDwell * 1000)) else none) ∧
      t.supply.restore = (if top < t.supply.vs then some (s.supply.restore.getD (h.restoreDwell * 1000)) else none) ∧
      t.faults.isSet .undervolt 0 = (
        if t.supply.vs < h.uv then s.faults.isSet .undervolt 0 || h.detects .undervolt
        else s.faults.isSet .undervolt 0 && (h.latches .undervolt || decide (t.supply.vs < h.uv + 300))) ∧
      t.faults.isSet .overvolt 0 = (
        if h.ov < t.supply.vs then s.faults.isSet .overvolt 0 || h.detects .overvolt
        else s.faults.isSet .overvolt 0 && (h.latches .overvolt || decide (h.ov < t.supply.vs + 300))) ∧
      t.supply.uvGone = decide (h.uv + 300 ≤ t.supply.vs) ∧ t.supply.ovGone = decide (t.supply.vs + 300 ≤ h.ov) ∧
      (∀ g : Fin 4, t.gauges[g] = formDuty s.tables.gauges[g] s.supply.ign t.supply.vs s.gauges[g]) ∧
      conditionsTake s t (fun kind _ => decide (kind = .supply)) ∧
      (h.uv ≤ t.supply.vs → t.supply.vs ≤ h.ov → edgesMove s t ∧ t.faults.capture = s.faults.capture) ∧
      (t.supply.vs < h.uv → t.supply.vs ≤ h.ov →
        (t.faults.capture, t.faults.lost) = captured { s with supply := t.supply } .undervolt 0 t.supply.vs) ∧
      (h.uv ≤ t.supply.vs → h.ov < t.supply.vs →
        (t.faults.capture, t.faults.lost) = captured { s with supply := t.supply } .overvolt 0 t.supply.vs) ∧
      t.bystanders = { s with supply := t.supply }.bystanders

/-- ENTER_TIMER_EXPIRY and RESTORE_TIMER_EXPIRY move the shed level by one between 0 and 3 and start their timer again; at
the end of its range the level stands and nothing else happens. Where no condition reads the level, every lamp or stop lamp
is driven in NORMAL just as its request says, the effective level of every fan is formed anew with the new level, and every
INDICATOR and STOPTURN output is driven as the flasher and its brake part say, whatever the shed level; the conditions that read the
level are evaluated, and their edges act in turn (R68, R69, R89, R92, R94 to R96, R122, R125, R153 to R155). That the window of such
an INDICATOR or STOPTURN output opens at once where a drive-on has a mask and a ramp of 0 is the model's reading (log 24). -/
def Obligations.ShedTimersMoveTheLevel : Prop :=
  ∀ (s : State) (c : Instr) (level : Nat) (u : State), s.inReset = false →
    ((c = .enterTimerExpiry ∧ s.supply.enter ≠ none ∧ level = (if s.supply.shed < 3 then s.supply.shed + 1 else s.supply.shed) ∧
        u = { s with supply := { s.supply with enter := some (s.tables.hub.enterDwell * 1000) } }) ∨
      (c = .restoreTimerExpiry ∧ s.supply.restore ≠ none ∧ level = s.supply.shed - 1 ∧
        u = { s with supply := { s.supply with restore := some (s.tables.hub.restoreDwell * 1000) } })) →
    ∃ t, exec c s = .next t ∧ t.supply = { u.supply with shed := level } ∧ t.gauges = s.gauges ∧
      t.bystanders = { u with supply := t.supply }.bystanders ∧
      (level = s.supply.shed → t = u) ∧
      (level ≠ s.supply.shed → conditionsTake s t (fun kind _ => decide (kind = .shed)) ∧ edgesMove s t) ∧
      (level ≠ s.supply.shed → condsConcerned s affectsShed = false →
        (∀ o : Fin 12, s.tables.loads[o].kind = .lamp ∨ s.tables.loads[o].kind = .stop →
          t.outs[o].drive = (s.outs[o].demand && decide (s.outs[o].protection = .normal) &&
            (decide (s.tables.loads[o].domain = .always) || s.supply.ign) &&
            !(decide (1 ≤ s.tables.loads[o].shedClass) && decide (4 - s.tables.loads[o].shedClass ≤ level)))) ∧
        (∀ o : Fin 12, s.tables.loads[o].kind = .fan →
          t.outs[o].effective = effectiveOf s.tables s.tables.loads[o] s.supply.ign level s.outs[o].fanLevel) ∧
        (∀ o : Fin 12, s.tables.loads[o].kind = .indicator ∨ s.tables.loads[o].kind = .stopturn →
          t.outs[o] = flashedOutput s.tables s.flash s.flash s.supply.ign s.tables.loads[o] s.outs[o]) ∧
        (∀ o : Fin 12, t.outs[o].demand = s.outs[o].demand ∧ t.outs[o].fanLevel = s.outs[o].fanLevel ∧
          t.outs[o].protection = s.outs[o].protection ∧ t.outs[o].trips = s.outs[o].trips))

/-- A shed timer that does not run cannot expire; UPTIME_TICK counts tenths of a second up to 16777215 and then returns to 0;
TEACH_LOCKOUT_EXPIRY ends the lockout; WINDOW_EXPIRY ends a waiting teach sequence with no change (R153, R154, R167, R185,
R187). -/
def Obligations.SmallTimersExpire : Prop :=
  ∀ s : State, s.inReset = false →
    (s.supply.enter = none → exec .enterTimerExpiry s = .next s) ∧
    (s.supply.restore = none → exec .restoreTimerExpiry s = .next s) ∧
    (s.faults.uptime < 16777215 → exec .uptimeTick s =
      .next { s with faults := { s.faults with uptime := s.faults.uptime + 1 } }) ∧
    (s.faults.uptime = 16777215 → exec .uptimeTick s = .next { s with faults := { s.faults with uptime := 0 } }) ∧
    (exec .teachLockoutExpiry s = .next { s with mgmt := { s.mgmt with lockout := none } }) ∧
    (s.mgmt.window = none → exec .windowExpiry s = .next s) ∧
    (s.mgmt.window ≠ none → exec .windowExpiry s = .next (afterNeed s (teachEnded s)))

/-! Reports and faults. -/

/-- A STATE report is made from the hub as it stands: the drive bits, the items of lane 1 at their bits and the positions of the
gauges (R169). A need arises where an item of lane 0 or lane 1 has changed, the clearing of MGMT-OVERRUN apart (R169, R170); that
the items are compared before and after a whole command is the model's reading (log 36). A need
makes a STATE report join where none is pending, with its copies made at once for the ports of the report port that have room
(R16, R168); it is met by one with no copy made, and is held for one with a copy made (R170). REFRESH_EXPIRY starts the timer again
with the setting and makes a need. REFRESH_WRITE takes 0, or
100 to 5000, and stops or restarts the timer; DETECT_MASK_WRITE takes ten bits and clears the flags of the classes turned
off (R161, R177). -/
def Obligations.RefreshAndDetectAct : Prop :=
  (∀ (s : State) (copied all : Bool),
    reportRecord s (.state copied all) = { frame := stateFrame s, note := .report }) ∧
  (∀ s t : State, lanesChanged s t = true ↔ contentChanged s t) ∧
  (∀ s : State, s.copiesMade →
    ((∀ r ∈ s.reports.list, r.body.isState = false) → s.reports.held = false → stateNeed s = stateSent s) ∧
    (∀ r copied all, r ∈ s.reports.list → (∀ q ∈ s.reports.list, q.body.isState = true → q = r) →
      r.body = .state copied all →
      stateNeed s = if copied then { s with reports := { s.reports with held := true } } else s)) ∧
  (∀ s : State, s.inReset = false →
    (s.reports.refresh = none → exec .refreshExpiry s = .next s) ∧
    (s.reports.refresh ≠ none →
      let setting := s.tables.hub.refresh
      exec .refreshExpiry s = .next (stateNeed
        { s with reports := { s.reports with refresh := if setting = 0 then none else some setting } }))) ∧
  (∀ (s : State) (r : Requester) (v : BitVec 24), s.takesRequests → committing s = false →
    (v = 0 ∨ (100 ≤ v.toNat ∧ v.toNat ≤ 5000) → exec (.refreshWrite r v) s = .next (answered { s with
      tables := { s.tables with hub := { s.tables.hub with refresh := v.toNat } }
      reports := { s.reports with refresh := if v = 0 then none else some v.toNat } } r 2 0 [])) ∧
    (v ≠ 0 → v.toNat < 100 ∨ 5000 < v.toNat → exec (.refreshWrite r v) s = .next (answered s r 2 5 [])) ∧
    (v.toNat < 1024 → exec (.detectMaskWrite r v) s = .next (answered { s with
      tables := { s.tables with hub := { s.tables.hub with detect := v.setWidth 10 } }
      faults := { s.faults with flags := Vector.ofFn fun c => if v.getLsbD c.val then s.faults.flags[c] else 0 } }
      r 2 0 [])) ∧
    (1024 ≤ v.toNat → exec (.detectMaskWrite r v) s = .next (answered s r 2 5 [])))

/-- CLEAR_FAULTS clears the flags of one class, or of all, whose cause is gone, and LOST, and nothing else; flags whose
cause persists stay set. The cause is that of R162: the latest checked sample, protection, channel state, Vs update, verdict, update of
the pod, relay offer, or the marker (R10, R15, R58, R100, R105, R143, R150, R151, R162, R163). How an update since the raise and
the latest Vs update are kept is the model's reading (logs 11 and 12). -/
def Obligations.ClearFaultsClearsWhatIsGone : Prop :=
  ∀ (s : State) (r : Requester) (lane : Lane) (more : List Lane), s.takesRequests → committing s = false →
    exec (.clearFaults r []) s = .next (answered s r 7 1 []) ∧
    (9 < lane.toNat → lane ≠ 15 → exec (.clearFaults r (lane :: more)) s = .next (answered s r 7 5 [])) ∧
    (lane.toNat ≤ 9 ∨ lane = 15 → ∃ flags : Vector (BitVec 12) 10,
      exec (.clearFaults r (lane :: more)) s = .next (answered
        (afterNeed s { s with faults := { s.faults with flags := flags, lost := false } }) r 7 0 []) ∧
      (∀ c : Fin 10, lane.toNat ≠ c.val → lane ≠ 15 → flags[c] = s.faults.flags[c]) ∧
      (∀ c : Fin 10, lane.toNat = c.val ∨ lane = 15 → ∀ i, i < 12 →
        flags[c].getLsbD i = (s.faults.flags[c].getLsbD i && !causeGone s (FaultClass.ofNumber c) i)) ∧
      (∀ o : Fin 12, causeGone s .overload o.val = decide (s.outs[o].protection = .normal) ∧
        causeGone s .stall o.val = decide (s.outs[o].protection = .normal)) ∧
      (∀ o : Fin 12, causeGone s .openLoad o.val = s.outs[o].openGone) ∧
      (∀ g : Fin 4, causeGone s .sender g.val = decide (s.gauges[g].state ≠ .fault)) ∧
      causeGone s .undervolt 0 = s.supply.uvGone ∧ causeGone s .overvolt 0 = s.supply.ovGone ∧
      (∀ p : PortId, causeGone s .link (portIndex p) = (s.port p).verdictGood ∧
        causeGone s .egress (portIndex p) = (s.port p).offerTaken) ∧
      (∀ p : Fin 8, causeGone s .pod p.val = s.pods[linkPod p].seen) ∧
      causeGone s .store 0 = s.store.valid)

/-- READ_CAPTURE returns a HELD record in its two parts and changes nothing; RELEASE_CAPTURE frees the slot and withdraws
the FAULT report that is still pending for it (R166, R180). -/
def Obligations.CaptureRequestsServeTheSlots : Prop :=
  ∀ (s : State) (r : Requester) (lane : Lane) (more : List Lane), s.takesRequests →
    exec (.readCapture r []) s = .next (answered s r 8 1 []) ∧
    exec (.releaseCapture r []) s = .next (answered s r 9 1 []) ∧
    (2 ≤ lane.toNat → exec (.readCapture r (lane :: more)) s = .next (answered s r 8 3 []) ∧
      exec (.releaseCapture r (lane :: more)) s = .next (answered s r 9 3 [])) ∧
    (∀ slot : Fin 2, lane.toNat = slot.val →
      (s.faults.capture[slot] = none → exec (.readCapture r (lane :: more)) s = .next (answered s r 8 9 [])) ∧
      (∀ record, s.faults.capture[slot] = some record →
        (more = [] ∨ more.head? = some 0 → exec (.readCapture r (lane :: more)) s = .next (answered s r 8 0
          [laneOf (record.cls.number.val * 16 + record.index), laneOf (valueLane record), laneOf (record.vs / 10)])) ∧
        (more.head? = some 1 → exec (.readCapture r (lane :: more)) s = .next (answered s r 8 0
          [laneOf (record.uptime / 4096), laneOf (record.uptime % 4096)])) ∧
        (∀ part, more.head? = some part → 2 ≤ part.toNat →
          exec (.readCapture r (lane :: more)) s = .next (answered s r 8 5 []))) ∧
      exec (.releaseCapture r (lane :: more)) s = .next (answered { s with
        faults := { s.faults with capture := s.faults.capture.set slot none }
        reports := { s.reports with list := s.reports.list.filter fun x => !x.body.isFaultOf slot } } r 9 0 []))

/-! Management. -/

/-- A request that the engine does not accept is not served and gets no reply: MGMT-OVERRUN is set, and that is all (R170,
R173). While a commit runs, the requests that would change the tables, clear faults or restart are answered BUSY and change
nothing (R174). -/
def Obligations.RequestsAreDiscardedOrHeldOff : Prop :=
  (∀ (c : Instr) (r : Requester) (s : State), requesterOf c = some r → s.inReset = false →
     s.mgmt.service = .restarting ∨ replyPending s.reports.list = true →
     exec c s = .next (afterNeed s { s with reports := { s.reports with overrun := true } })) ∧
  (∀ (c : Instr) (r : Requester) (code : Nat) (s : State), requesterOf c = some r → heldOffCode c = some code →
     s.takesRequests → committing s = true → exec c s = .next (answered s r code 6 []))

/-- IDENT answers part, revision, node with the store state, and which curves are in EDIT; READ answers the field it names, by
its place in the field list of the table's rule and coded as a number (R19, R36, R45, R55, R63, R71, R88, R110, R129, R177, R178), or
the status of its address. Both change nothing (R175, R176). -/
def Obligations.IdentAndReadAnswer : Prop :=
  ∀ (s : State) (r : Requester) (lanes : List Lane), s.takesRequests →
    (∃ edits : Lane, exec (.ident r lanes) s = .next (answered s r 0 0
        [416, 1, laneOf (s.node.toNat * 16 + (if committing s then 6 else if s.store.valid then 0 else 11)), edits]) ∧
      (∀ c : Fin 8, edits.getLsbD c.val = decide (s.tables.curves[c].state = .edit)) ∧ edits.toNat < 256) ∧
    (lanes.length < 2 → exec (.read r lanes) s = .next (answered s r 1 1 [])) ∧
    (∀ a b more, lanes = a :: b :: more →
      let status := addressCode (a.toNat / 256) (a.toNat % 256) b.toNat
      (status ≠ 0 → exec (.read r lanes) s = .next (answered s r 1 status [])) ∧
      (status = 0 → ∃ v, (entryNumbers s.tables (a.toNat / 256) (a.toNat % 256))[b.toNat]? = some v ∧
        exec (.read r lanes) s = .next (answered s r 1 0 [laneOf (v / 4096), laneOf (v % 4096)])))

/-- An accepted WRITE leaves its value in the field of that number, as READ returns it, and every other field of every table as it
was, but the shed class
that a kind of output that is never shed sets to 0 (R41, R73, R89, R176, R178). WRITE is answered by the checks of its address,
of its curve and of its value, whose ranges are those of the tables (R19, R36, R55, R71, R110, R152, R177), and then has its
effect: a write of a match entry, a link, a profile or a hub field that is only read at its next use changes that field alone
(R34, R73, R110, R174, R176, R177), and every other write does what its own row does. -/
def Obligations.WritesAreCheckedAndChangeOneField : Prop :=
  (∀ (t u : Tables) (table index field v : Nat), t.writeChecked table index field v = (.ok, u) →
     addressCode table index field = 0 ∧ (entryNumbers u table index)[field]? = some v ∧
     (table ≠ 1 ∨ field ≠ 19) ∧ inRange table field v = true ∧
     (∀ a i f, addressCode a i f = 0 → (a, i, f) ≠ (table, index, field) → (a, i, f) ≠ (6, index, 3) ∨ field ≠ 0 ∨ table ≠ 6 →
       (entryNumbers u a i)[f]? = (entryNumbers t a i)[f]?)) ∧
  (∀ (s : State) (r : Requester) (lanes : List Lane), s.takesRequests → committing s = false →
     (lanes.length < 4 → exec (.write r lanes) s = .next (answered s r 2 1 [])) ∧
     (∀ a b high low more, lanes = a :: b :: high :: low :: more →
       let table := a.toNat / 256
       let index := a.toNat % 256
       let v := high.toNat * 4096 + low.toNat
       let status := addressCode table index b.toNat
       (status ≠ 0 → exec (.write r lanes) s = .next (answered s r 2 status [])) ∧
       (status = 0 → table = 1 → b.toNat = 19 → exec (.write r lanes) s = .next (answered s r 2 4 [])) ∧
       (status = 0 → table = 1 → b.toNat ≠ 19 → (∀ c : Fin 8, c.val = index → s.tables.curves[c].state = .inService) →
         exec (.write r lanes) s = .next (answered s r 2 7 [])) ∧
       (status = 0 → table ∈ [0, 1, 3, 5, 7, 9] → (table ≠ 1 ∨ b.toNat ≠ 19) →
         ((s.tables.writeField table index b.toNat v).isSome = true ↔ inRange table b.toNat v = true)) ∧
       (status = 0 → table ≠ 1 → s.tables.writeField table index b.toNat v = none →
         exec (.write r lanes) s = .next (answered s r 2 5 [])) ∧
       (∀ u, status = 0 → s.tables.writeField table index b.toNat v = some u →
         (entryNumbers u table index)[b.toNat]? = some v ∧ ∀ a i f, addressCode a i f = 0 →
           (a, i, f) ≠ (table, index, b.toNat) → (a, i, f) ≠ (6, index, 3) ∨ b ≠ 0 ∨ table ≠ 6 →
           (entryNumbers u a i)[f]? = (entryNumbers s.tables a i)[f]?) ∧
       (∀ u, status = 0 → s.tables.writeField table index b.toNat v = some u →
         (table = 0 ∨ table = 5 ∨ table = 7 ∨ (table = 9 ∧ b.toNat ≠ 2 ∧ b.toNat ≠ 20 ∧ b.toNat ≠ 21)) →
         exec (.write r lanes) s = .next (answered { s with tables := u } r 2 0 [])) ∧
       (status = 0 → table = 1 ∨ table = 3 ∨ (table = 9 ∧ (b = 2 ∨ b = 20 ∨ b = 21)) →
         ∀ c, c = (if table = 1 then Instr.curvePointWrite r (BitVec.ofNat 8 index) b (BitVec.ofNat 24 v)
           else if table = 3 then .podTimeoutWrite r (BitVec.ofNat 8 index) (BitVec.ofNat 24 v)
           else if b = 2 then .refreshWrite r (BitVec.ofNat 24 v)
           else if b = 20 then .teachGaugeWrite r (.gaugeField (BitVec.ofNat 24 v))
           else .detectMaskWrite r (BitVec.ofNat 24 v)) →
         exec (.write r lanes) s = exec c s) ∧
       (table = 2 ∨ table = 4 ∨ table = 6 ∨ table = 8 →
         ∀ c, c = (if table = 2 then Instr.slotConfigWrite r (BitVec.ofNat 8 index) b (BitVec.ofNat 24 v)
           else if table = 4 then .conditionWrite r (BitVec.ofNat 8 index) b (BitVec.ofNat 24 v)
           else if table = 6 then .loadEntryWrite r (BitVec.ofNat 8 index) b (BitVec.ofNat 24 v)
           else .gaugeEntryWrite r (BitVec.ofNat 8 index) b (BitVec.ofNat 24 v)) →
         exec (.write r lanes) s = exec c s)))

/-- READ_LIVE answers the present value of its item, coded as the manual's table gives, and changes nothing (R109, R128,
R147, R179). -/
def Obligations.ReadLiveShowsTheHub : Prop :=
  ∀ (s : State) (r : Requester) (lanes : List Lane), s.takesRequests →
    let answers := fun (item index : Lane) (data : List Lane) =>
      ∀ more, lanes = item :: index :: more → exec (.readLive r lanes) s = .next (answered s r 6 0 data)
    let refuses := fun (item index : Lane) (status : Nat) =>
      ∀ more, lanes = item :: index :: more → exec (.readLive r lanes) s = .next (answered s r 6 status [])
    (lanes.length < 2 → exec (.readLive r lanes) s = .next (answered s r 6 1 [])) ∧
    (∀ item index : Lane, 8 < item.toNat → refuses item index 5) ∧
    (∀ item index : Lane, (∃ n, [16, 4, 12, 1, 16, 10, 9, 1, 1][item.toNat]? = some n ∧ n ≤ index.toNat) →
      refuses item index 3) ∧
    (∀ k : Fin 16, answers 0 (laneOf k.val) [s.slots[k].value,
      match s.slots[k].state with | .empty => 0 | .fresh => 1 | .stale => 2]) ∧
    (∀ g : Fin 4, let x := s.gauges[g]
      answers 1 (laneOf g.val) [
        laneOf ((match x.state with | .waiting => 0 | .live => 1 | .fault => 2 | .nocurve => 3) * 1024 + x.p),
        laneOf (x.f / 4096), laneOf (x.f % 4096), laneOf ((if x.underdrive then 2048 else 0) + x.d)]) ∧
    (∀ o : Fin 12, let x := s.outs[o]
      answers 2 (laneOf o.val) [
        laneOf ((if x.drive then 2048 else 0)
          + (match x.protection with | .normal => 0 | .tripped => 512 | .locked => 1024) + x.trips * 128
          + (if s.tables.loads[o].kind = .fan then x.actual else x.duty)), laneOf (x.current / 10)]) ∧
    answers 3 0 [laneOf (s.supply.vs / 4096), laneOf (s.supply.vs % 4096), laneOf s.supply.shed,
      if s.supply.ign then 1 else 0] ∧
    (∀ c : Fin 16, answers 4 (laneOf c.val)
      [(if s.conds[c].truth then 1 else 0) + (if s.conds[c].unordered then 2 else 0)]) ∧
    (∀ c : Fin 10, answers 5 (laneOf c.val) [s.faults.flags[c]]) ∧
    (∀ p : Fin 9, answers 6 (laneOf p.val) [s.pods[p].bits, if s.pods[p].known then 1 else 0]) ∧
    (let phase := fun (x : FlashSource) => match x.phase with
        | .idle => 0 | .setup => 1 | .on => 2 | .off => 3 | .trail => 4
     answers 7 0 [
      laneOf (phase s.flash.left + 8 * phase s.flash.right + 64 * phase s.flash.hazard),
      (if s.flash.left.failLeft then 1 else 0) + (if s.flash.right.failRight then 2 else 0)
        + (if s.flash.hazard.failLeft then 4 else 0) + (if s.flash.hazard.failRight then 8 else 0)]) ∧
    answers 8 0 [laneOf (s.faults.uptime / 4096), laneOf (s.faults.uptime % 4096)]

/-- COMMIT makes the marker invalid and answers at its completion, and is BUSY while a COMMIT reply is pending. That it writes the
image from the working tables whole at its start is the model's choice (log 19). COMMIT_COMPLETION leaves the marker valid exactly
when the image verified and answers OK or STOREFAIL to the requester it holds; a failed one reports STORE, and where that is a
raise no link names, the reply joins before the FAULT report (R165, R168, R182, R183). RESTART answers OK and waits for the
transmission of that reply, which is told apart in its queue (R184). -/
def Obligations.CommitsAndRestartsAreAnswered : Prop :=
  (∀ (s : State) (r : Requester) (lanes : List Lane), s.takesRequests → committing s = false →
    (commitReplyPending s.reports.list = true → exec (.commit r lanes) s = .next (answered s r 5 6 [])) ∧
    (commitReplyPending s.reports.list = false → exec (.commit r lanes) s = .next { s with
      store := { valid := false, image := s.tables }
      mgmt := { s.mgmt with service := .committing (.request r) } })) ∧
  (∀ (s : State) (verified : Bool), s.inReset = false → s.copiesMade →
    (committing s = false → exec (.commitCompletion verified) s = .next s) ∧
    (let u := { s with store := { s.store with valid := verified }, mgmt := { s.mgmt with service := .idle } }
     (∀ r, s.mgmt.service = .committing (.request r) →
      (verified = true → exec (.commitCompletion verified) s =
        .next (answeredWith true false (clearUnlatched .store 0 u) r 5 0 [])) ∧
      (verified = false → s.faults.isSet .store 0 = true ∨ s.tables.hub.detects .store = false →
        exec (.commitCompletion verified) s = .next (answeredWith true false u r 5 10 [])) ∧
      (verified = false → ∃ t, exec (.commitCompletion verified) s = .next t ∧
        t.faults.isSet .store 0 = (s.faults.isSet .store 0 || s.tables.hub.detects .store) ∧
        t.bystanders = u.bystanders ∧ t.conds = s.conds ∧ t.gauges = s.gauges) ∧
      (verified = false → s.faults.isSet .store 0 = false → s.tables.hub.detects .store = true →
        wakesMatrix s (.fault .store) = false → exec (.commitCompletion verified) s =
          .next (raisedAlone s u .store 0 0 fun w => answeredWith true false w r 5 10 []))) ∧
     (s.mgmt.service = .committing .teach →
      let w := { u with mgmt := { u.mgmt with teach := .idle } }
      (verified = true → exec (.commitCompletion verified) s = .next (afterNeed s (clearUnlatched .store 0 w))) ∧
      (verified = false → ∃ t, exec (.commitCompletion verified) s = .next t ∧
        t.faults.isSet .store 0 = (s.faults.isSet .store 0 || s.tables.hub.detects .store) ∧
        t.bystanders = w.bystanders ∧ t.conds = s.conds ∧ t.gauges = s.gauges)))) ∧
  (∀ (s : State) (r : Requester) (lanes : List Lane), s.takesRequests → committing s = false →
     exec (.restart r lanes) s =
       .next (answeredWith false true { s with mgmt := { s.mgmt with service := .restarting } } r 10 0 []))

/-- TEACH_HOLD_EXPIRY settles the TEACH line; a falling edge outside the lockout is a press, which starts the lockout: a first
press captures the empty reading and opens the window of 30 s, a second one at least 16 away replaces the curve's points,
resets the gauge and starts a commit of its own, and any other ends the sequence (R44, R185 to R187). A press needs a teach gauge
with a slot, FRESH with a reading, and a curve in service, and no commit in progress (R186). The reset clears an unlatched SENDER
flag, and the conditions on the gauge are evaluated with it unordered, their edges acting in turn (R68, R69, R130, R143, R145). That this commit writes the
image within the press is the model's choice (log 19), and so is that the gauge's output stays until the next modulator step
(log 31). -/
def Obligations.TeachPressesAct : Prop :=
  ∀ s : State, s.inReset = false →
    let pin := s.mgmt.pin
    let settled := { s with mgmt := { s.mgmt with pin := { pin := pin.pin, settled := some pin.pin, hold := none } } }
    let pressed := { settled with mgmt := { settled.mgmt with lockout := some 2000 } }
    (pin.hold = none → exec .teachHoldExpiry s = .next s) ∧
    (pin.hold ≠ none →
      (pin.settled ≠ some true ∨ pin.pin = true ∨ s.mgmt.lockout ≠ none ∨ s.mgmt.service = .restarting →
        exec .teachHoldExpiry s = .next settled) ∧
      (pin.settled = some true → pin.pin = false → s.mgmt.lockout = none → s.mgmt.service ≠ .restarting →
        (s.mgmt.teach = .committing → exec .teachHoldExpiry s = .next pressed) ∧
        (∀ (g : Fin 4) (k : Fin 16) (c : Fin 8), pressReady s g k c →
          let full := s.slots[k].value
          (s.mgmt.teach = .idle → exec .teachHoldExpiry s = .next (afterNeed s
            { pressed with mgmt := { pressed.mgmt with teach := .haveEmpty full, window := some 30000 } })) ∧
          (∀ empty : Lane, s.mgmt.teach = .haveEmpty empty →
            ((empty.toNat - full.toNat) + (full.toNat - empty.toNat) < 16 →
              exec .teachHoldExpiry s = .next (afterNeed s (teachEnded pressed))) ∧
            (16 ≤ (empty.toNat - full.toNat) + (full.toNat - empty.toNat) →
              let k0 : Point := if empty.toNat < full.toNat then ⟨empty.toNat, 0⟩ else ⟨full.toNat, 1000⟩
              let k1 : Point := if empty.toNat < full.toNat then ⟨full.toNat, 1000⟩ else ⟨empty.toNat, 0⟩
              let curve := { s.tables.curves[c] with
                count := 2, points := (s.tables.curves[c].points.set 0 k0).set 1 k1 }
              let tables := { s.tables with curves := s.tables.curves.set c curve }
              ∃ t, exec .teachHoldExpiry s = .next t ∧
                t.gauges = s.gauges.set g { s.gauges[g] with
                  state := .waiting, f := 0, p := 0, d := 0, underdrive := false, lastRaw := 4095 } ∧
                t.faults.isSet .sender g.val = (s.faults.isSet .sender g.val && s.tables.hub.latches .sender) ∧
                conditionsTake s t (fun kind index => decide (kind = .gauge ∧ index = g.val)) ∧ edgesMove s t ∧
                t.lessReports.lessLoads.lessConds = { pressed with
                  gauges := t.gauges, tables := tables, store := { valid := false, image := tables }
                  mgmt := { pressed.mgmt with
                    teach := .committing, window := none
                    service := .committing .teach } }.lessReports.lessLoads.lessConds))) ∧
        ((∀ g k c, ¬ pressReady s g k c) → s.mgmt.teach ≠ .committing →
          exec .teachHoldExpiry s = .next (afterNeed s (teachEnded pressed)))))

end
end

