-- ==== Sys2Proof/Laws/State.lean ====
section
/-! SUPPORT. The fields of the hub after each named update: what it leaves alone, field by field. -/

namespace Sys2Proof.Machine

/-! One port changed. -/

/-- The changed port reads back. -/
@[simp] theorem State.port_setPort (s : State) (p : PortId) (x : PortState) : (s.setPort p x).port p = x := by
  cases p <;> rfl

/-- The opposite port stands. -/
@[simp] theorem State.port_opposite_setPort (s : State) (p : PortId) (x : PortState) :
    (s.setPort p x).port p.opposite = s.port p.opposite := by
  cases p <;> rfl

/-- Writing a port back as it is changes nothing. -/
@[simp] theorem State.setPort_port (s : State) (p : PortId) : s.setPort p (s.port p) = s := by
  cases p <;> rfl

/-- The second of two writes of one port stays. -/
@[simp] theorem State.setPort_setPort (s : State) (p : PortId) (x y : PortState) :
    (s.setPort p x).setPort p y = s.setPort p y := by
  cases p <;> rfl

@[simp] theorem State.setPort_inReset (s : State) (p : PortId) (x : PortState) : (s.setPort p x).inReset = s.inReset := by
  cases p <;> rfl

@[simp] theorem State.setPort_node (s : State) (p : PortId) (x : PortState) : (s.setPort p x).node = s.node := by
  cases p <;> rfl

@[simp] theorem State.setPort_tables (s : State) (p : PortId) (x : PortState) : (s.setPort p x).tables = s.tables := by
  cases p <;> rfl

@[simp] theorem State.setPort_slots (s : State) (p : PortId) (x : PortState) : (s.setPort p x).slots = s.slots := by
  cases p <;> rfl

@[simp] theorem State.setPort_pods (s : State) (p : PortId) (x : PortState) : (s.setPort p x).pods = s.pods := by
  cases p <;> rfl

@[simp] theorem State.setPort_inputs (s : State) (p : PortId) (x : PortState) : (s.setPort p x).inputs = s.inputs := by
  cases p <;> rfl

@[simp] theorem State.setPort_conds (s : State) (p : PortId) (x : PortState) : (s.setPort p x).conds = s.conds := by
  cases p <;> rfl

@[simp] theorem State.setPort_outs (s : State) (p : PortId) (x : PortState) : (s.setPort p x).outs = s.outs := by
  cases p <;> rfl

@[simp] theorem State.setPort_flash (s : State) (p : PortId) (x : PortState) : (s.setPort p x).flash = s.flash := by
  cases p <;> rfl

@[simp] theorem State.setPort_gauges (s : State) (p : PortId) (x : PortState) : (s.setPort p x).gauges = s.gauges := by
  cases p <;> rfl

@[simp] theorem State.setPort_supply (s : State) (p : PortId) (x : PortState) : (s.setPort p x).supply = s.supply := by
  cases p <;> rfl

@[simp] theorem State.setPort_faults (s : State) (p : PortId) (x : PortState) : (s.setPort p x).faults = s.faults := by
  cases p <;> rfl

@[simp] theorem State.setPort_reports (s : State) (p : PortId) (x : PortState) : (s.setPort p x).reports = s.reports := by
  cases p <;> rfl

@[simp] theorem State.setPort_mgmt (s : State) (p : PortId) (x : PortState) : (s.setPort p x).mgmt = s.mgmt := by
  cases p <;> rfl

@[simp] theorem State.setPort_store (s : State) (p : PortId) (x : PortState) : (s.setPort p x).store = s.store := by
  cases p <;> rfl

@[simp] theorem State.setPort_choices (s : State) (p : PortId) (x : PortState) : (s.setPort p x).choices = s.choices := by
  cases p <;> rfl

@[simp] theorem State.setPort_pending (s : State) (p : PortId) (x : PortState) : (s.setPort p x).pending = s.pending := by
  cases p <;> rfl

/-! A clearing event of a flag (R162). -/

@[simp] theorem clearUnlatched_inReset (c : FaultClass) (i : Nat) (s : State) : (clearUnlatched c i s).inReset = s.inReset := by
  unfold clearUnlatched; split <;> rfl

@[simp] theorem clearUnlatched_node (c : FaultClass) (i : Nat) (s : State) : (clearUnlatched c i s).node = s.node := by
  unfold clearUnlatched; split <;> rfl

@[simp] theorem clearUnlatched_fore (c : FaultClass) (i : Nat) (s : State) : (clearUnlatched c i s).fore = s.fore := by
  unfold clearUnlatched; split <;> rfl

@[simp] theorem clearUnlatched_aft (c : FaultClass) (i : Nat) (s : State) : (clearUnlatched c i s).aft = s.aft := by
  unfold clearUnlatched; split <;> rfl

@[simp] theorem clearUnlatched_tables (c : FaultClass) (i : Nat) (s : State) : (clearUnlatched c i s).tables = s.tables := by
  unfold clearUnlatched; split <;> rfl

@[simp] theorem clearUnlatched_slots (c : FaultClass) (i : Nat) (s : State) : (clearUnlatched c i s).slots = s.slots := by
  unfold clearUnlatched; split <;> rfl

@[simp] theorem clearUnlatched_pods (c : FaultClass) (i : Nat) (s : State) : (clearUnlatched c i s).pods = s.pods := by
  unfold clearUnlatched; split <;> rfl

@[simp] theorem clearUnlatched_inputs (c : FaultClass) (i : Nat) (s : State) : (clearUnlatched c i s).inputs = s.inputs := by
  unfold clearUnlatched; split <;> rfl

@[simp] theorem clearUnlatched_conds (c : FaultClass) (i : Nat) (s : State) : (clearUnlatched c i s).conds = s.conds := by
  unfold clearUnlatched; split <;> rfl

@[simp] theorem clearUnlatched_outs (c : FaultClass) (i : Nat) (s : State) : (clearUnlatched c i s).outs = s.outs := by
  unfold clearUnlatched; split <;> rfl

@[simp] theorem clearUnlatched_flash (c : FaultClass) (i : Nat) (s : State) : (clearUnlatched c i s).flash = s.flash := by
  unfold clearUnlatched; split <;> rfl

@[simp] theorem clearUnlatched_gauges (c : FaultClass) (i : Nat) (s : State) : (clearUnlatched c i s).gauges = s.gauges := by
  unfold clearUnlatched; split <;> rfl

@[simp] theorem clearUnlatched_supply (c : FaultClass) (i : Nat) (s : State) : (clearUnlatched c i s).supply = s.supply := by
  unfold clearUnlatched; split <;> rfl

@[simp] theorem clearUnlatched_reports (c : FaultClass) (i : Nat) (s : State) : (clearUnlatched c i s).reports = s.reports := by
  unfold clearUnlatched; split <;> rfl

@[simp] theorem clearUnlatched_mgmt (c : FaultClass) (i : Nat) (s : State) : (clearUnlatched c i s).mgmt = s.mgmt := by
  unfold clearUnlatched; split <;> rfl

@[simp] theorem clearUnlatched_store (c : FaultClass) (i : Nat) (s : State) : (clearUnlatched c i s).store = s.store := by
  unfold clearUnlatched; split <;> rfl

@[simp] theorem clearUnlatched_choices (c : FaultClass) (i : Nat) (s : State) : (clearUnlatched c i s).choices = s.choices := by
  unfold clearUnlatched; split <;> rfl

@[simp] theorem clearUnlatched_pending (c : FaultClass) (i : Nat) (s : State) : (clearUnlatched c i s).pending = s.pending := by
  unfold clearUnlatched; split <;> rfl

@[simp] theorem clearUnlatched_faults_capture (c : FaultClass) (i : Nat) (s : State) :
    (clearUnlatched c i s).faults.capture = s.faults.capture := by
  unfold clearUnlatched; split <;> rfl

@[simp] theorem clearUnlatched_faults_lost (c : FaultClass) (i : Nat) (s : State) :
    (clearUnlatched c i s).faults.lost = s.faults.lost := by
  unfold clearUnlatched; split <;> rfl

@[simp] theorem clearUnlatched_faults_uptime (c : FaultClass) (i : Nat) (s : State) :
    (clearUnlatched c i s).faults.uptime = s.faults.uptime := by
  unfold clearUnlatched; split <;> rfl

/-! The drives recomputed (R96). -/

@[simp] theorem redriveAll_inReset (s : State) : (redriveAll s).inReset = s.inReset := by
  unfold redriveAll; rfl

@[simp] theorem redriveAll_node (s : State) : (redriveAll s).node = s.node := by
  unfold redriveAll; rfl

@[simp] theorem redriveAll_fore (s : State) : (redriveAll s).fore = s.fore := by
  unfold redriveAll; rfl

@[simp] theorem redriveAll_aft (s : State) : (redriveAll s).aft = s.aft := by
  unfold redriveAll; rfl

@[simp] theorem redriveAll_tables (s : State) : (redriveAll s).tables = s.tables := by
  unfold redriveAll; rfl

@[simp] theorem redriveAll_slots (s : State) : (redriveAll s).slots = s.slots := by
  unfold redriveAll; rfl

@[simp] theorem redriveAll_pods (s : State) : (redriveAll s).pods = s.pods := by
  unfold redriveAll; rfl

@[simp] theorem redriveAll_inputs (s : State) : (redriveAll s).inputs = s.inputs := by
  unfold redriveAll; rfl

@[simp] theorem redriveAll_conds (s : State) : (redriveAll s).conds = s.conds := by
  unfold redriveAll; rfl

@[simp] theorem redriveAll_flash (s : State) : (redriveAll s).flash = s.flash := by
  unfold redriveAll; rfl

@[simp] theorem redriveAll_gauges (s : State) : (redriveAll s).gauges = s.gauges := by
  unfold redriveAll; rfl

@[simp] theorem redriveAll_supply (s : State) : (redriveAll s).supply = s.supply := by
  unfold redriveAll; rfl

@[simp] theorem redriveAll_faults (s : State) : (redriveAll s).faults = s.faults := by
  unfold redriveAll; rfl

@[simp] theorem redriveAll_reports (s : State) : (redriveAll s).reports = s.reports := by
  unfold redriveAll; rfl

@[simp] theorem redriveAll_mgmt (s : State) : (redriveAll s).mgmt = s.mgmt := by
  unfold redriveAll; rfl

@[simp] theorem redriveAll_store (s : State) : (redriveAll s).store = s.store := by
  unfold redriveAll; rfl

@[simp] theorem redriveAll_choices (s : State) : (redriveAll s).choices = s.choices := by
  unfold redriveAll; rfl

@[simp] theorem redriveAll_pending (s : State) : (redriveAll s).pending = s.pending := by
  unfold redriveAll; rfl

/-! The drive of one output recomputed (R96). -/

@[simp] theorem redriveOne_inReset (o : Fin 12) (s : State) : (redriveOne o s).inReset = s.inReset := by
  unfold redriveOne; rfl

@[simp] theorem redriveOne_node (o : Fin 12) (s : State) : (redriveOne o s).node = s.node := by
  unfold redriveOne; rfl

@[simp] theorem redriveOne_fore (o : Fin 12) (s : State) : (redriveOne o s).fore = s.fore := by
  unfold redriveOne; rfl

@[simp] theorem redriveOne_aft (o : Fin 12) (s : State) : (redriveOne o s).aft = s.aft := by
  unfold redriveOne; rfl

@[simp] theorem redriveOne_tables (o : Fin 12) (s : State) : (redriveOne o s).tables = s.tables := by
  unfold redriveOne; rfl

@[simp] theorem redriveOne_slots (o : Fin 12) (s : State) : (redriveOne o s).slots = s.slots := by
  unfold redriveOne; rfl

@[simp] theorem redriveOne_pods (o : Fin 12) (s : State) : (redriveOne o s).pods = s.pods := by
  unfold redriveOne; rfl

@[simp] theorem redriveOne_inputs (o : Fin 12) (s : State) : (redriveOne o s).inputs = s.inputs := by
  unfold redriveOne; rfl

@[simp] theorem redriveOne_conds (o : Fin 12) (s : State) : (redriveOne o s).conds = s.conds := by
  unfold redriveOne; rfl

@[simp] theorem redriveOne_flash (o : Fin 12) (s : State) : (redriveOne o s).flash = s.flash := by
  unfold redriveOne; rfl

@[simp] theorem redriveOne_gauges (o : Fin 12) (s : State) : (redriveOne o s).gauges = s.gauges := by
  unfold redriveOne; rfl

@[simp] theorem redriveOne_supply (o : Fin 12) (s : State) : (redriveOne o s).supply = s.supply := by
  unfold redriveOne; rfl

@[simp] theorem redriveOne_faults (o : Fin 12) (s : State) : (redriveOne o s).faults = s.faults := by
  unfold redriveOne; rfl

@[simp] theorem redriveOne_reports (o : Fin 12) (s : State) : (redriveOne o s).reports = s.reports := by
  unfold redriveOne; rfl

@[simp] theorem redriveOne_mgmt (o : Fin 12) (s : State) : (redriveOne o s).mgmt = s.mgmt := by
  unfold redriveOne; rfl

@[simp] theorem redriveOne_store (o : Fin 12) (s : State) : (redriveOne o s).store = s.store := by
  unfold redriveOne; rfl

@[simp] theorem redriveOne_choices (o : Fin 12) (s : State) : (redriveOne o s).choices = s.choices := by
  unfold redriveOne; rfl

@[simp] theorem redriveOne_pending (o : Fin 12) (s : State) : (redriveOne o s).pending = s.pending := by
  unfold redriveOne; rfl

/-! The duties formed again (R139). -/

@[simp] theorem reformDuties_inReset (s : State) : (reformDuties s).inReset = s.inReset := by
  unfold reformDuties; rfl

@[simp] theorem reformDuties_node (s : State) : (reformDuties s).node = s.node := by
  unfold reformDuties; rfl

@[simp] theorem reformDuties_fore (s : State) : (reformDuties s).fore = s.fore := by
  unfold reformDuties; rfl

@[simp] theorem reformDuties_aft (s : State) : (reformDuties s).aft = s.aft := by
  unfold reformDuties; rfl

@[simp] theorem reformDuties_tables (s : State) : (reformDuties s).tables = s.tables := by
  unfold reformDuties; rfl

@[simp] theorem reformDuties_slots (s : State) : (reformDuties s).slots = s.slots := by
  unfold reformDuties; rfl

@[simp] theorem reformDuties_pods (s : State) : (reformDuties s).pods = s.pods := by
  unfold reformDuties; rfl

@[simp] theorem reformDuties_inputs (s : State) : (reformDuties s).inputs = s.inputs := by
  unfold reformDuties; rfl

@[simp] theorem reformDuties_conds (s : State) : (reformDuties s).conds = s.conds := by
  unfold reformDuties; rfl

@[simp] theorem reformDuties_outs (s : State) : (reformDuties s).outs = s.outs := by
  unfold reformDuties; rfl

@[simp] theorem reformDuties_flash (s : State) : (reformDuties s).flash = s.flash := by
  unfold reformDuties; rfl

@[simp] theorem reformDuties_supply (s : State) : (reformDuties s).supply = s.supply := by
  unfold reformDuties; rfl

@[simp] theorem reformDuties_faults (s : State) : (reformDuties s).faults = s.faults := by
  unfold reformDuties; rfl

@[simp] theorem reformDuties_reports (s : State) : (reformDuties s).reports = s.reports := by
  unfold reformDuties; rfl

@[simp] theorem reformDuties_mgmt (s : State) : (reformDuties s).mgmt = s.mgmt := by
  unfold reformDuties; rfl

@[simp] theorem reformDuties_store (s : State) : (reformDuties s).store = s.store := by
  unfold reformDuties; rfl

@[simp] theorem reformDuties_choices (s : State) : (reformDuties s).choices = s.choices := by
  unfold reformDuties; rfl

@[simp] theorem reformDuties_pending (s : State) : (reformDuties s).pending = s.pending := by
  unfold reformDuties; rfl

/-! A commit starts (R182). -/

@[simp] theorem startCommit_inReset (origin : CommitOrigin) (s : State) : (startCommit origin s).inReset = s.inReset := by
  unfold startCommit; rfl

@[simp] theorem startCommit_node (origin : CommitOrigin) (s : State) : (startCommit origin s).node = s.node := by
  unfold startCommit; rfl

@[simp] theorem startCommit_fore (origin : CommitOrigin) (s : State) : (startCommit origin s).fore = s.fore := by
  unfold startCommit; rfl

@[simp] theorem startCommit_aft (origin : CommitOrigin) (s : State) : (startCommit origin s).aft = s.aft := by
  unfold startCommit; rfl

@[simp] theorem startCommit_tables (origin : CommitOrigin) (s : State) : (startCommit origin s).tables = s.tables := by
  unfold startCommit; rfl

@[simp] theorem startCommit_slots (origin : CommitOrigin) (s : State) : (startCommit origin s).slots = s.slots := by
  unfold startCommit; rfl

@[simp] theorem startCommit_pods (origin : CommitOrigin) (s : State) : (startCommit origin s).pods = s.pods := by
  unfold startCommit; rfl

@[simp] theorem startCommit_inputs (origin : CommitOrigin) (s : State) : (startCommit origin s).inputs = s.inputs := by
  unfold startCommit; rfl

@[simp] theorem startCommit_conds (origin : CommitOrigin) (s : State) : (startCommit origin s).conds = s.conds := by
  unfold startCommit; rfl

@[simp] theorem startCommit_outs (origin : CommitOrigin) (s : State) : (startCommit origin s).outs = s.outs := by
  unfold startCommit; rfl

@[simp] theorem startCommit_flash (origin : CommitOrigin) (s : State) : (startCommit origin s).flash = s.flash := by
  unfold startCommit; rfl

@[simp] theorem startCommit_gauges (origin : CommitOrigin) (s : State) : (startCommit origin s).gauges = s.gauges := by
  unfold startCommit; rfl

@[simp] theorem startCommit_supply (origin : CommitOrigin) (s : State) : (startCommit origin s).supply = s.supply := by
  unfold startCommit; rfl

@[simp] theorem startCommit_faults (origin : CommitOrigin) (s : State) : (startCommit origin s).faults = s.faults := by
  unfold startCommit; rfl

@[simp] theorem startCommit_reports (origin : CommitOrigin) (s : State) : (startCommit origin s).reports = s.reports := by
  unfold startCommit; rfl

@[simp] theorem startCommit_choices (origin : CommitOrigin) (s : State) : (startCommit origin s).choices = s.choices := by
  unfold startCommit; rfl

@[simp] theorem startCommit_pending (origin : CommitOrigin) (s : State) : (startCommit origin s).pending = s.pending := by
  unfold startCommit; rfl

/-! A waiting teach sequence ends (R187). -/

@[simp] theorem cancelTeach_inReset (s : State) : (cancelTeach s).inReset = s.inReset := by
  unfold cancelTeach; split <;> rfl

@[simp] theorem cancelTeach_node (s : State) : (cancelTeach s).node = s.node := by
  unfold cancelTeach; split <;> rfl

@[simp] theorem cancelTeach_fore (s : State) : (cancelTeach s).fore = s.fore := by
  unfold cancelTeach; split <;> rfl

@[simp] theorem cancelTeach_aft (s : State) : (cancelTeach s).aft = s.aft := by
  unfold cancelTeach; split <;> rfl

@[simp] theorem cancelTeach_tables (s : State) : (cancelTeach s).tables = s.tables := by
  unfold cancelTeach; split <;> rfl

@[simp] theorem cancelTeach_slots (s : State) : (cancelTeach s).slots = s.slots := by
  unfold cancelTeach; split <;> rfl

@[simp] theorem cancelTeach_pods (s : State) : (cancelTeach s).pods = s.pods := by
  unfold cancelTeach; split <;> rfl

@[simp] theorem cancelTeach_inputs (s : State) : (cancelTeach s).inputs = s.inputs := by
  unfold cancelTeach; split <;> rfl

@[simp] theorem cancelTeach_conds (s : State) : (cancelTeach s).conds = s.conds := by
  unfold cancelTeach; split <;> rfl

@[simp] theorem cancelTeach_outs (s : State) : (cancelTeach s).outs = s.outs := by
  unfold cancelTeach; split <;> rfl

@[simp] theorem cancelTeach_flash (s : State) : (cancelTeach s).flash = s.flash := by
  unfold cancelTeach; split <;> rfl

@[simp] theorem cancelTeach_gauges (s : State) : (cancelTeach s).gauges = s.gauges := by
  unfold cancelTeach; split <;> rfl

@[simp] theorem cancelTeach_supply (s : State) : (cancelTeach s).supply = s.supply := by
  unfold cancelTeach; split <;> rfl

@[simp] theorem cancelTeach_faults (s : State) : (cancelTeach s).faults = s.faults := by
  unfold cancelTeach; split <;> rfl

@[simp] theorem cancelTeach_reports (s : State) : (cancelTeach s).reports = s.reports := by
  unfold cancelTeach; split <;> rfl

@[simp] theorem cancelTeach_store (s : State) : (cancelTeach s).store = s.store := by
  unfold cancelTeach; split <;> rfl

@[simp] theorem cancelTeach_choices (s : State) : (cancelTeach s).choices = s.choices := by
  unfold cancelTeach; split <;> rfl

@[simp] theorem cancelTeach_pending (s : State) : (cancelTeach s).pending = s.pending := by
  unfold cancelTeach; split <;> rfl

end Sys2Proof.Machine
end

