-- ==== Sys2Proof/Laws/Reports.lean ====
section
/-! SUPPORT. The report generator: copies are made as long as there is room (R16), and a reply that joins where every other
copy is made is on its way as `answeredWith` says (R172). -/

namespace Sys2Proof.Machine

/-- Where no report is pending for a port, there is none to copy. -/
theorem splitAtWanting_none (p : PortId) : ∀ l : List PendingReport, (∀ r ∈ l, r.wants p = false) → splitAtWanting p l = none
  | [], _ => rfl
  | r :: rs, h => by
    have hr := h r List.mem_cons_self
    have ih := splitAtWanting_none p rs fun x hx => h x (List.mem_cons_of_mem r hx)
    simp [splitAtWanting, hr, ih]

/-- The split is the list, cut at the first report pending for the port. -/
theorem splitAtWanting_some (p : PortId) : ∀ (a : List PendingReport) (x : PendingReport) (b : List PendingReport),
    (∀ r ∈ a, r.wants p = false) → x.wants p = true → splitAtWanting p (a ++ x :: b) = some (a, x, b)
  | [], x, b, _, hx => by simp [splitAtWanting, hx]
  | r :: rs, x, b, h, hx => by
    have hr := h r List.mem_cons_self
    have ih := splitAtWanting_some p rs x b (fun y hy => h y (List.mem_cons_of_mem r hy)) hx
    simp [splitAtWanting, hr, ih]

/-- A served port gets no copy. -/
theorem copyOne_none (p : PortId) (s : State) (h : s.portServed p) : copyOne p s = none := by
  unfold copyOne
  split
  · rename_i room
    simp [splitAtWanting_none p _ (h room)]
  · rfl

/-- With every copy made, no round does anything. -/
theorem copyReports_still (n : Nat) (s : State) (h : s.copiesMade) : copyReports n s = s := by
  cases n with
  | zero => rfl
  | succ n => simp [copyReports, copyOne_none .fore s h.1, copyOne_none .aft s h.2]

/-- The copy of the oldest report pending for a port with a free place. -/
theorem copyOne_some (p : PortId) (s : State) (a : List PendingReport) (x : PendingReport) (b : List PendingReport)
    (room : (s.port p).queue.length < 8) (hl : s.reports.list = a ++ x :: b) (ha : ∀ r ∈ a, r.wants p = false)
    (hx : x.wants p = true) :
    copyOne p s =
      let s1 := s.setPort p { s.port p with queue := (s.port p).queue ++ [reportRecord s x.body] }
      let x' := x.copied p s.reports.overrun
      some (if x'.done then afterLeaving x' { s1 with reports := { s1.reports with list := a ++ b } }
        else { s1 with reports := { s1.reports with list := a ++ x' :: b } }) := by
  simp only [copyOne, room, if_true, hl, splitAtWanting_some p a x b ha hx]
  split <;> rfl

/-- The first copy of a round, and the rounds after it. -/
theorem copyReports_first (n : Nat) (s t : State)
    (h : copyOne .fore s = some t ∨ (copyOne .fore s = none ∧ copyOne .aft s = some t)) :
    copyReports (n + 1) s = copyReports n t := by
  rcases h with h | ⟨h, h'⟩
  · simp [copyReports, h]
  · simp [copyReports, h, h']

/-- A reply that goes into its queue leaves the copies made. -/
theorem answeredWith_copiesMade (commit restart : Bool) (s : State) (r : Requester) (code status : Nat) (data : List Lane)
    (room : (s.port r.port).queue.length < 8) (h : s.copiesMade) :
    (answeredWith commit restart s r code status data).copiesMade := by
  obtain ⟨hf, ha⟩ := h
  obtain ⟨port, source, ticket⟩ := r
  unfold answeredWith
  rw [if_pos room]
  cases port
  · exact ⟨fun _ => hf room, ha⟩
  · exact ⟨hf, fun _ => ha room⟩

/-- The copy of a reply that has just joined. -/
theorem copyOne_reply (commit restart : Bool) (s : State) (r : Requester) (code status : Nat) (data : List Lane)
    (room : (s.port r.port).queue.length < 8) (h : s.copiesMade) :
    copyOne r.port { s with reports := { s.reports with
      list := s.reports.list ++ [replyReport r code status data commit restart] } } =
      some (answeredWith commit restart s r code status data) := by
  obtain ⟨hf, ha⟩ := h
  obtain ⟨port, source, ticket⟩ := r
  cases port
  · refine (copyOne_some .fore _ s.reports.list _ [] ?_ rfl (hf room) rfl).trans ?_
    · exact room
    · unfold answeredWith
      rw [if_pos room]
      simp only [List.append_nil]
      rfl
  · refine (copyOne_some .aft _ s.reports.list _ [] ?_ rfl (ha room) rfl).trans ?_
    · exact room
    · unfold answeredWith
      rw [if_pos room]
      simp only [List.append_nil]
      rfl

/-- A reply that has just joined is not pending for the other port. -/
theorem reply_wants (commit restart : Bool) (r : Requester) (code status : Nat) (data : List Lane) (p : PortId) :
    (replyReport r code status data commit restart).wants p = decide (r.port = p) := by
  cases p <;> rfl

/-- A reply joins a hub whose copies are made: it is in its queue, or waits at the end of the list. -/
theorem joinReport_reply (commit restart : Bool) (s : State) (r : Requester) (code status : Nat) (data : List Lane)
    (h : s.copiesMade) :
    joinReport (replyReport r code status data commit restart) s = answeredWith commit restart s r code status data := by
  have served : ∀ p, p ≠ r.port ∨ ¬ (s.port p).queue.length < 8 →
      State.portServed { s with reports := { s.reports with
        list := s.reports.list ++ [replyReport r code status data commit restart] } } p := by
    intro p hp room x hx
    have room' : (s.port p).queue.length < 8 := by cases p <;> exact room
    rcases List.mem_append.mp hx with hx | hx
    · cases p
      · exact h.1 room' x hx
      · exact h.2 room' x hx
    · rw [List.mem_singleton.mp hx, reply_wants]
      simpa [eq_comm] using hp.resolve_right fun f => f room'
  unfold joinReport
  by_cases room : (s.port r.port).queue.length < 8
  · rw [copyReports_first 15 _ (answeredWith commit restart s r code status data)]
    · exact copyReports_still 15 _ (answeredWith_copiesMade commit restart s r code status data room h)
    · have copied := copyOne_reply commit restart s r code status data room h
      cases hp : r.port
      · exact .inl (hp ▸ copied)
      · exact .inr ⟨copyOne_none .fore _ (served .fore (.inl (by simp [hp]))), hp ▸ copied⟩
  · have still : State.copiesMade { s with reports := { s.reports with
        list := s.reports.list ++ [replyReport r code status data commit restart] } } := by
      constructor
      · exact served .fore (by cases hp : r.port <;> simp_all)
      · exact served .aft (by cases hp : r.port <;> simp_all)
    rw [copyReports_still 16 _ still]
    unfold answeredWith
    rw [if_neg room]
    rfl

end Sys2Proof.Machine
end

