-- ==== Sys2Proof/Laws/Vec.lean ====
section
/-! SUPPORT. What reading a rewritten table gives, and what an open order of actions keeps. -/

namespace Sys2Proof.Machine

/-- Reading a tabulated table. -/
@[simp] theorem getElem_tabulate {α : Type} {n : Nat} (f : Fin n → α) (i : Nat) (h : i < n) :
    (tabulate f)[i] = f ⟨i, h⟩ := by
  simp [tabulate]

/-- Reading a tabulated table at an index of its own type. -/
@[simp] theorem getElem_tabulate_fin {α : Type} {n : Nat} (f : Fin n → α) (i : Fin n) : (tabulate f)[i] = f i := by
  simp [tabulate]

/-- Tabulating a table's own entries gives the table. -/
@[simp] theorem tabulate_getElem {α : Type} {n : Nat} (v : Vector α n) : tabulate (fun i => v[i]) = v := by
  ext i hi
  simp

/-- The changed entry of a table. -/
@[simp] theorem getElem_modifyAt_self {α : Type} {n : Nat} (v : Vector α n) (i : Fin n) (f : α → α) :
    (modifyAt v i f)[i] = f v[i] := by
  simp [modifyAt]

/-- Every other entry stands. -/
theorem getElem_modifyAt_ne {α : Type} {n : Nat} (v : Vector α n) (i j : Fin n) (f : α → α) (h : j ≠ i) :
    (modifyAt v i f)[j] = v[j] := by
  have : i.val ≠ j.val := fun e => h (Fin.ext e.symm)
  simp [modifyAt, this]

/-- All entries satisfy a test exactly when each one does. -/
theorem allOf_iff {α : Type} {n : Nat} (v : Vector α n) (p : α → Bool) : allOf v p = true ↔ ∀ i : Fin n, p v[i] = true := by
  simp only [allOf, List.all_eq_true, Vector.mem_toList_iff]
  constructor
  · intro h i
    exact h _ (Vector.getElem_mem i.isLt)
  · intro h x hx
    obtain ⟨i, hi, rfl⟩ := Vector.mem_iff_getElem.mp hx
    exact h ⟨i, hi⟩

/-- Some entry satisfies a test exactly when there is one. -/
theorem anyOf_iff {α : Type} {n : Nat} (v : Vector α n) (p : α → Bool) : anyOf v p = true ↔ ∃ i : Fin n, p v[i] = true := by
  simp only [anyOf, List.any_eq_true, Vector.mem_toList_iff]
  constructor
  · rintro ⟨x, hx, hp⟩
    obtain ⟨i, hi, rfl⟩ := Vector.mem_iff_getElem.mp hx
    exact ⟨⟨i, hi⟩, hp⟩
  · rintro ⟨i, hp⟩
    exact ⟨_, Vector.getElem_mem i.isLt, hp⟩

/-- Putting an element into a list keeps the others. -/
theorem insertNth_perm {α : Type} (a : α) : ∀ (k : Nat) (l : List α), (insertNth k a l).Perm (a :: l)
  | _, [] => List.Perm.refl _
  | k, b :: bs => by
    unfold insertNth
    split
    · exact List.Perm.refl _
    · exact ((insertNth_perm a (k - 1) bs).cons b).trans (List.Perm.swap a b bs)

/-- An open order is a rearrangement of the actions, whatever the choices. -/
theorem permute_perm {α : Type} (pick : Nat → Nat) : ∀ (n : Nat) (l : List α), (permute pick n l).Perm l
  | _, [] => List.Perm.refl _
  | n, a :: as => (insertNth_perm a _ _).trans ((permute_perm pick (n + 1) as).cons a)

/-- What each action keeps, a run of them keeps. -/
theorem runAll_keeps {σ : Type} (P : σ → Prop) : ∀ (acts : List (σ → σ)) (s : σ), (∀ f ∈ acts, ∀ t, P t → P (f t)) →
    P s → P (runAll acts s)
  | [], _, _, h => h
  | f :: fs, s, keeps, h => by
    have := runAll_keeps P fs (f s) (fun g hg => keeps g (List.mem_cons_of_mem f hg)) (keeps f List.mem_cons_self s h)
    simpa [runAll] using this

/-- What each action keeps, a run of them in an open order keeps. -/
theorem runAll_permute_keeps {σ : Type} (P : σ → Prop) (pick : Nat → Nat) (n : Nat) (acts : List (σ → σ)) (s : σ)
    (keeps : ∀ f ∈ acts, ∀ t, P t → P (f t)) (h : P s) : P (runAll (permute pick n acts) s) :=
  runAll_keeps P _ s (fun f hf => keeps f ((permute_perm pick n acts).mem_iff.mp hf)) h

end Sys2Proof.Machine
end

