-- ==== Sys2Proof/Laws/Events.lean ====
section
/-! SUPPORT. What the shared operations of an event leave alone: the action matrix changes only what links may change, the
condition unit its conditions beside, the report generator only reports and egress queues; and the end of an event. -/

namespace Sys2Proof.Machine

/-! The frame of an event. -/

/-- A running hub takes an event whole. -/
theorem event_running (f : Ev → Ev) (s : State) (h : s.inReset = false) : event f s = .next (wholeEvent f s) := by
  simp [event, h]

/-- A hub held in reset takes no event (R157). -/
theorem event_held (f : Ev → Ev) (s : State) (h : s.inReset = true) : event f s = .next s := by
  simp [event, h]

/-- An event that makes no reply and no FAULT report ends with the STATE need alone. -/
theorem wholeEvent_on (f : State → State) (s : State) : wholeEvent (Ev.on f) s = afterNeed s (f s) := rfl

/-- The light of a side as lane 1 shows it (R122). -/
theorem litShown_eq (f : FlashState) (d : Side) : litShown f d = f.lit d := by
  unfold litShown FlashState.lit FlashSource.active
  by_cases h : f.hazard.phase = .idle
  · cases d <;> simp only [h] <;> exact Bool.decide_or _ _
  · simp only [h, ne_eq, not_false_eq_true, if_true, decide_true]
    exact Bool.decide_or _ _

/-- The fail item of a side as lane 1 shows it (R128). -/
theorem failShown_eq (f : FlashState) (d : Side) : failShown f d = f.failItem d := by
  cases d <;> by_cases h : f.hazard.phase = .idle <;> simp [failShown, FlashState.failItem, FlashSource.active, h]

/-- The teach state as lane 1 shows it (R169). -/
theorem teachShown_eq (s : State) : teachShown s = s.mgmt.teach.code := by
  unfold teachShown TeachState.code
  cases s.mgmt.teach <;> rfl

/-- Where lane 0 and lane 1 content stands, there is no STATE need (R169). -/
theorem lanesChanged_self (s : State) : lanesChanged s s = false := by
  simp [lanesChanged]

/-- A report of the fault unit that raises nothing does nothing (R160). -/
theorem reportFault_ignored (c : FaultClass) (i value : Nat) (e : Ev)
    (h : e.st.faults.isSet c i = true ∨ e.st.tables.hub.detects c = false) : reportFault c i value e = e := by
  unfold reportFault
  rcases h with h | h <;> simp [h]

/-! The action matrix changes only loads, flasher, flags and the count of open orders. -/

/-- A clearing event of a flag is within what links may change. -/
@[simp] theorem clearUnlatched_lessLoads (c : FaultClass) (i : Nat) (s : State) :
    (clearUnlatched c i s).lessLoads = s.lessLoads := by
  unfold clearUnlatched
  split <;> rfl

/-- A demand-off is within what links may change. -/
@[simp] theorem demandOff_lessLoads (o : Fin 12) (s : State) : (demandOff o s).lessLoads = s.lessLoads := by
  simp only [demandOff, clearUnlatched_lessLoads]
  rfl

/-- The drives are within what links may change. -/
@[simp] theorem redriveAll_lessLoads (s : State) : (redriveAll s).lessLoads = s.lessLoads := rfl

/-- The verb on a lamp is within what links may change. -/
@[simp] theorem verbOnLamp_lessLoads (o : Fin 12) (releases : Bool) (v : Resolved) (s : State) :
    (verbOnLamp o releases v s).lessLoads = s.lessLoads := by
  unfold verbOnLamp
  simp only
  split
  · rw [demandOff_lessLoads]; rfl
  · rfl

/-- The verb on a fan is within what links may change. -/
@[simp] theorem verbOnFan_lessLoads (o : Fin 12) (v : Resolved) (s : State) :
    (verbOnFan o v s).lessLoads = s.lessLoads := by
  unfold verbOnFan
  simp only
  split
  · rw [demandOff_lessLoads]; rfl
  · rfl

/-- The verb on an output is within what links may change. -/
@[simp] theorem verbOnOutput_lessLoads (o : Fin 12) (v : Resolved) (s : State) :
    (verbOnOutput o v s).lessLoads = s.lessLoads := by
  unfold verbOnOutput
  split <;> simp

/-- A fold keeps what each of its steps keeps. -/
theorem foldl_keeps {α σ β : Type} (view : σ → β) (f : σ → α → σ) (keeps : ∀ t a, view (f t a) = view t) :
    ∀ (l : List α) (s : σ), view (l.foldl f s) = view s
  | [], _ => rfl
  | a :: l, s => by rw [List.foldl_cons, foldl_keeps view f keeps l, keeps]

/-- The verbs on the outputs are within what links may change. -/
@[simp] theorem applyOutputVerbs_lessLoads (verbs : Fin 15 → Option Resolved) (s : State) :
    (applyOutputVerbs verbs s).lessLoads = s.lessLoads := by
  unfold applyOutputVerbs
  apply foldl_keeps State.lessLoads
  intro t o
  split <;> simp

/-- The contexts handed over are within what links may change. -/
@[simp] theorem handContexts_lessLoads (before : Vector Bool 12) (new : FlashState) (s : State) :
    (handContexts before new s).lessLoads = s.lessLoads := by
  unfold handContexts
  simp only
  rw [foldl_keeps State.lessLoads]
  · rfl
  · intro t o
    split <;> simp

/-- The verbs on the pseudo-targets are within what links may change. -/
@[simp] theorem applyFlashVerbs_lessLoads (before : Vector Bool 12) (verbs : Fin 15 → Option Resolved) (s : State) :
    (applyFlashVerbs before verbs s).lessLoads = s.lessLoads := by
  simp [applyFlashVerbs]

/-- Actions in an open order keep what each keeps, the count of open orders apart. -/
theorem anyOrder_keeps {β : Type} (view : State → β) (acts : List (State → State)) (s : State)
    (counts : ∀ t n, view { t with choices := n } = view t) (keeps : ∀ f ∈ acts, ∀ t, view (f t) = view t) :
    view (anyOrder acts s) = view s := by
  match acts with
  | [] => rfl
  | [f] => exact keeps f (by simp) s
  | f :: g :: more =>
    refine runAll_permute_keeps (fun t => view t = view s) _ _ _ _ ?_ (counts s _)
    intro h hh t ht
    rw [keeps h hh t, ht]

/-- Actions that keep to what links may change, and the drives after them, keep to it. -/
theorem redriven_lessLoads (acts : List (State → State)) (s : State)
    (keeps : ∀ f ∈ acts, ∀ t, (f t).lessLoads = t.lessLoads) :
    (if acts.isEmpty then s else redriveAll (anyOrder acts s)).lessLoads = s.lessLoads := by
  split
  · rfl
  · rw [redriveAll_lessLoads]
    exact anyOrder_keeps State.lessLoads acts s (fun _ _ => rfl) keeps

/-- The hand-over of resolved verbs is within what links may change (R78). -/
@[simp] theorem handVerbs_lessLoads (verbs : Fin 15 → Option Resolved) (s : State) :
    (handVerbs verbs s).lessLoads = s.lessLoads := by
  unfold handVerbs
  apply redriven_lessLoads
  intro f hf t
  rcases List.mem_append.mp hf with hf | hf <;> split at hf <;> simp at hf <;> subst hf <;> simp

/-- A matrix event is within what links may change (R74). -/
@[simp] theorem matrixEvent_lessLoads (ev : MatrixEvent) (s : State) : (matrixEvent ev s).lessLoads = s.lessLoads := by
  simp [matrixEvent]

/-- An ORDER is within what links may change (R86). -/
@[simp] theorem orderEvent_lessLoads (tag : BitVec 4) (lane : Lane) (s : State) :
    (orderEvent tag lane s).lessLoads = s.lessLoads := by
  unfold orderEvent
  split
  · split <;> simp
  · rfl

/-- The condition unit changes its conditions and what links may change (R69). -/
theorem evalConds_lessLoads (affects : OperandKind → Nat → Bool) (s : State) :
    (evalConds affects s).lessLoads.lessConds = s.lessLoads.lessConds := by
  unfold evalConds
  simp only
  rw [foldl_keeps (fun t : State => t.lessLoads.lessConds)]
  · rfl
  · intro t ev
    rw [matrixEvent_lessLoads]

/-! The report generator changes only reports and egress queues. -/

/-- A written port is within what reports may change when its receiver and transmitter stand. -/
theorem setPort_queue_lessReports (s : State) (p : PortId) (q : List FrameRecord) :
    (s.setPort p { s.port p with queue := q }).lessReports = s.lessReports := by
  cases p <;> rfl

/-- What follows when a report leaves is within what reports may change. -/
@[simp] theorem afterLeaving_lessReports (r : PendingReport) (s : State) :
    (afterLeaving r s).lessReports = s.lessReports := by
  unfold afterLeaving
  split
  · rename_i all _
    cases all <;> simp only [Bool.false_eq_true, if_true, if_false] <;> split <;> rfl
  · rfl
  · rfl

/-- A copy is within what reports may change. -/
theorem copyOne_lessReports (p : PortId) (s t : State) (h : copyOne p s = some t) : t.lessReports = s.lessReports := by
  unfold copyOne at h
  split at h
  · split at h
    · exact absurd h (by simp)
    · simp only at h
      split at h <;> obtain rfl := Option.some.inj h
      · rw [afterLeaving_lessReports, ← setPort_queue_lessReports s p]
        rfl
      · rw [← setPort_queue_lessReports s p]
        rfl
  · exact absurd h (by simp)

/-- The copies are within what reports may change (R16). -/
@[simp] theorem copyReports_lessReports (n : Nat) (s : State) : (copyReports n s).lessReports = s.lessReports := by
  induction n generalizing s with
  | zero => rfl
  | succ n ih =>
    unfold copyReports
    split
    · rw [ih, copyOne_lessReports .fore s _ ‹_›]
    · split
      · rw [ih, copyOne_lessReports .aft s _ ‹_›]
      · rfl

/-- A STATE report that joins is within what reports may change. -/
@[simp] theorem joinState_lessReports (s : State) : (joinState s).lessReports = s.lessReports := by
  simp only [joinState, copyReports_lessReports]
  rfl

/-- Any report that joins is within what reports may change. -/
@[simp] theorem joinReport_lessReports (r : PendingReport) (s : State) : (joinReport r s).lessReports = s.lessReports := by
  simp only [joinReport, copyReports_lessReports]
  rfl

/-- A STATE need is within what reports may change (R170). -/
@[simp] theorem stateNeed_lessReports (s : State) : (stateNeed s).lessReports = s.lessReports := by
  unfold stateNeed
  split
  · simp
  · rfl
  · rfl

/-- The end of an event is within what reports may change (R168, R169). -/
@[simp] theorem finish_lessReports (before : State) (e : Ev) : (finish before e).lessReports = e.st.lessReports := by
  unfold finish
  simp only
  rw [foldl_keeps State.lessReports]
  · split <;> split <;> simp
  · intro t r
    simp

end Sys2Proof.Machine
end

