-- ==== Sys2Proof/Laws/Blocks.lean ====
section
/-! SUPPORT. What the shared operations of the blocks can do: damping, duties, slots, the flasher's settle, the fault unit,
pipeline runs and the hand-on of slots and of Vs, and the acceptance of a request. -/

namespace Sys2Proof.Machine

/-! The words of Safety.lean for outputs, slots and relay offers. -/

/-- A demand-off is the release of R104. -/
@[simp] theorem releasedIf_true (x : OutLive) : releasedIf true x = released x := rfl

@[simp] theorem releasedIf_false (x : OutLive) : releasedIf false x = x := rfl

/-- The drive of a LAMP or STOP output recomputed (R96, R97, R99). -/
theorem redrive_lamp (e : LoadEntry) (flash : FlashState) (ign : Bool) (shed : Nat) (x : OutLive)
    (h : e.kind = .lamp ∨ e.kind = .stop) :
    redrive e flash ign shed x = drivenAs (x.demand && domainAllows e ign && !isShed e shed) e.ramp e.mask x := by
  unfold redrive drivenAs wantsDrive softStarts driveOn driveOff windowWait rampDuty requested
  rcases h with h | h <;> by_cases r : e.ramp = 0 <;> simp [h, r, Nat.pos_iff_ne_zero]

/-- The operand kinds that an event of slots reaches on its own account (R68). -/
theorem affectsSlots_eq (changed : Fin 16 → Bool) (kind : OperandKind) (index : Nat) :
    affectsSlots changed kind index = slotChanged changed kind index := by
  unfold affectsSlots slotChanged
  congr 1
  by_cases h : index < 16
  · rw [dif_pos h, Bool.eq_iff_iff]
    simp only [List.any_eq_true, List.mem_finRange, true_and, Bool.and_eq_true, decide_eq_true_eq]
    exact ⟨fun c => ⟨_, rfl, c⟩, fun ⟨k, e, c⟩ => by subst e; exact c⟩
  · rw [dif_neg h, eq_comm, List.any_eq_false]
    intro k _ c
    simp only [Bool.and_eq_true, decide_eq_true_eq] at c
    omega

/-- A relay offer makes the change that offerMade names, and where it is discarded it reports EGRESS as well (R11, R15). -/
theorem offerRelay_made (p : PortId) (f : Frame) (e : Ev) :
    offerRelay p.opposite (relayed f) e =
      if offerHasRoom e.st p then e.on (offerMade p f)
      else reportFault .egress (portIndex p.opposite) 0 (e.on (offerMade p f)) := by
  by_cases h : offerHasRoom e.st p
  · simp only [offerRelay, offerMade, Ev.on, h, if_true]
    rfl
  · simp only [offerRelay, offerMade, Ev.on, h, if_false]

/-! Arithmetic of one channel. -/

/-- A damping step has the sign of the difference and is never longer (R135, R149). -/
theorem dampStep_within (k : Nat) (d : Int) :
    (0 ≤ d → 0 ≤ dampStep k d ∧ dampStep k d ≤ d) ∧ (d ≤ 0 → d ≤ dampStep k d ∧ dampStep k d ≤ 0) ∧
      (d ≠ 0 → dampStep k d ≠ 0) := by
  have two : ((2 : Int) ^ k) = ((2 ^ k : Nat) : Int) := by push_cast; rfl
  unfold dampStep
  simp only [two]
  obtain ⟨n, rfl | rfl⟩ := d.eq_nat_or_neg
  · have l : n / 2 ^ k ≤ n := Nat.div_le_self _ _
    rw [← Int.ofNat_tdiv]
    generalize n / 2 ^ k = q at l
    refine ⟨?_, ?_, ?_⟩ <;> intros <;> (repeat' split) <;> omega
  · have l : n / 2 ^ k ≤ n := Nat.div_le_self _ _
    rw [Int.neg_tdiv, ← Int.ofNat_tdiv]
    generalize n / 2 ^ k = q at l
    refine ⟨?_, ?_, ?_⟩ <;> intros <;> (repeat' split) <;> omega

/-- A damped value lies between the value held and its goal (R135, R149). -/
theorem damp_between (k held goal : Nat) : min held goal ≤ damp k held goal ∧ damp k held goal ≤ max held goal := by
  have h := dampStep_within k ((goal : Int) - held)
  unfold damp
  by_cases le : held ≤ goal
  · have := h.1 (by omega)
    omega
  · have := h.2.1 (by omega)
    omega

/-- Damping rests only at its goal (R135). -/
theorem damp_moves (k held goal : Nat) (h : held ≠ goal) : damp k held goal ≠ held := by
  have s := dampStep_within k ((goal : Int) - held)
  have n := s.2.2 (by omega)
  unfold damp
  by_cases le : held ≤ goal
  · have := s.1 (by omega)
    omega
  · have := s.2.1 (by omega)
    omega

/-- The duty of a target mean lies within 0 to 1024 (R138). -/
theorem compensate_le (vt vs : Nat) : (compensate vt vs).1 ≤ 1024 := by
  unfold compensate
  split
  · simp
  · simp only [not_lt] at *
    have : 0 < clampedVs vs := by unfold clampedVs; omega
    calc vt * 1024 / clampedVs vs ≤ clampedVs vs * 1024 / clampedVs vs := Nat.div_le_div_right (by omega)
      _ = 1024 := Nat.mul_div_cancel_left _ this

/-- Forming the duty changes D and UNDERDRIVE alone, and D stays within 0 to 1024 (R138, R139). -/
theorem formDuty_frame (e : GaugeEntry) (ign : Bool) (vs : Nat) (g : GaugeLive) :
    formDuty e ign vs g = { g with d := (formDuty e ign vs g).d, underdrive := (formDuty e ign vs g).underdrive } ∧
      (formDuty e ign vs g).d ≤ 1024 ∧ (ign = false → (formDuty e ign vs g).d = 0) := by
  unfold formDuty
  split
  · cases ign
    · exact ⟨rfl, by simp, fun _ => rfl⟩
    · exact ⟨rfl, compensate_le _ _, by simp⟩
  · exact ⟨rfl, by simp, fun _ => rfl⟩

/-- A run leaves the modulator's accumulator and output alone (R133, R140). -/
theorem gaugeRun_frame (t : Tables) (e : GaugeEntry) (ign : Bool) (vs : Nat) (r : Lane) (g : GaugeLive) :
    (gaugeRun t e ign vs r g).acc = g.acc ∧ (gaugeRun t e ign vs r g).out = g.out := by
  have h : (runPosition t e r g).acc = g.acc ∧ (runPosition t e r g).out = g.out := by
    unfold runPosition
    split
    · exact ⟨rfl, rfl⟩
    · split
      · unfold runNoReading applyPolicy
        split <;> (try split) <;> exact ⟨rfl, rfl⟩
      · exact ⟨rfl, rfl⟩
  unfold gaugeRun
  rw [(formDuty_frame e ign vs (runPosition t e r g)).1]
  exact h

/-! Slots. -/

/-- A slot takes a value as R47 says. -/
theorem slotAfter_eq (c : SlotConfig) (v : Option Lane) (x : SlotLive) : slotAfter c v x = slotTaking c v x := by
  cases v <;> rfl

/-- The slots an update leaves, before its hand-on (R47). -/
theorem updated_slots (vals : Fin 16 → Option Lane) (s : State) (k : Fin 16) :
    ({ s with slots := tabulate fun k => slotAfter s.tables.slots[k] (vals k) s.slots[k] } : State).slots[k] =
      slotTaking s.tables.slots[k] (vals k) s.slots[k] := by
  simp only [getElem_tabulate_fin, slotAfter_eq]

/-! The flasher. -/

/-- A source keeps its demand whatever its go signal does (R114). -/
@[simp] theorem turn_demand (t : Tables) (f : FaultState) (i : SourceId) (go : Bool) (x : FlashSource) :
    (turn t f i go x).demand = x.demand := by
  unfold turn goOn goOff enterOn FlashSource.toIdle
  cases go <;> cases x.phase <;> simp <;> split <;> rfl

/-- A source is active in SETUP, ON and OFF while its go signal is true (R115). -/
theorem turn_runs (t : Tables) (f : FaultState) (i : SourceId) (go : Bool) (x : FlashSource) :
    (turn t f i go x).runs = go := by
  unfold turn goOn goOff enterOn FlashSource.toIdle FlashSource.runs
  cases go <;> cases h : x.phase <;> simp [h]
  · cases (t.profileOf i).release <;> rfl
  · by_cases z : (t.profileOf i).setup.ms = 0 <;> simp [z]

/-- The settle keeps the three demands (R114, R119). -/
theorem settleFlash_demands (t : Tables) (faults : FaultState) (ign : Bool) (f : FlashState) :
    (settleFlash t faults ign f).hazard.demand = f.hazard.demand ∧
      (settleFlash t faults ign f).left.demand = f.left.demand ∧
      (settleFlash t faults ign f).right.demand = f.right.demand := by
  refine ⟨?_, ?_, ?_⟩ <;> simp only [settleFlash, turn_demand] <;> split <;> rfl

/-! The fault unit. -/

/-- An event whose actions come in an open order keeps what each action keeps, the count of open orders apart. -/
theorem anyOrderEv_keeps {β : Type} (view : State → β) (acts : List (Ev → Ev)) (e : Ev)
    (counts : ∀ t n, view { t with choices := n } = view t) (keeps : ∀ f ∈ acts, ∀ t, view (f t).st = view t.st) :
    view (anyOrderEv acts e).st = view e.st := by
  match acts with
  | [] => rfl
  | [f] => exact keeps f (by simp) e
  | f :: g :: more =>
    refine runAll_permute_keeps (fun t : Ev => view t.st = view e.st) _ _ _ _ ?_ (counts e.st _)
    intro h hh t ht
    rw [keeps h hh t, ht]

/-- A capture attempt with no FREE slot sets LOST and makes no report (R165). -/
theorem captureAttempt_full (c : FaultClass) (i value : Nat) (e : Ev) (h : freeSlot e.st.faults = none) :
    captureAttempt c i value e = { e with st := { e.st with faults := { e.st.faults with lost := true } } } := by
  unfold captureAttempt
  rw [h]

/-- A capture attempt fills the first FREE slot with its record, whose FAULT report joins at the end (R165). -/
theorem captureAttempt_free (c : FaultClass) (i value : Nat) (e : Ev) (slot : Fin 2) (h : freeSlot e.st.faults = some slot) :
    let record : CaptureRecord :=
      { cls := c, index := i, value := value, vs := e.st.supply.vs, uptime := e.st.faults.uptime }
    (captureAttempt c i value e).st.faults.capture[slot] = some record ∧
      (captureAttempt c i value e).faults = e.faults ++ [(slot, record)] ∧
      (captureAttempt c i value e).st.faults.flags = e.st.faults.flags ∧ (captureAttempt c i value e).reply = e.reply := by
  unfold captureAttempt
  rw [h]
  exact ⟨getElem_modifyAt_self _ _ _, rfl, rfl, rfl⟩

/-- What a capture attempt does to the slots and LOST, where the report that makes it is a raise (R160, R165). -/
theorem captureAttempt_captured (c : FaultClass) (i value : Nat) (e : Ev) (h : e.st.faults.isSet c i = false)
    (hd : e.st.tables.hub.detects c = true) :
    ((captureAttempt c i value e).st.faults.capture, (captureAttempt c i value e).st.faults.lost) = captured e.st c i value := by
  unfold captureAttempt captured freeSlot
  rw [h, hd]
  by_cases h0 : e.st.faults.capture[0] = none
  · simp only [h0]
    rfl
  · by_cases h1 : e.st.faults.capture[1] = none
    · simp only [h0, h1]
      rfl
    · simp [h0, h1]

/-- The value lane of the model is the manual's (R171, R180). -/
theorem captureValue_eq (r : CaptureRecord) : captureValue r = valueLane r := by
  unfold captureValue valueLane
  cases r.cls <;> rfl

/-- The FAULT report of a slot carries the lanes of its record (R171). -/
theorem faultReport_body (h : HubTable) (slot : Fin 2) (r : CaptureRecord) :
    (faultReport h slot r).body = .fault slot (reportLanes slot r) := by
  simp only [faultReport, faultLanes, captureValue_eq, reportLanes]

/-- Copies of a report change the queues alone (R16). -/
@[simp] theorem reportPut_lessReports (s : State) (f : Frame) : (reportPut s f).lessReports = s.lessReports := rfl

/-- A STATE report on its way changes queues and report generator alone (R170). -/
@[simp] theorem stateSent_lessReports (s : State) : (stateSent s).lessReports = s.lessReports := rfl

/-- A FAULT report on its way changes queues and report generator alone (R168). -/
@[simp] theorem faultSent_lessReports (slot : Fin 2) (r : CaptureRecord) (s : State) :
    (faultSent slot r s).lessReports = s.lessReports := by
  unfold faultSent
  simp only
  split <;> rfl

/-- The FAULT reports of an event join one after the other, each to the report port as it stands then (R168). -/
theorem finish_faults (before : State) (e : Ev) (l : List (Fin 2 × CaptureRecord)) (x : Fin 2 × CaptureRecord)
    (h : e.faults = l ++ [x]) :
    let t := finish before { e with faults := l }
    finish before e = joinReport (faultReport t.tables.hub x.1 x.2) t := by
  unfold finish
  rw [h, List.foldl_append]
  rfl

/-- A capture attempt never alters a HELD record (R164). -/
theorem captureAttempt_held (c : FaultClass) (i value : Nat) (e : Ev) (slot : Fin 2) (r : CaptureRecord)
    (h : e.st.faults.capture[slot] = some r) : (captureAttempt c i value e).st.faults.capture[slot] = some r := by
  unfold captureAttempt
  split
  · rename_i free hf
    have ne : slot ≠ free := by
      rintro rfl
      unfold freeSlot at hf
      split at hf
      · obtain rfl := Option.some.inj hf
        simp_all
      · split at hf
        · obtain rfl := Option.some.inj hf
          simp_all
        · exact absurd hf (by simp)
    simp only [getElem_modifyAt_ne _ _ _ _ ne]
    exact h
  · exact h

/-- A capture attempt is within what links may change. -/
@[simp] theorem captureAttempt_lessLoads (c : FaultClass) (i value : Nat) (e : Ev) :
    (captureAttempt c i value e).st.lessLoads = e.st.lessLoads := by
  unfold captureAttempt
  split <;> rfl

/-- The note of a raise changes the POD class alone (R58). -/
theorem noteRaise_other (c : FaultClass) (i : Nat) (s : State) (h : c ≠ .pod) : noteRaise c i s = s := by
  cases c <;> first | rfl | exact absurd rfl h

/-- The note of a raise changes `seen` of one pod alone. -/
theorem noteRaise_lessPods (c : FaultClass) (i : Nat) (s : State) :
    ({ noteRaise c i s with pods := s.pods } : State) = s := by
  cases c <;> simp only [noteRaise]
  split <;> rfl

/-- A report to the fault unit is within what links may change, but for the note that a POD raise makes (R160). -/
theorem reportFault_lessLoads (c : FaultClass) (i value : Nat) (e : Ev) (h : c ≠ .pod) :
    (reportFault c i value e).st.lessLoads = e.st.lessLoads := by
  unfold reportFault
  split
  · simp only [Ev.on, matrixEvent_lessLoads, captureAttempt_lessLoads, noteRaise_other _ _ _ h]
    rfl
  · rfl

/-- A capture attempt leaves the reply of its event alone. -/
@[simp] theorem captureAttempt_reply (c : FaultClass) (i value : Nat) (e : Ev) :
    (captureAttempt c i value e).reply = e.reply := by
  unfold captureAttempt
  split <;> rfl

/-- A report to the fault unit leaves the reply of its event alone. -/
@[simp] theorem reportFault_reply (c : FaultClass) (i value : Nat) (e : Ev) : (reportFault c i value e).reply = e.reply := by
  unfold reportFault
  split
  · simp [Ev.on]
  · rfl

/-! Runs and hand-ons. -/

/-- A view that leaves out what links may change, conditions and gauge channels. -/
def State.lessRuns (s : State) : State := s.lessLoads.lessConds.lessGauges

/-- The condition unit is within it. -/
theorem evalConds_lessRuns (affects : OperandKind → Nat → Bool) (s : State) : (evalConds affects s).lessRuns = s.lessRuns :=
  congrArg State.lessGauges (evalConds_lessLoads affects s)

/-- What keeps all but the loads keeps all but the runs. -/
theorem lessRuns_of_lessLoads {s t : State} (h : s.lessLoads = t.lessLoads) : s.lessRuns = t.lessRuns :=
  congrArg (fun u : State => u.lessConds.lessGauges) h

/-- The conditions of a gauge update are within it (R145). -/
theorem gaugeConds_lessRuns (g : Fin 4) (s : State) : ∀ f ∈ gaugeConds g s, ∀ t, (f t).st.lessRuns = t.st.lessRuns := by
  intro f hf t
  unfold gaugeConds at hf
  split at hf <;> simp at hf
  subst hf
  exact evalConds_lessRuns _ _

/-- A pipeline run changes channels, conditions and what links may change (R133, R145). -/
theorem runChannel_lessRuns (g : Fin 4) (r : Lane) (e : Ev) : (runChannel g r e).st.lessRuns = e.st.lessRuns := by
  unfold runChannel
  simp only
  rw [anyOrderEv_keeps State.lessRuns _ _ (fun _ _ => rfl)]
  · simp only
    split
    · rw [lessRuns_of_lessLoads (clearUnlatched_lessLoads _ _ _)]
      rfl
    · rfl
  · intro f hf t
    rcases List.mem_append.mp hf with hf | hf
    · exact gaugeConds_lessRuns g _ f hf t
    · split at hf <;> simp at hf
      subst hf
      exact lessRuns_of_lessLoads (reportFault_lessLoads _ _ _ _ (by decide))

/-- The hand-on of slots changes channels, conditions and what links may change (R49). -/
theorem handOnSlots_lessRuns (changed : Fin 16 → Bool) (e : Ev) : (handOnSlots changed e).st.lessRuns = e.st.lessRuns := by
  unfold handOnSlots
  simp only
  apply anyOrderEv_keeps State.lessRuns _ _ (fun _ _ => rfl)
  intro f hf t
  rcases List.mem_append.mp hf with hf | hf
  · split at hf <;> simp at hf
    subst hf
    exact evalConds_lessRuns _ _
  · obtain ⟨g, -, hg⟩ := List.mem_filterMap.mp hf
    split at hg
    · split at hg
      · obtain rfl := Option.some.inj hg
        exact runChannel_lessRuns _ _ _
      · exact absurd hg (by simp)
    · exact absurd hg (by simp)

/-- The hand-on of Vs changes the monitor's own part beside (R148). -/
theorem handOnVs_lessRuns (e : Ev) :
    (handOnVs e).st.lessRuns = ({ e.st with supply := monitorAtVs e.st.tables.hub e.st.supply } : State).lessRuns := by
  unfold handOnVs
  simp only
  rw [anyOrderEv_keeps State.lessRuns _ _ (fun _ _ => rfl)]
  · have clear : ∀ (b : Bool) (c : FaultClass) (t : State), (if b then clearUnlatched c 0 t else t).lessRuns = t.lessRuns := by
      intro b c t
      cases b
      · rfl
      · exact lessRuns_of_lessLoads (clearUnlatched_lessLoads c 0 t)
    show (reformDuties _).lessRuns = _
    rw [show ∀ t : State, (reformDuties t).lessRuns = t.lessRuns from fun _ => rfl, clear, clear]
  · intro f hf t
    rcases List.mem_append.mp hf with hf | hf
    · rcases List.mem_append.mp hf with hf | hf <;> split at hf <;> simp at hf <;> subst hf <;>
        exact lessRuns_of_lessLoads (reportFault_lessLoads _ _ _ _ (by decide))
    · split at hf <;> simp at hf
      subst hf
      exact evalConds_lessRuns _ _

/-! Requests. -/

/-- A request that is not accepted only sets MGMT-OVERRUN (R173). -/
theorem requestEvent_discarded (r : Requester) (code : Nat) (serve : Ev → Ev × Answer) (e : Ev)
    (h : acceptsRequest e.st = false) : requestEvent r code serve e = e.on setOverrun := by
  simp [requestEvent, h]

/-- A refused request changes nothing but that its reply joins (R174). -/
theorem requestEvent_refused (r : Requester) (code : Nat) (serve : Ev → Ev × Answer) (e : Ev) (status : Status)
    (h : acceptsRequest e.st = true) (refused : serve e = refuse status e) (bad : status ≠ .ok) :
    requestEvent r code serve e = { e with reply := some (replyReport r code status.code [] false false) } := by
  simp [requestEvent, h, refused, refuse, bad]

/-- A hub that takes requests accepts the next one. -/
theorem takesRequests_accepts (s : State) (h : s.takesRequests) : acceptsRequest s = true := by
  have serving := h.serving
  have free := h.free
  unfold acceptsRequest
  split <;> simp_all

end Sys2Proof.Machine
end

