-- ==== Sys2Proof/WellFormed.lean ====
section
/-! DEFINITION. Which commands the outside can really send: the ranges that the operands of a command keep. The
meanings are total and do not rest on this check (assumption log 4). -/

namespace Sys2Proof

/-- A request comes in a good MGMT frame: its source is a node number (R6) and, with the ticket in lane 0, it has at
most five further lanes (R6). -/
def requestOk (r : Requester) (lanes : List Lane) : Bool :=
  decide (r.source ≠ 15#4) && decide (lanes.length ≤ 5)

/-- A reset ends when the supply has risen above 5000 mV (R157). -/
def startOk (i : StartInputs) : Bool := decide (5000 < i.supply)

/-- A restart happens while the hub runs, so at a supply of at least 4500 mV (R157, R184). -/
def restartOk (i : StartInputs) : Bool := decide (4500 ≤ i.supply)

/-- The operand ranges of one command. -/
def Instr.wellFormed : Instr → Bool
  | .frameBoundary _ => true
  | .transmitStart _ => true
  | .transmissionCompletion _ i => restartOk i
  | .resetEntry => true
  | .resetEnd i => startOk i
  | .localSample _ _ _ _ => true
  | .slotAgeExpiry _ => true
  | .podTimeoutExpiry _ => true
  | .localPinChange _ _ => true
  | .debounceHoldExpiry _ => true
  | .currentSample _ _ => true
  | .softStartCount _ => true
  | .checkWindowOpen _ => true
  | .retryExpiry _ => true
  | .fanSlewStep => true
  | .stallExpiry _ => true
  | .phaseExpiry _ => true
  | .gapExpiry _ => true
  | .modulatorStep => true
  | .vsUpdate _ => true
  | .enterTimerExpiry => true
  | .restoreTimerExpiry => true
  | .uptimeTick => true
  | .refreshExpiry => true
  | .ident r l => requestOk r l
  | .read r l => requestOk r l
  | .write r l => requestOk r l
  | .curvePointWrite r _ _ _ => requestOk r []
  | .slotConfigWrite r _ _ _ => requestOk r []
  | .podTimeoutWrite r _ _ => requestOk r []
  | .conditionWrite r _ _ _ => requestOk r []
  | .loadEntryWrite r _ _ _ => requestOk r []
  | .gaugeEntryWrite r _ _ _ => requestOk r []
  | .detectMaskWrite r _ => requestOk r []
  | .refreshWrite r _ => requestOk r []
  | .teachGaugeWrite r _ => requestOk r []
  | .openCurve r l => requestOk r l
  | .closeCurve r l => requestOk r l
  | .commit r l => requestOk r l
  | .commitCompletion _ => true
  | .readLive r l => requestOk r l
  | .clearFaults r l => requestOk r l
  | .readCapture r l => requestOk r l
  | .releaseCapture r l => requestOk r l
  | .restart r l => requestOk r l
  | .teachPinChange _ => true
  | .teachHoldExpiry => true
  | .teachLockoutExpiry => true
  | .windowExpiry => true
  | .characterStart _ _ => true
  | .characterFault _ => true

end Sys2Proof
end

