-- ==== Sys2Proof/Tests/Slice0.lean ====
section
/-! SUPPORT. The author's own tests: ill-formed commands are refused by the checks of WellFormed, the manual's worked figures
come out, and every statement with hypotheses has a state that meets them. -/

namespace Sys2Proof.Tests

open Sys2Proof.Machine

-- One kernel evaluation at a time: side by side they take more memory than the check allows.
set_option Elab.async false

/-! Helpers. -/

/-- A requester on FORE with source 12 and ticket 1. -/
def asker : Requester := { port := .fore, source := 12, ticket := 1 }

/-- A hub at work: no flags, nothing queued, quiet lines. -/
def quiet : State :=
  { State.reset with
    fore := { PortState.reset with rx := .idle true }
    aft := { PortState.reset with rx := .idle true }
    faults := FaultState.reset }

/-- The hub after a command. -/
def after (c : Instr) (s : State) : State :=
  match exec c s with
  | .next t => t
  | .fault _ => s
  | .refused _ => s

/-- The hub after several commands. -/
def afterAll (cs : List Instr) (s : State) : State := cs.foldl (fun t c => after c t) s

/-- A frame from node 3 to all. -/
def frameOf (kind : FrameKind) (tag : BitVec 4) (lanes : List Lane) : Frame :=
  { kind := kind, hops := 7, source := 3, target := 15, tag := tag, cooked := false, lanes := lanes }

/-- A hub with a frame complete on FORE. -/
def holding (f : Frame) (s : State) : State := { s with fore := { s.fore with rx := .closing (encodeFrame f) } }

/-- A hub with one match entry, number 0, for every frame. -/
def matching (e : MatchEntry) (s : State) : State :=
  { s with tables := { s.tables with matches_ := s.tables.matches_.set 0 { e with valid := true } } }

/-- A hub with one load entry. -/
def loaded (o : Fin 12) (e : LoadEntry) (s : State) : State :=
  { s with tables := { s.tables with loads := s.tables.loads.set o e } }

/-- A hub with one output in a live state. -/
def outAt (o : Fin 12) (x : OutLive) (s : State) : State := { s with outs := s.outs.set o x }

/-- A driven output with its check window open. -/
def driven : OutLive := { OutLive.reset with demand := true, drive := true, duty := 100, window := .opened }

/-! WellFormed refuses what the outside cannot send. -/

theorem test_wellformed_reset_end : Instr.wellFormed (.resetEnd { straps := 0, supply := 5000 }) = false := by decide
theorem test_wellformed_restart_supply :
    Instr.wellFormed (.transmissionCompletion .fore { straps := 0, supply := 4499 }) = false := by decide
theorem test_wellformed_source : Instr.wellFormed (.ident { asker with source := 15 } []) = false := by decide
theorem test_wellformed_lanes : Instr.wellFormed (.write asker [1, 2, 3, 4, 5, 6]) = false := by decide
theorem test_wellformed_write_source : Instr.wellFormed (.refreshWrite { asker with source := 15 } 0) = false := by decide
theorem test_wellformed_accepts : Instr.wellFormed (.write asker [1, 2, 3, 4]) = true := by decide

/-! The manual's figures. -/

/-- The frame of R8's example, its check byte 0x39. -/
theorem test_crc_example : encodeFrame (frameOf .state 0 [5] |> fun f => { f with source := 2 }) =
    [0x3C, 0x2F, 0x01, 0x00, 0x50, 0x39] := by decide +kernel

/-- The same frame with one hop less has check byte 0xB6. -/
theorem test_crc_relayed : (encodeFrame { frameOf .state 0 [5] with source := 2, hops := 6 }).getLast? = some 0xB6 := by
  decide +kernel

/-- The points of the manual's fuel curve. -/
def fuel : Curve :=
  { Curve.default with
    count := 4
    points := #v[⟨200, 0⟩, ⟨1000, 250⟩, ⟨2200, 750⟩, ⟨3600, 1000⟩, ⟨0, 0⟩, ⟨0, 0⟩, ⟨0, 0⟩, ⟨0, 0⟩, ⟨0, 0⟩] }

/-- The readings of the fuel example (R38, R39). -/
theorem test_curve_example :
    [100, 200, 1000, 1800, 2500, 3600, 4000, 4095].map fuel.output = [0, 0, 250, 583, 804, 1000, 1000, 4095] := by
  decide +kernel

/-- From Vs 13800 a sample of 13000 gives 13700 (R149). -/
theorem test_vs_example :
    (after (.vsUpdate 13000) { quiet with supply := { quiet.supply with vs := 13800 } }).supply.vs = 13700 := by
  decide +kernel

/-- RESTART is answered with code 10 and status OK, lane 1 being 160 (R172, R184). -/
theorem test_restart_reply :
    (after (.restart { asker with ticket := 77 } []) quiet).fore.queue.map (fun r => r.frame.lanes) = [[77, 160]] := by
  decide +kernel

/-- The reset state is what a supply reset makes of a hub held in reset (log 6). -/
theorem test_reset_is_a_start : exec (.resetEnd { straps := 0, supply := 12600 }) (heldInReset State.reset) =
    .next State.reset := by
  have h : supplyReset { straps := 0, supply := 12600 } (heldInReset State.reset) = State.reset := by decide +kernel
  show Host.Outcome.next _ = _
  rw [if_pos (by decide +kernel), h]

/-- Straps of 15 give node 14 (R17). -/
theorem test_straps_of_15 : (supplyReset { straps := 15, supply := 12600 } quiet).node = 14 := by decide +kernel

/-- A trip of a lamp whose first sample is above Imax: TRIPPED, count 1, flag set (R101). -/
theorem test_trip :
    let s := after (.currentSample 4 1200) (outAt 4 driven (loaded 4 { LoadEntry.default with kind := .lamp, imax := 9000 } quiet))
    (s.outs[4].protection, s.outs[4].trips, s.outs[4].drive, s.faults.isSet .overload 4) = (.tripped, 1, false, true) := by
  decide +kernel

/-- An unknown pod's set bits rise, and the pod is known (R56). -/
theorem test_pod_update :
    let f := { frameOf .state 0 [5] with hops := 0 }
    let s := after (.frameBoundary .fore) (matching { MatchEntry.default with feed := .pod 3 } (holding f quiet))
    (s.pods[3].bits, s.pods[3].known, s.aft.queue.length) = (5, true, 0) := by decide +kernel

/-- A relay leaves with one hop less (R11). -/
theorem test_relay :
    (after (.frameBoundary .fore) (holding (frameOf .state 0 [5]) quiet)).aft.queue.map (fun r => r.frame.hops) = [6] := by
  decide +kernel

/-- A first soft-start count of 30: 25 + 75 / 30 gives 27 % (R97). -/
theorem test_soft_start :
    (after (.softStartCount 1) (outAt 1 { driven with softStart := some 0, duty := 25 }
      (loaded 1 { LoadEntry.default with kind := .lamp, ramp := 30 } quiet))).outs[1].duty = 27 := by decide +kernel

/-- A duty of 600 from an accumulator of 500 overflows, and 76 are left (R140). -/
theorem test_modulator :
    let s := after .modulatorStep { quiet with gauges := quiet.gauges.set 0 { GaugeLive.reset with d := 600, acc := 500 } }
    (s.gauges[0].out, s.gauges[0].acc) = (true, 76) := by decide +kernel

/-- A sample taken undriven is not checked, though a condition that reads it drives the output in the same event and its window
opens at once (R98, R99). -/
theorem test_undriven_sample :
    let lit : LinkEntry := { LinkEntry.default with valid := true, event := .cond, index := 0, edge := .rise, target := 4, verb := .on }
    let dim : CondEntry := { CondEntry.default with
      valid := true, aKind := .current, aIndex := 4, bKind := .const, bIndex := 50, predicate := .lt }
    let s := loaded 4 { LoadEntry.default with kind := .lamp, domain := .always, mask := 0, ramp := 0, imin := 100 } quiet
    let t := after (.currentSample 4 0) { s with
      tables := { s.tables with links := s.tables.links.set 0 lit, conds := s.tables.conds.set 0 dim } }
    (t.outs[4].drive, t.outs[4].window, t.faults.isSet .openLoad 4) = (true, .opened, false) := by decide +kernel

/-- A FAULT report goes where the report port points when it joins, not where it pointed at the raise (R168). -/
theorem test_fault_joins_at_the_new_port :
    let crowded := { quiet with aft := { quiet.aft with
      queue := List.replicate 8 { frame := frameOf .state 0 [5], note := .relay } } }
    let raised := captureAttempt .egress 1 0 (Ev.start crowded)
    let t := finish crowded (raised.on fun s =>
      { s with tables := { s.tables with hub := { s.tables.hub with reportPort := .fore } } })
    (t.fore.queue.map fun r => r.frame.tag, t.reports.list.length) = ([2], 0) := by decide +kernel

/-- The STATE frame of a hub on defaults with IGN on, shed level 2 and MGMT-OVERRUN set: lane 1 is 32 + 128 + 2048 (R169). -/
theorem test_state_lanes :
    (stateFrame { quiet with
      supply := { quiet.supply with ign := true, shed := 2 }, reports := { quiet.reports with overrun := true } }).lanes =
      [0, 2208, 4095, 4095, 4095, 4095] := by decide +kernel

/-! Witnesses: for each statement with hypotheses, a state and operands that meet them, and each clause's own. -/

/-- The quiet hub takes requests. -/
theorem quiet_takes : quiet.takesRequests := ⟨rfl, by decide, rfl, by decide⟩

/-- A commit runs, asked for by a request. -/
def storing : State := { quiet with mgmt := { quiet.mgmt with service := .committing (.request asker) } }

theorem storing_takes : storing.takesRequests := ⟨rfl, by decide, rfl, by decide⟩

/-- The service awaits the transmission of a RESTART reply at the head of FORE. -/
def leaving : State :=
  { quiet with
    fore := { quiet.fore with
      tx := .sending [], queue := [{ frame := replyFrame quiet asker 10 0 [], note := .restartReply }] }
    mgmt := { quiet.mgmt with service := .restarting } }

theorem witness_ResetEntryHoldsTheHub :
    quiet.inReset = false ∧ (heldInReset quiet).inReset = true ∧ (∀ i, Instr.uptimeTick ≠ .resetEnd i) ∧
    (∀ i l, Instr.uptimeTick ≠ .localPinChange i l) ∧ (∀ l, Instr.uptimeTick ≠ .teachPinChange l) :=
  ⟨rfl, rfl, by simp, by simp, by simp⟩

theorem witness_SupplyResetStartsTheHub :
    leaving.inReset = false ∧ (leaving.port .fore).isSending = true ∧ leaving.mgmt.service = .restarting ∧
    ((leaving.port .fore).queue.head?.map fun r => r.note) = some FrameNote.restartReply ∧
    (heldInReset quiet).inReset = true ∧ 5000 < 5001 ∧ quiet.store.valid = false ∧
    (supplyReset { straps := 0, supply := 5001 } quiet).tables.hub.reportPort = .both ∧
    (let t := supplyReset { straps := 0, supply := 5001 } quiet
     t.tables.hub.detects .undervolt = true ∧ t.supply.vs < t.tables.hub.uv ∧
       (supplyReset { straps := 0, supply := 20000 } quiet).tables.hub.ov < 20000 ∧
       ({ quiet.tables.hub with reportPort := .aft } : HubTable).reportPort = .aft) := by decide +kernel

/-- A state with a command waiting, from which a step is made. -/
def busy : State := { State.reset with pending := [.uptimeTick] }

/-- A step from it. -/
theorem busy_steps : ∃ t, step busy = .next t := ⟨_, rfl⟩

theorem witness_QueuesAndCopiesStayInStep : busy.queuesBounded ∧ busy.copiesMade ∧ ∃ t, step busy = .next t :=
  ⟨by decide +kernel, by decide +kernel, busy_steps⟩
theorem witness_PendingListStaysBounded : busy.pendingBounded ∧ ∃ t, step busy = .next t :=
  ⟨⟨by decide, by decide, by decide, by decide, by decide +kernel, by decide, by decide⟩, busy_steps⟩
theorem witness_TablesStayLegal : busy.tablesLegal ∧ ∃ t, step busy = .next t := ⟨by decide +kernel, busy_steps⟩
theorem witness_GaugesStayBounded : (busy.tablesLegal ∧ busy.gaugesBounded) ∧ ∃ t, step busy = .next t :=
  ⟨by decide +kernel, busy_steps⟩
theorem witness_UndetectedFlagsStayClear : busy.undetectedClear ∧ ∃ t, step busy = .next t :=
  ⟨by decide +kernel, busy_steps⟩
theorem witness_ProtectionStaysSound : busy.protectionSound ∧ ∃ t, step busy = .next t := ⟨by decide +kernel, busy_steps⟩
theorem witness_FlasherStaysSettled : busy.flasherSound ∧ ∃ t, step busy = .next t := ⟨by decide +kernel, busy_steps⟩
theorem witness_CommitAndTeachStayInStep : busy.commitSound = true ∧ ∃ t, step busy = .next t :=
  ⟨by decide +kernel, busy_steps⟩

theorem witness_TablesStandWhileCommitting :
    committing storing = true ∧ storing.inReset = false ∧ Instr.uptimeTick ≠ .resetEntry ∧
    ∃ t, exec .uptimeTick storing = .next t := ⟨rfl, rfl, by decide, _, rfl⟩

theorem witness_HeldRecordsStand :
    State.reset.faults.capture[(0 : Fin 2)] = some State.resetRecord ∧
    { quiet with faults := { quiet.faults with capture := #v[none, some State.resetRecord] } }.faults.capture[(1 : Fin 2)] =
      some State.resetRecord ∧ (∃ t, exec .uptimeTick State.reset = .next t) ∧
    ([(1 : Lane)].head?.map fun l => l.toNat) ≠ some (0 : Fin 2).val ∧
    ([(7 : Lane), 1][1]?.map fun l => l.toNat) ≠ some (0 : Fin 2).val ∧
    ((State.reset.port .fore).queue.head?.map fun x => x.note) ≠ some FrameNote.restartReply ∧
    ∃ t, exec (.releaseCapture asker [1]) State.reset = .next t :=
  ⟨rfl, rfl, ⟨_, rfl⟩, by decide, by decide, by decide +kernel, _, rfl⟩

theorem witness_EveryCommandAnswersAndKeepsTheQueue :
    (after (.resetEnd { straps := 15, supply := 5001 }) (heldInReset quiet)).node ≠ quiet.node ∧
    (after (.transmissionCompletion .fore { straps := 3, supply := 5001 }) leaving).node ≠ leaving.node := by decide +kernel

theorem witness_CharactersMoveTheReceiver :
    (quiet.port .fore).rx = .idle true ∧ (State.reset.port .aft).rx = .idle false ∧
    (({ quiet with fore := { quiet.fore with rx := .receiving [0x3C] } } : State).port .fore).rx = .receiving [0x3C] ∧
    [(0x3C : Byte)].length < 2 ∧ [(0x3C : Byte), 0x2F].length = 2 ∧
    [(0x3C : Byte), 0x2F, 0x01, 0x00, 0x50][2]? = some 1 ∧ lengthOfLanes ((1 : Byte).toNat % 8) = some 6 ∧
    lengthOfLanes ((0xF : Byte).toNat % 8) = none ∧
    [(0x3C : Byte), 0x2F, 0x01, 0x00].length + 1 < 6 ∧ [(0x3C : Byte), 0x2F, 0x01, 0x00, 0x50].length + 1 = 6 ∧
    ((holding (frameOf .state 0 [5]) quiet).port .fore).rx = .closing (encodeFrame (frameOf .state 0 [5])) ∧
    (({ quiet with aft := { quiet.aft with rx := .discarding } } : State).port .aft).rx = .discarding := by decide +kernel

theorem witness_SentFramesAreReadBack :
    (frameOf .sample 2 [1, 2, 3, 4]).source ≠ 15 ∧ (frameOf .sample 2 [1, 2, 3, 4]).lanesLegal ∧
    (frameOf .report 2 [1, 2, 3, 4, 5, 6]).lanesLegal ∧ (frameOf .state 0 [5]).lanesLegal := by
  refine ⟨by decide, ?_, ?_, ?_⟩ <;> unfold Frame.lanesLegal frameOf <;> decide

theorem witness_FramesAreLaidOutInBytes :
    (frameOf .sample 2 [1, 2, 3]).lanesLegal ∧ (frameOf .sample 2 [1, 2, 3]).lanes[2]? = some 3 ∧ 11 < 12 ∧
    (frameOf .sample 2 [1, 2, 3]).lanes.length % 2 = 1 ∧
    parseFrame [0x3C, 0x2F, 0x01, 0x00, 0x50, 0x39] = some { frameOf .state 0 [5] with source := 2 } ∧
    parseFrame [0x3C, 0x2F, 0x01, 0x00, 0x50, 0x38] = none ∧ checkByte [0x3C, 0x2F, 0x01, 0x00, 0x50] = 0x39 ∧
    (let closed := fun (bytes : List Byte) => parseFrame (bytes ++ [BitVec.ofNat 8 (checkByte bytes)])
     closed [0x3F, 0x2F, 0x01, 0x00, 0x5F] = some { frameOf .state 0 [5] with source := 2 } ∧
       closed [0x1C, 0x2F, 0x01, 0x00, 0x50] = none ∧ closed [0xDC, 0x2F, 0x01, 0x00, 0x50] = none ∧
       closed [0x3C, 0xFF, 0x01, 0x00, 0x50] = none ∧ closed [0x3C, 0x2F, 0x00] = none ∧
       closed [0x3C, 0x2F, 0x02, 0x00, 0x50, 0x00] = none ∧ lengthOfLanes 0 = some 4) := by
  refine ⟨?_, by decide, by decide, by decide, by decide +kernel, by decide +kernel, by decide +kernel, by decide +kernel⟩
  unfold Frame.lanesLegal frameOf
  decide

/-- Eight records queued on FORE, the head being sent. -/
def full : State :=
  { quiet with fore := { quiet.fore with
      tx := .sending [], queue := List.replicate 8 { frame := frameOf .state 0 [5], note := .relay } } }

/-- A STATE report waits for the full FORE alone. -/
def waiting : State :=
  { full with reports := { full.reports with list := [{ body := .state false true, toFore := true, toAft := false }] } }

theorem witness_FramesAreSentFromTheHead :
    (State.reset.port .fore).tx = .waiting ∧ (State.reset.port .fore).queue ≠ [] ∧ (full.port .fore).isSending = true ∧
    (quiet.port .fore).queue = [] ∧ full.copiesMade ∧ completesRestart .fore full = false ∧
    (∀ r ∈ full.reports.list, r.wants .fore = false) ∧ waiting.copiesMade ∧ (waiting.port .fore).queue.length = 8 ∧
    waiting.reports.list = [] ++ { body := .state false true, toFore := true, toAft := false } :: [] ∧
    waiting.reports.held = false ∧ completesRestart .fore waiting = false ∧
    (let s : State := { waiting with
        aft := full.fore
        reports := { waiting.reports with
          list := [{ body := .state true true, toFore := true, toAft := false }], held := true } }
     s.copiesMade ∧ s.reports.list = [] ++ { body := .state true true, toFore := true, toAft := false } :: [] ∧
       ({ body := .state true true, toFore := true, toAft := false } : PendingReport).wants .aft = false ∧
       s.reports.held = true ∧ (s.port PortId.fore.opposite).queue.length = 8 ∧
       ({ s with aft := quiet.aft }.port PortId.fore.opposite).queue.length < 8) := by decide +kernel

theorem witness_BadFramesReachNoBlock :
    let s : State := { quiet with fore := { quiet.fore with rx := .discarding } }
    s.inReset = false ∧ (quiet.port .fore).rx = .idle true ∧ s.badFrame .fore = true ∧ s.faults.isSet .link 0 = false ∧
    s.tables.hub.detects .link = true ∧ wakesMatrix s (.fault .link) = false ∧ s.copiesMade ∧
    ({ s with faults := s.faults.setFlag .link 0 } : State).faults.isSet .link 0 = true := by decide +kernel

/-- A frame that no entry of the defaults matches. -/
theorem unmatched (f : Frame) (i : Fin 32) : ¬ keyedOn quiet.tables.matches_[i] .fore f := by
  have h : ∀ i : Fin 32, quiet.tables.matches_[i].valid = false := by decide +kernel
  exact fun k => absurd k.1 (by rw [h i]; decide)

theorem witness_UnmatchedFramesPassOn :
    let s := holding (frameOf .state 0 [5]) quiet
    s.arriving .fore = some (frameOf .state 0 [5]) ∧ ¬ forThisHub s (frameOf .state 0 [5]) ∧
    (∀ i : Fin 32, ¬ keyedOn s.tables.matches_[i] .fore (frameOf .state 0 [5])) ∧
    (s.port PortId.fore.opposite).queue.length < 8 ∧ (frameOf .state 0 [5]).hops ≠ 0 ∧
    (full.port PortId.aft.opposite).queue.length = 8 ∧
    s.faults.isSet .egress 1 = false ∧ s.tables.hub.detects .egress = true ∧ wakesMatrix s (.fault .egress) = false ∧
    s.copiesMade := by
  refine ⟨by decide +kernel, ?_, unmatched _, by decide +kernel, by decide, by decide, by decide +kernel, by decide +kernel,
    by decide +kernel, by decide +kernel⟩
  unfold forThisHub
  decide

/-- An entry with all keys ANY and a feed, in place 0 of the quiet hub, decides any frame but a MGMT one. -/
theorem decided (e : MatchEntry) (p : PortId) (f : Frame) (hv : e.valid = true) (h : e.kindKey = none)
    (h' : e.sourceKey = none) (h'' : e.tagKey = none) (h''' : e.portKey = none) (hk : f.kind ≠ .mgmt) :
    decidedBy (holding f (matching e quiet)) p f e := by
  refine ⟨fun k => hk k.1, 0, ?_, ⟨hv, .inl h, .inl h', .inl h'', .inl h'''⟩, fun j hj => absurd hj (by omega)⟩
  show (quiet.tables.matches_.set 0 { e with valid := true })[0] = e
  cases e
  simp_all

/-- The entry used by the witnesses below. -/
def entry (d : Disposition) (feed : Feed) : MatchEntry := { MatchEntry.default with valid := true, disposition := d, feed := feed }

theorem witness_DispositionsDecideTheRelay :
    let f := frameOf .sample 2 [1, 2]
    let s := holding f (matching (entry .cook .none) quiet)
    s.arriving .fore = some f ∧ decidedBy s .fore f (entry .cook .none) ∧ (entry .cook .none).feed = .none ∧
    f.hops ≠ 0 ∧ (s.port PortId.fore.opposite).queue.length < 8 ∧
    decidedBy (holding f (matching (entry .drop .none) quiet)) .fore f (entry .drop .none) ∧
    feedFits .none f.kind = false ∧ feedFits (.pod 7) f.kind = false ∧ feedFits .obey f.kind = false ∧
    feedFits .slots FrameKind.state = false ∧
    decidedBy (holding f (matching (entry .pass (.pod 7)) quiet)) .fore f (entry .pass (.pod 7)) ∧
    (let t : State := { s with aft := { s.aft with queue := List.replicate 8 { frame := f, note := .relay } } }
     8 ≤ (t.port PortId.fore.opposite).queue.length ∧ t.faults.isSet .egress (portIndex PortId.fore.opposite) = false ∧
       t.tables.hub.detects .egress = true ∧ wakesMatrix t (.fault .egress) = false ∧ t.copiesMade) :=
  ⟨by decide +kernel, decided _ _ _ rfl rfl rfl rfl rfl (by decide), rfl, by decide, by decide +kernel,
    decided _ _ _ rfl rfl rfl rfl rfl (by decide), by decide, by decide, by decide, by decide,
    decided _ _ _ rfl rfl rfl rfl rfl (by decide), by decide +kernel⟩

/-- A hub with its AFT queue full. -/
def jammed (s : State) : State :=
  { s with aft := { s.aft with queue := List.replicate 8 { frame := frameOf .report 0 [1], note := .relay } } }

theorem witness_StateFramesUpdateThePod :
    let f := { frameOf .state 0 [5] with hops := 0 }
    let s := holding f (matching (entry .pass (.pod 7)) quiet)
    s.arriving .fore = some f ∧ decidedBy s .fore f (entry .pass (.pod 7)) ∧ f.kind = .state ∧ f.lanes = [5] ∧ f.hops = 0 ∧
    LoadKind.lamp.switched = true ∧
    (let g := frameOf .state 0 [5]
     decidedBy (holding g (matching (entry .pass (.pod 7)) quiet)) .fore g (entry .pass (.pod 7)) ∧ g.hops ≠ 0 ∧
       (entry .pass (.pod 7)).disposition ≠ .drop ∧ (quiet.port PortId.fore.opposite).queue.length < 8 ∧
       offerRaises (jammed quiet) .fore true = true ∧ offerQuiet (jammed quiet) .fore true ∧
       offerRaises quiet .fore true = false ∧ offerRaises (jammed quiet) .fore false = false) :=
  ⟨by decide +kernel, decided _ _ _ rfl rfl rfl rfl rfl (by decide), rfl, rfl, rfl, rfl,
    decided _ _ _ rfl rfl rfl rfl rfl (by decide), by decide, by decide, by decide, by decide +kernel, by decide +kernel,
    by decide +kernel, by decide +kernel⟩

theorem witness_SampleFramesUpdateTheSlots :
    let f := frameOf .sample 2 [1, 2]
    let s := holding f (matching (entry .cook .slots) quiet)
    s.arriving .fore = some f ∧ decidedBy s .fore f (entry .cook .slots) ∧ (entry .cook .slots).feed = .slots ∧
    laneTaken { SlotConfig.default with binding := .link, node := 3, tag := 2, lane := 1 } f f = some 2 ∧
    laneTaken { SlotConfig.default with binding := .link, node := 3, tag := 2, lane := 3 } f f = none ∧
    offerRaises (jammed s) .fore true = true ∧ offerQuiet (jammed s) .fore true ∧
    (∀ g : Fin 4, runsIn (jammed s) (fun k => decide (k = 15)) g = false) :=
  ⟨by decide +kernel, decided _ _ _ rfl rfl rfl rfl rfl (by decide), rfl, by decide, by decide, by decide +kernel, by decide +kernel,
    by decide +kernel⟩

theorem witness_OrdersActOnTheirTarget :
    let f := { frameOf .order 11 [1028] with target := 0 }
    let s := holding f (matching (entry .pass .obey) quiet)
    s.arriving .fore = some f ∧ decidedBy s .fore f (entry .pass .obey) ∧ f.target = s.node ∧ f.lanes = [1028] ∧
    f.tag.toNat = (11 : Fin 12).val ∧ s.tables.loads[(11 : Fin 12)].ordersAllowed = false ∧
    s.tables.hub.ordersToFlasher = false ∧ (12 : BitVec 4).toNat = 12 ∧
    (loaded 11 { LoadEntry.default with ordersAllowed := true } s).tables.loads[(11 : Fin 12)].ordersAllowed = true ∧
    (1028 : Lane).toNat / 256 = 4 ∧ (1028 : Lane).toNat % 256 ≤ 4 ∧ ¬ (1029 : Lane).toNat % 256 ≤ 4 ∧
    ({ f with target := 1 }.target ≠ s.node ∧ { f with target := 1 }.target ≠ 15) ∧
    (let g := frameOf .order 11 [1028]
     decidedBy (holding g (matching (entry .pass .obey) quiet)) .fore g (entry .pass .obey) ∧ g.target = 15 ∧ g.hops ≠ 0 ∧
       (quiet.port PortId.fore.opposite).queue.length < 8 ∧ (entry .pass .obey).disposition ≠ .drop ∧
       offerRaises (jammed s) .fore true = true ∧ wakesMatrix (jammed s) (.fault .egress) = false ∧ (jammed s).copiesMade ∧
       ((jammed s).faults.setFlag .egress 1).isSet .egress 1 = true) :=
  ⟨by decide +kernel, decided _ _ _ rfl rfl rfl rfl rfl (by decide), by decide +kernel, rfl, by decide, by decide +kernel,
    by decide +kernel, by decide, by decide +kernel, by decide, by decide, by decide, by decide +kernel,
    decided _ _ _ rfl rfl rfl rfl rfl (by decide), by decide, by decide, by decide, by decide, by decide +kernel⟩

theorem witness_MgmtFramesAreTheRequestRows :
    let f := { frameOf .mgmt 10 [7] with target := 0 }
    (holding f quiet).arriving .fore = some f ∧ f.target = (holding f quiet).node ∧
    rowOfCode f.tag.toNat asker [] = some (.restart asker []) ∧ (holding f quiet).takesRequests ∧
    11 ≤ ({ f with tag := 11 } : Frame).tag.toNat ∧
    (let g := frameOf .mgmt 10 [7]
     (holding g quiet).arriving .fore = some g ∧ g.target ≠ quiet.node ∧ g.target = 15 ∧ g.hops ≠ 0 ∧
       ((holding g quiet).port PortId.fore.opposite).queue.length < 8 ∧
       (holding g quiet).faults.isSet .egress (portIndex PortId.fore.opposite) = false ∧
       offerRaises (holding g quiet) .fore true = false) :=
  ⟨by decide +kernel, by decide +kernel, by decide, ⟨rfl, by decide, rfl, by decide⟩, by decide, by decide +kernel⟩

/-- The clauses of the same statement for a full queue: a request refused BADREQ beside a raise, and the flag set already. -/
theorem witness_MgmtFramesAreTheRequestRows_full :
    let g := frameOf .mgmt 1 [7]
    let s := jammed (holding g quiet)
    let v : State := { offerMade .fore g (goodVerdict .fore s) with choices := s.choices + 2 }
    let r : Requester := { port := .fore, source := 3, ticket := 7 }
    let set : State := { s with faults := s.faults.setFlag .egress 1 }
    (s.arriving .fore = some g ∧ g.target = 15 ∧ g.target ≠ s.node ∧ g.hops ≠ 0 ∧ offerRaises s .fore true = true ∧
      rowOfCode g.tag.toNat r g.lanes.tail = some (.read r []) ∧ wakesMatrix s (.fault .egress) = false ∧
      v.tables.hub.detects .egress = true ∧ lanesChanged v v = false ∧ ¬ (g.tag = 6 ∧ g.lanes[1]? = some 5) ∧
      writesHub g 21 = false ∧ 11 ≤ ({ g with tag := 11 } : Frame).tag.toNat) ∧
    s.takesRequests ∧ exec (.read r []) v = .next (answeredWith false false v r 1 1 []) ∧
    (offerRaises set .fore true = false ∧ ¬ offerHasRoom set .fore ∧ set.arriving .fore = some g ∧
      writesHub { g with tag := 2, lanes := [7, 0x900, 21] } 21 = true ∧ writesHub g 22 = false) := by
  refine ⟨by decide +kernel, ⟨rfl, by decide, rfl, by decide +kernel⟩, congrArg Host.Outcome.next ?_, by decide +kernel⟩
  decide +kernel

theorem witness_CurvesInterpolate :
    fuel.state = .inService ∧ fuel.legal = true ∧ (200 : Lane) ≠ 4095 ∧ (200 : Lane).toNat ≤ fuel.points[0].x ∧
    fuel.points[fuel.count - 1]? = some ⟨3600, 1000⟩ ∧ 3600 ≤ (3600 : Lane).toNat ∧ 0 + 1 < fuel.count ∧
    fuel.points[0]? = some ⟨200, 0⟩ ∧ fuel.points[0 + 1]? = some ⟨1000, 250⟩ ∧ 200 ≤ (999 : Lane).toNat ∧
    (999 : Lane).toNat < 1000 := by decide +kernel

/-- The quiet hub with curve 7 as given. -/
def curved (k : Curve) : State := { quiet with tables := { quiet.tables with curves := quiet.tables.curves.set 7 k } }

theorem witness_CurvesOpenAndClose :
    committing quiet = false ∧ 8 ≤ (8 : Lane).toNat ∧ (7 : Lane).toNat = (7 : Fin 8).val ∧
    quiet.tables.curves[(7 : Fin 8)].state = .inService ∧
    (curved { fuel with state := .edit }).tables.curves[(7 : Fin 8)].state = .edit ∧ 2 ≤ fuel.count ∧ fuel.count ≤ 9 ∧
    ({ fuel with state := .edit, count := 1 } : Curve).count < 2 ∧ (∀ i, i < fuel.count → ¬ fuel.offends i) ∧
    Curve.offends { fuel with points := fuel.points.set 1 ⟨200, 250⟩ } 1 := by
  refine ⟨by decide, by decide, by decide, by decide +kernel, by decide +kernel, by decide, by decide, by decide, ?_, ?_⟩
  · intro i hi
    have : ∀ i : Fin 4, ∀ a, fuel.points[i.val]? = some a → a.y ≤ 1000 ∧ ∀ j : Fin 4, i.val = j.val + 1 →
        ∀ b, fuel.points[j.val]? = some b → b.x < a.x := by decide +kernel
    rintro ⟨a, ha, h⟩
    have hi' : i < 4 := hi
    obtain ⟨hy, hx⟩ := this ⟨i, hi'⟩ a ha
    rcases h with h | ⟨j, b, rfl, hb, hab⟩
    · omega
    · have := hx ⟨j, by omega⟩ rfl b hb
      omega
  · exact ⟨⟨200, 250⟩, rfl, .inr ⟨0, ⟨200, 0⟩, rfl, rfl, by decide⟩⟩

theorem curved_takes (k : Curve) : (curved k).takesRequests :=
  ⟨rfl, by simp [curved, quiet, State.reset], rfl, fun _ _ h => absurd h (by simp [curved, quiet, State.reset]),
    fun _ _ h => absurd h (by simp [curved, quiet, State.reset])⟩

theorem witness_CurvePointsAreWrittenInEdit :
    committing quiet = false ∧ 8 ≤ (8 : BitVec 8).toNat ∧ (7 : BitVec 8).toNat = (7 : Fin 8).val ∧ 19 ≤ (19 : Lane).toNat ∧
    (18 : Lane).toNat < 19 ∧ (18 : Lane).toNat = 2 * (8 : Fin 9).val + 2 ∧ (1 : Lane).toNat = 2 * (0 : Fin 9).val + 1 ∧
    (curved { fuel with state := .edit }).tables.curves[(7 : Fin 8)].state = .edit ∧
    (4094 : BitVec 24).toNat ≤ 4094 ∧ ¬ (4096 : BitVec 24).toNat ≤ 4095 := by decide +kernel

theorem witness_SlotsTakeSamplesAndAge :
    let s : State := { quiet with slots := quiet.slots.set 15 { value := 7, state := .fresh, age := some 2000 } }
    s.inReset = false ∧ quiet.slots[(15 : Fin 16)].state ≠ .fresh ∧ s.slots[(15 : Fin 16)].state = .fresh ∧
    s.slots[(15 : Fin 16)].age ≠ none ∧
    (let u : State := { s with
        tables := { s.tables with gauges := s.tables.gauges.set 3 { GaugeEntry.default with source := some 15 } }
        gauges := s.gauges.set 3 { GaugeLive.reset with state := .live, lastRaw := 7 } }
     u.tables.gauges[(3 : Fin 4)].source = some 15 ∧ (∀ h : Fin 4, h ≠ 3 → u.tables.gauges[h].source ≠ some 15) ∧
       (after (.slotAgeExpiry 15) u).gauges[(3 : Fin 4)].state = .fault ∧
       (after (.slotAgeExpiry 15) u).faults.isSet .sender 3 = true ∧
       (∀ h : Fin 4, h ≠ 3 → runsIn u (fun j => decide (j = 15)) h = false) ∧ runsIn u (fun j => decide (j = 15)) 3 = true ∧
       (∀ c : Fin 16, u.tables.conds[c].valid = false) ∧ wakesMatrix u (.fault .sender) = false) := by decide +kernel

/-- A sample of 500 runs gauge 3 to a position of 500, and the condition on that gauge turns on the lamp its link names (R68, R69,
R145). The slot and that gauge are the operands the event reaches. -/
theorem test_gauge_condition_acts :
    let s : State := loaded 2 { LoadEntry.default with kind := .lamp, domain := .always } { quiet with
      tables := { quiet.tables with
        slots := quiet.tables.slots.set 15 { SlotConfig.default with binding := .loc, input := 0 }
        gauges := quiet.tables.gauges.set 3 { GaugeEntry.default with source := some 15, damping := 0 }
        conds := quiet.tables.conds.set 9 { CondEntry.default with
          valid := true, aKind := .gauge, aIndex := 3, bKind := .const, bIndex := 400, predicate := .nlt }
        links := quiet.tables.links.set 0 { LinkEntry.default with
          valid := true, event := .cond, index := 9, edge := .rise, target := 2, verb := .on } } }
    let t := after (.localSample 500 0 0 0) s
    (t.gauges[3].p, t.conds[9].truth, t.outs[2].demand, t.outs[2].drive) = (500, true, true, true) ∧
      slotsReach s (fun k => decide (k = 15)) .gauge 3 = true ∧ slotsReach s (fun k => decide (k = 15)) .gauge 2 = false ∧
      slotsReach s (fun k => decide (k = 15)) .slot 15 = true ∧ slotsReach s (fun k => decide (k = 15)) .slot 14 = false ∧
      slotsReach s (fun k => decide (k = 15)) .const 15 = false := by decide +kernel

theorem witness_SlotWritesEmptyTheSlot :
    committing quiet = false ∧ 16 ≤ (16 : BitVec 8).toNat ∧ (15 : BitVec 8).toNat = (15 : Fin 16).val ∧
    8 ≤ (8 : Lane).toNat ∧ (7 : Lane).toNat < 8 ∧ quiet.tables.slots[(15 : Fin 16)].writeField 7 4095 = none ∧
    (quiet.tables.slots[(15 : Fin 16)].writeField 7 4094).isSome = true ∧
    inRange 2 6 1 = true ∧ inRange 2 6 0 = false ∧ inRange 2 6 255 = true ∧ inRange 2 6 256 = false ∧
    condsConcerned quiet (affectsSlots fun j => decide (j = 15)) = false ∧
    (∀ g : Fin 4, quiet.tables.gauges[g].source ≠ some 15 ∧ runsIn quiet (fun j => decide (j = 15)) g = false) := by
  decide +kernel

theorem witness_SilentPodsTimeOut :
    let s : State := { quiet with pods := quiet.pods.set 7 { bits := 5, known := true, timer := some 1000, seen := true } }
    s.inReset = false ∧ quiet.pods[linkPod 7].known = false ∧ s.pods[linkPod 7].known = true ∧
    s.pods[linkPod 7].timer ≠ none ∧ ({ s with faults := s.faults.setFlag .pod 7 } : State).faults.isSet .pod 7 = true ∧
    s.faults.isSet .pod 7 = false ∧ s.tables.hub.detects .pod = true ∧ wakesMatrix s (.fault .pod) = false ∧
    LoadKind.stop.switched = true := by decide +kernel

theorem witness_PodAndConditionWrites :
    committing quiet = false ∧ 8 ≤ (8 : BitVec 8).toNat ∧ (7 : BitVec 8).toNat = (7 : Fin 8).val ∧
    256 ≤ (256 : BitVec 24).toNat ∧ (255 : BitVec 24).toNat < 256 ∧ 16 ≤ (16 : BitVec 8).toNat ∧
    (15 : BitVec 8).toNat = (15 : Fin 16).val ∧ 7 ≤ (7 : Lane).toNat ∧ (6 : Lane).toNat < 7 ∧
    quiet.tables.conds[(15 : Fin 16)].writeField 6 4096 = none ∧ quiet.tables.conds[(15 : Fin 16)].writeField 1 5 = none ∧
    (quiet.tables.conds[(15 : Fin 16)].writeField 6 4095).isSome = true ∧ inRange 4 6 4095 = true ∧ inRange 4 6 4096 = false ∧
    inRange 4 1 4 = true ∧ inRange 4 1 5 = false := by decide +kernel

theorem witness_PinsRunTheirDebouncers :
    quiet.inReset = false ∧ true ≠ quiet.inputs[(8 : Fin 9)].pin ∧ false ≠ quiet.mgmt.pin.pin := by decide +kernel

theorem witness_HeldInputsSettle :
    quiet.inReset = false ∧ quiet.inputs[(8 : Fin 9)].hold ≠ none ∧
    ({ quiet with inputs := quiet.inputs.set 8 { pin := true, settled := some true, hold := none } } : State).inputs[
      (8 : Fin 9)].hold = none ∧
    (let s : State := { quiet with inputs := quiet.inputs.set 8 { pin := true, settled := some false, hold := some 20 } }
     s.inputs[(8 : Fin 9)].hold ≠ none ∧ s.inputs[(8 : Fin 9)].pin ≠ s.supply.ign ∧
       wakesMatrix s (.switch 8 (1#12 <<< (8 : Fin 9).val) 0) = false) := by decide +kernel

theorem witness_ConditionsCompare :
    ({ CondEntry.default with bKind := .const } : CondEntry).bKind = .const ∧
    ({ truth := true, unordered := false } : CondLive).truth = true ∧
    ({ truth := true, unordered := false } : CondLive).unordered = false ∧
    ({ CondEntry.default with bKind := .supply } : CondEntry).bKind ≠ .const ∧ (none : Option Nat) = none := by decide

theorem witness_VerbsResolveByPrecedence :
    (∃ l ∈ [LinkEntry.default], l.verb = .on) ∧
    (∀ l ∈ [{ LinkEntry.default with verb := .off }], l.verb ≠ .on) ∧
    (∃ l ∈ [{ LinkEntry.default with verb := Verb.off }], l.verb = .off) ∧
    (∀ l ∈ [{ LinkEntry.default with verb := Verb.level, level := 4 }], l.verb ≠ .on ∧ l.verb ≠ .off) ∧
    (∀ l ∈ [{ LinkEntry.default with verb := Verb.toggle }], l.verb = .toggle) ∧
    [LinkEntry.default].Perm [LinkEntry.default] := by
  refine ⟨by decide, by decide, by decide, by decide, by decide, List.Perm.refl _⟩

/-- An OFF verb on a tripped lamp releases it and clears its unlatched OVERLOAD flag (R104, R105). -/
theorem test_demand_off_releases :
    let link : LinkEntry := { LinkEntry.default with valid := true, event := .switch, index := 136, edge := .rise, target := 11, verb := .off }
    let tripped : OutLive := { OutLive.reset with demand := true, protection := .tripped, trips := 2, retry := some 1000 }
    let s := outAt 11 tripped (loaded 11 { LoadEntry.default with kind := .lamp } { quiet with
      tables := { quiet.tables with
        links := quiet.tables.links.set 47 link, hub := { quiet.tables.hub with latch := 0 } }
      faults := quiet.faults.setFlag .overload 11 })
    let t := matrixEvent (.switch 8 0x100 0) s
    t.outs[11] = OutLive.reset ∧ s.faults.isSet .overload 11 = true ∧ t.faults.isSet .overload 11 = false ∧
      resolvedVerbs (firingSet s (.switch 8 0x100 0)) 11 = some .off ∧
      (∀ target : Fin 15, resolvedVerbs (firingSet s (.switch 8 0 0x100)) target = none) := by decide +kernel

theorem witness_EventsMoveDemands :
    LoadKind.lamp.switched = true ∧ (loaded 11 { LoadEntry.default with kind := .fan } quiet).tables.loads[(11 : Fin 12)].kind = .fan ∧
    (loaded 11 { LoadEntry.default with kind := .indicator } quiet).tables.loads[(11 : Fin 12)].kind = .indicator ∧
    quiet.tables.loads[(11 : Fin 12)].kind = .unused ∧ LoadKind.stopturn ≠ .indicator ∧ FaultClass.sender ≠ .overload ∧
    FaultClass.sender ≠ .stall ∧
    (resolvedVerbs [{ LinkEntry.default with verb := .on, target := 13 }] 13 = some .on ∧
      resolvedVerbs [{ LinkEntry.default with verb := .on, target := 13 }] 11 = none) ∧
    (let link : LinkEntry := { LinkEntry.default with valid := true }
     linkMatches { link with index := 136 } (.switch 8 0x100 0) = true ∧
       linkMatches { link with index := 136 } (.switch 8 0 0x100) = false ∧
       linkMatches { link with index := 136, edge := .any } (.switch 8 0 0x100) = true ∧
       linkMatches { link with index := 140 } (.switch 8 0xFFF 0) = false ∧
       linkMatches { link with event := .cond, index := 15, edge := .fall } (.cond 15 false) = true ∧
       linkMatches { link with event := .cond, index := 16 } (.cond 0 true) = false ∧
       linkMatches { link with event := .fault, index := 9, edge := .any } (.fault .store) = true ∧
       linkMatches { link with event := .fault, index := 9, edge := .fall } (.fault .store) = false) := by decide +kernel

/-- A driven output 11 with limits from 100 to 9000 mA. -/
def watched : State := outAt 11 driven (loaded 11 { LoadEntry.default with kind := .lamp, imin := 100, imax := 9000 } quiet)

theorem witness_CurrentSamplesAreChecked :
    watched.inReset = false ∧ condsConcerned watched (affectsCurrent 11) = false ∧
    (outAt 11 { driven with window := .waiting 60 } watched).outs[(11 : Fin 12)].window ≠ .opened ∧
    watched.outs[(11 : Fin 12)].window = .opened ∧ watched.tables.loads[(11 : Fin 12)].imax < min 20000 (10 * 901) ∧
    wakesMatrix watched (.fault .overload) = false ∧ min 20000 (10 * 9) < watched.tables.loads[(11 : Fin 12)].imin ∧
    wakesMatrix watched (.fault .openLoad) = false ∧ watched.tables.loads[(11 : Fin 12)].imin ≤ min 20000 (10 * 10) ∧
    min 20000 (10 * 900) ≤ watched.tables.loads[(11 : Fin 12)].imax ∧
    (let s : State := { watched with tables := { watched.tables with
        conds := watched.tables.conds.set 15 { CondEntry.default with valid := true, aKind := .current, aIndex := 11 } } }
     condsConcerned s (affectsCurrent 11) = true ∧ s.outs[(11 : Fin 12)].window = .opened) := by decide +kernel

theorem witness_SoftStartsAndWindowsRun :
    let s := outAt 11 { driven with softStart := some 8, window := .waiting 60 } (loaded 11 { LoadEntry.default with ramp := 9 } quiet)
    s.inReset = false ∧ quiet.outs[(11 : Fin 12)].softStart = none ∧ s.outs[(11 : Fin 12)].softStart = some 8 ∧
    s.outs[(11 : Fin 12)].window = .waiting 60 ∧ quiet.outs[(11 : Fin 12)].window = .closed := by decide +kernel

/-- A tripped lamp that is still wanted. -/
def tripped : State :=
  outAt 11 { OutLive.reset with demand := true, protection := .tripped, trips := 1, retry := some 1000 }
    (loaded 11 { LoadEntry.default with kind := .lamp, domain := .always, shedClass := 3, ramp := 10 } quiet)

/-- A stop/turn lamp in its changeover gap, its side flashing in ON. -/
def gapping : State :=
  outAt 11 { OutLive.reset with gap := some 100 }
    (loaded 11 { LoadEntry.default with kind := .stopturn, side := .right }
      { quiet with flash := { quiet.flash with
          right := { FlashSource.reset with demand := true, phase := .on, timer := some 350, onLength := 350, cycleLength := 700 } } })

theorem witness_DarkTimesEndInAFreshDrive :
    quiet.outs[(11 : Fin 12)].protection ≠ .tripped ∧ tripped.outs[(11 : Fin 12)].protection = .tripped ∧
    tripped.outs[(11 : Fin 12)].retry ≠ none ∧ tripped.outs[(11 : Fin 12)].drive = false ∧
    requested quiet.tables.loads[(11 : Fin 12)] quiet.flash false 0 OutLive.reset = false ∧
    tripped.tables.loads[(11 : Fin 12)].kind = .lamp ∧ tripped.outs[(11 : Fin 12)].demand = true ∧
    tripped.tables.loads[(11 : Fin 12)].domain = .always ∧
    tripped.supply.shed + tripped.tables.loads[(11 : Fin 12)].shedClass < 4 ∧
    quiet.outs[(11 : Fin 12)].gap = none ∧ gapping.outs[(11 : Fin 12)].gap ≠ none ∧
    gapping.tables.loads[(11 : Fin 12)].kind = .stopturn ∧ gapping.flash.context .right = true ∧
    gapping.outs[(11 : Fin 12)].drive = false ∧ gapping.flash.lit .right = true ∧
    gapping.outs[(11 : Fin 12)].protection = .normal ∧
    ({ gapping with flash := { gapping.flash with right := { gapping.flash.right with phase := .off } } } : State).flash.lit .right =
      false ∧
    (let s := loaded 11 { LoadEntry.default with kind := .stopturn, side := .right, domain := .always } tripped
     s.flash.context .right = false ∧ s.outs[(11 : Fin 12)].demand = true ∧ s.outs[(11 : Fin 12)].protection = .tripped) ∧
    (let s := outAt 11 { OutLive.reset with protection := .tripped, trips := 1, retry := some 1000 } gapping
     s.flash.lit .right = true ∧ s.outs[(11 : Fin 12)].gap = none ∧ s.flash.context .right = true) ∧
    0 < ({ OutLive.reset with protection := .tripped, trips := 1, retry := some 1000, actual := 1 } : OutLive).actual := by
  decide +kernel

theorem witness_FansSlewTowardTheirLevel :
    let s := outAt 11 { OutLive.reset with fanLevel := 4, effective := 4 } (loaded 11 { LoadEntry.default with kind := .fan } quiet)
    s.inReset = false ∧ s.tables.loads[(11 : Fin 12)].kind = .fan ∧ s.outs[(11 : Fin 12)].protection = .normal ∧
    s.tables.loads[(0 : Fin 12)].kind ≠ .fan ∧
    wantsDrive s.tables.loads[(0 : Fin 12)] s.flash s.supply.ign s.supply.shed s.outs[(0 : Fin 12)] = s.outs[(0 : Fin 12)].drive := by
  decide +kernel

theorem witness_StalledFansLock :
    let s := outAt 11 { driven with stall := some 2000, actual := 40 } (loaded 11 { LoadEntry.default with kind := .fan } quiet)
    s.inReset = false ∧ s.outs[(11 : Fin 12)].stall ≠ none ∧ quiet.outs[(11 : Fin 12)].stall = none ∧
    wakesMatrix s (.fault .stall) = false := by decide +kernel

theorem witness_LoadWritesResetTheOutput :
    committing quiet = false ∧ 12 ≤ (12 : BitVec 8).toNat ∧ (11 : BitVec 8).toNat = (11 : Fin 12).val ∧
    10 ≤ (10 : Lane).toNat ∧ (9 : Lane).toNat < 10 ∧ quiet.tables.loads[(11 : Fin 12)].writeField 7 20005 = none ∧
    (quiet.tables.loads[(11 : Fin 12)].writeField 7 20000).isSome = true ∧ inRange 6 7 20000 = true ∧
    inRange 6 7 20005 = false ∧ inRange 6 7 20010 = false ∧ inRange 6 3 3 = true ∧ inRange 6 3 4 = false ∧
    inRange 6 9 1 = true ∧ inRange 6 9 2 = false ∧
    LoadEntry.writeField { LoadEntry.default with kind := .stop } 3 1 = none := by decide +kernel

/-- The flasher with RIGHT demanded, IGN on, in a phase. -/
def flashing (phase : FlashPhase) (demand : Bool) : State :=
  { quiet with
    supply := { quiet.supply with ign := true }
    flash := { quiet.flash with
      right := { FlashSource.reset with demand := demand, phase := phase, timer := some 350, onLength := 350, cycleLength := 700 } } }

theorem witness_PhasesFollowTheirTimers :
    quiet.flasherSound ∧ (quiet.flash.source .left).timer = none ∧ (flashing .on true).flasherSound ∧
    (flashing .off true).flasherSound ∧ (flashing .setup true).flasherSound ∧ (flashing .trail false).flasherSound ∧
    ((flashing .on true).flash.source .right).timer ≠ none ∧
    (let s : State := { quiet with flash := { quiet.flash with
        hazard := { FlashSource.reset with phase := .trail, timer := some 10, onLength := 10, cycleLength := 20 } } }
     s.flasherSound ∧ (s.flash.source .hazard).phase = .trail) := by decide +kernel

theorem witness_PipelineRunsCompute :
    Tables.default.legal = true ∧ (4095 : Lane) = 4095 ∧ (0 : Lane) ≠ 4095 ∧ GaugeLive.reset.state = .waiting ∧
    ({ GaugeLive.reset with state := .fault } : GaugeLive).state = .fault ∧
    (Tables.default.gauges[(0 : Fin 4)].curve = none) ∧
    (∃ c : Fin 8, ({ GaugeEntry.default with curve := some 7 } : GaugeEntry).curve = some c ∧
      (curved { fuel with state := .edit }).tables.curves[c].state = .edit) := by
  refine ⟨by decide +kernel, by decide, by decide, by decide, by decide, by decide +kernel, 7, rfl, by decide +kernel⟩

theorem witness_ModulatorMeetsItsDuty :
    quiet.inReset = false ∧ quiet.gauges[(3 : Fin 4)].acc ≤ 1023 ∧ quiet.gauges[(3 : Fin 4)].d ≤ 1024 ∧
    ({ GaugeLive.reset with acc := 1023, d := 1024 } : GaugeLive).acc ≤ 1023 := by decide +kernel

theorem witness_GaugeWritesResetTheChannel :
    committing quiet = false ∧ 4 ≤ (4 : BitVec 8).toNat ∧ (3 : BitVec 8).toNat = (3 : Fin 4).val ∧ 7 ≤ (7 : Lane).toNat ∧
    (6 : Lane).toNat < 7 ∧ quiet.tables.gauges[(3 : Fin 4)].writeField 6 1001 = none ∧
    (quiet.tables.gauges[(3 : Fin 4)].writeField 6 1000).isSome = true ∧ inRange 8 6 1000 = true ∧ inRange 8 6 1001 = false ∧
    inRange 8 4 2000 = true ∧ inRange 8 4 1999 = false ∧ inRange 8 1 255 = true ∧ inRange 8 2 255 = false ∧
    condsConcerned quiet (affectsGauge 3) = false ∧ (255 : BitVec 24).toNat = 255 ∧
    (3 : BitVec 24).toNat = (3 : Fin 4).val ∧ 4 ≤ (4 : BitVec 24).toNat ∧ (4 : BitVec 24).toNat ≠ 255 := by decide +kernel

theorem witness_VsUpdatesAreHandedOn :
    quiet.inReset = false ∧ (((min 20000 12607 : Nat) : Int) - (quiet.supply.vs : Int)).natAbs < 8 ∧
    8 ≤ (((min 20000 12608 : Nat) : Int) - (quiet.supply.vs : Int)).natAbs ∧
    (let t := after (.vsUpdate 12600) quiet
     quiet.tables.hub.uv ≤ t.supply.vs ∧ t.supply.vs ≤ quiet.tables.hub.ov) ∧
    (let s : State := { quiet with supply := { quiet.supply with vs := quiet.tables.hub.uv } }
     let t := after (.vsUpdate 0) s
     t.supply.vs < s.tables.hub.uv ∧ t.supply.vs ≤ s.tables.hub.ov) ∧
    (let s : State := { quiet with supply := { quiet.supply with vs := quiet.tables.hub.ov } }
     let t := after (.vsUpdate 20000) s
     s.tables.hub.uv ≤ t.supply.vs ∧ s.tables.hub.ov < t.supply.vs) := by decide +kernel

theorem witness_ShedTimersMoveTheLevel :
    let s : State := { quiet with supply := { quiet.supply with shed := 3, enter := some 5000, restore := some 10000 } }
    s.inReset = false ∧ s.supply.enter ≠ none ∧ (if s.supply.shed < 3 then s.supply.shed + 1 else s.supply.shed) = s.supply.shed ∧
    s.supply.restore ≠ none ∧ s.supply.shed - 1 ≠ s.supply.shed ∧ condsConcerned s affectsShed = false ∧
    (let e : LoadEntry := { LoadEntry.default with kind := .fan, domain := .always, shedClass := 2 }
     effectiveOf s.tables e false 1 4 = 4 ∧ effectiveOf s.tables e false 2 4 = 1) := by decide +kernel

theorem witness_SmallTimersExpire :
    quiet.inReset = false ∧ quiet.supply.enter = none ∧ quiet.supply.restore = none ∧ quiet.faults.uptime < 16777215 ∧
    ({ quiet with faults := { quiet.faults with uptime := 16777215 } } : State).faults.uptime = 16777215 ∧
    quiet.mgmt.window = none ∧
    ({ quiet with mgmt := { quiet.mgmt with teach := .haveEmpty 7, window := some 30000 } } : State).mgmt.window ≠ none := by
  decide +kernel

theorem witness_RefreshAndDetectAct :
    quiet.reports.refresh ≠ none ∧ ({ quiet with reports := { quiet.reports with refresh := none } } : State).reports.refresh = none ∧
    (∀ r ∈ quiet.reports.list, r.body.isState = false) ∧ quiet.copiesMade ∧ quiet.reports.held = false ∧
    waiting.copiesMade ∧ { body := .state false true, toFore := true, toAft := false } ∈ waiting.reports.list ∧
    (∀ q ∈ waiting.reports.list, q.body.isState = true → q = { body := .state false true, toFore := true, toAft := false }) ∧
    (let s : State := { full with reports := { full.reports with list := [{ body := .state true true, toFore := true, toAft := false }] } }
     s.copiesMade ∧ { body := .state true true, toFore := true, toAft := false } ∈ s.reports.list) ∧
    (leftFor full .fore = true ∧ leftFor full .aft = false ∧ goesTo full .aft = true) ∧
    lanesChanged quiet { quiet with supply := { quiet.supply with shed := 1 } } = true ∧ lanesChanged quiet quiet = false ∧
    committing quiet = false ∧
    (100 ≤ (100 : BitVec 24).toNat ∧ (5000 : BitVec 24).toNat ≤ 5000) ∧ (99 : BitVec 24).toNat < 100 ∧
    5000 < (5001 : BitVec 24).toNat ∧ (1023 : BitVec 24).toNat < 1024 ∧ 1024 ≤ (1024 : BitVec 24).toNat := by decide +kernel

theorem witness_ClearFaultsClearsWhatIsGone :
    committing quiet = false ∧ 9 < (10 : Lane).toNat ∧ (10 : Lane) ≠ 15 ∧ (9 : Lane).toNat ≤ 9 ∧ (15 : Lane) = 15 ∧
    (9 : Lane).toNat = (9 : Fin 10).val := by decide

theorem reset_takes : State.reset.takesRequests := ⟨rfl, by decide, rfl, by decide +kernel⟩

theorem witness_CaptureRequestsServeTheSlots :
    2 ≤ (2 : Lane).toNat ∧ (1 : Lane).toNat = (1 : Fin 2).val ∧ State.reset.faults.capture[(1 : Fin 2)] = none ∧
    State.reset.faults.capture[(0 : Fin 2)] = some State.resetRecord ∧ [(1 : Lane)].head? = some 1 ∧ 2 ≤ (2 : Lane).toNat := by
  decide +kernel

theorem witness_RequestsAreDiscardedOrHeldOff :
    requesterOf (.restart asker []) = some asker ∧ leaving.inReset = false ∧ leaving.mgmt.service = .restarting ∧
    replyPending [{ body := .reply 3 [] false false, toFore := true, toAft := false }] = true ∧
    heldOffCode (.restart asker []) = some 10 ∧ heldOffCode (.write asker [1, 2, 3, 4]) = some 2 ∧ committing storing = true := by
  decide +kernel

theorem witness_IdentAndReadAnswer :
    [(0x903 : Lane)].length < 2 ∧ addressCode ((0x900 : Lane).toNat / 256) ((0x900 : Lane).toNat % 256) (22 : Lane).toNat = 0 ∧
    addressCode ((0x900 : Lane).toNat / 256) ((0x900 : Lane).toNat % 256) (23 : Lane).toNat = 4 ∧
    addressCode 9 1 0 = 3 ∧ addressCode 10 0 0 = 2 ∧ (entryNumbers quiet.tables 9 0)[10]? = some 10500 ∧
    (entryNumbers quiet.tables 9 0)[12]? = some 12200 ∧ (entryNumbers quiet.tables 9 0)[20]? = some 255 ∧
    (entryNumbers quiet.tables 1 7)[4]? = some 1000 ∧ (entryNumbers quiet.tables 7 3)[6]? = some 35 := by decide +kernel

theorem witness_WritesAreCheckedAndChangeOneField :
    (Tables.default.writeChecked 6 11 0 2).1 = .ok ∧ committing quiet = false ∧ [(1 : Lane), 2, 3].length < 4 ∧
    addressCode 1 7 19 = 0 ∧ addressCode 1 7 18 = 0 ∧ addressCode 1 7 20 = 4 ∧
    (∀ c : Fin 8, quiet.tables.curves[c].state = .inService) ∧
    quiet.tables.writeField 0 31 8 11 = none ∧ (quiet.tables.writeField 0 31 8 10).isSome = true ∧
    (quiet.tables.writeField 5 47 7 255).isSome = true ∧ (quiet.tables.writeField 7 3 10 1).isSome = true ∧
    (quiet.tables.writeField 9 0 22 1023).isSome = true ∧ inRange 0 8 10 = true ∧ inRange 0 8 11 = false ∧
    inRange 5 7 255 = true ∧ inRange 5 7 16 = false ∧ inRange 7 0 63 = true ∧ inRange 7 0 64 = false ∧
    inRange 9 2 0 = true ∧ inRange 9 2 99 = false ∧ inRange 9 2 5000 = true ∧ inRange 9 22 1024 = false ∧
    inRange 3 0 255 = true ∧ inRange 3 0 256 = false ∧ inRange 1 1 4094 = true ∧ inRange 1 1 4095 = false ∧
    inRange 1 19 0 = false ∧ addressCode 3 7 0 = 0 ∧ addressCode 3 8 0 = 3 := by decide +kernel

theorem witness_ReadLiveShowsTheHub :
    [(0 : Lane)].length < 2 ∧ 8 < (9 : Lane).toNat ∧
    [16, 4, 12, 1, 16, 10, 9, 1, 1][(8 : Lane).toNat]? = some 1 ∧ 1 ≤ (1 : Lane).toNat ∧
    [(0 : Lane), laneOf 15] = 0 :: laneOf (15 : Fin 16).val :: [] := by decide +kernel

theorem witness_CommitsAndRestartsAreAnswered :
    committing quiet = false ∧ commitReplyPending quiet.reports.list = false ∧
    commitReplyPending [{ body := .reply 3 [] true false, toFore := true, toAft := false }] = true ∧ storing.inReset = false ∧
    storing.copiesMade ∧ storing.mgmt.service = .committing (.request asker) ∧
    ({ quiet with mgmt := { quiet.mgmt with service := .committing .teach } } : State).mgmt.service = .committing .teach ∧
    State.reset.faults.isSet .store 0 = true ∧ storing.faults.isSet .store 0 = false ∧
    storing.tables.hub.detects .store = true ∧ wakesMatrix storing (.fault .store) = false := by decide +kernel

/-- The TEACH line held low, on a hub whose teach gauge has a reading and a curve. -/
def pressing (teach : TeachState) (v : Lane) : State :=
  { quiet with
    tables := { quiet.tables with
      hub := { quiet.tables.hub with teachGauge := some 3 }
      gauges := quiet.tables.gauges.set 3 { GaugeEntry.default with source := some 15, curve := some 7 } }
    slots := quiet.slots.set 15 { value := v, state := .fresh, age := some 2000 }
    mgmt := { quiet.mgmt with teach := teach, pin := { pin := false, settled := some true, hold := some 20 } } }

theorem witness_TeachPressesAct :
    let s := pressing (.haveEmpty 500) 484
    pressReady s 3 15 7 ∧ (∀ g k c, ¬ pressReady quiet g k c) ∧
    quiet.mgmt.pin.hold ≠ none ∧ quiet.mgmt.pin.settled ≠ some true ∧ s.inReset = false ∧ s.mgmt.pin.hold ≠ none ∧
    s.mgmt.pin.settled = some true ∧ s.mgmt.pin.pin = false ∧ s.mgmt.lockout = none ∧ s.mgmt.service ≠ .restarting ∧
    s.tables.hub.teachGauge = some 3 ∧ s.tables.gauges[(3 : Fin 4)].source = some 15 ∧
    s.tables.gauges[(3 : Fin 4)].curve = some 7 ∧ s.slots[(15 : Fin 16)].state = .fresh ∧ s.slots[(15 : Fin 16)].value ≠ 4095 ∧
    s.tables.curves[(7 : Fin 8)].state = .inService ∧ committing s = false ∧ s.mgmt.teach = .haveEmpty 500 ∧
    16 ≤ ((500 : Lane).toNat - (484 : Lane).toNat) + ((484 : Lane).toNat - (500 : Lane).toNat) ∧
    ((500 : Lane).toNat - (485 : Lane).toNat) + ((485 : Lane).toNat - (500 : Lane).toNat) < 16 ∧
    (pressing .idle 484).mgmt.teach = .idle ∧ (pressing .committing 484).mgmt.teach = .committing := by
  refine ⟨by unfold pressReady; decide +kernel, fun g k c h => absurd h.1 (by simp [quiet, State.reset, Tables.default, HubTable.default]), ?_⟩
  decide +kernel

end Sys2Proof.Tests
end

section
/-! PROOFS. What one command can do to the link ports, the pending list, the node number and the command queue, said once
for every row; the invariants of the queues (R13, R14, R16) and the answer of every command follow from it. -/

namespace Sys2Proof.Machine

/-! Copies and their rounds (R16). -/

@[simp] theorem afterLeaving_fore (r : PendingReport) (s : State) : (afterLeaving r s).fore = s.fore := by
  unfold afterLeaving
  split
  · rename_i all _
    cases all <;> simp only [Bool.false_eq_true, if_true, if_false] <;> split <;> rfl
  · rfl
  · rfl

@[simp] theorem afterLeaving_aft (r : PendingReport) (s : State) : (afterLeaving r s).aft = s.aft := by
  unfold afterLeaving
  split
  · rename_i all _
    cases all <;> simp only [Bool.false_eq_true, if_true, if_false] <;> split <;> rfl
  · rfl
  · rfl

@[simp] theorem afterLeaving_port (r : PendingReport) (s : State) (p : PortId) : (afterLeaving r s).port p = s.port p := by
  cases p
  · exact afterLeaving_fore r s
  · exact afterLeaving_aft r s

/-- A list has no split for a port exactly where none of its reports is pending for it. -/
theorem splitAtWanting_eq_none (p : PortId) (l : List PendingReport) :
    splitAtWanting p l = none ↔ ∀ r ∈ l, r.wants p = false := by
  refine ⟨fun h => ?_, splitAtWanting_none p l⟩
  induction l with
  | nil => simp
  | cons r rs ih =>
    by_cases hr : r.wants p = true
    · simp [splitAtWanting, hr] at h
    · simp only [splitAtWanting, hr, Bool.false_eq_true, if_false, Option.map_eq_none_iff] at h
      simpa [hr] using ih h

/-- No copy can be made for a port exactly where the port is served. -/
theorem copyOne_eq_none (p : PortId) (s : State) : copyOne p s = none ↔ s.portServed p := by
  refine ⟨fun h room => ?_, copyOne_none p s⟩
  unfold copyOne at h
  rw [if_pos room] at h
  cases hsplit : splitAtWanting p s.reports.list with
  | none => exact (splitAtWanting_eq_none p _).mp hsplit
  | some x =>
    obtain ⟨a, r, b⟩ := x
    simp only [hsplit] at h
    split at h <;> exact absurd h (by simp)

/-- A copy puts one report record at the end of the port's queue, which had a free place, and leaves the other port. -/
theorem copyOne_port (p : PortId) (s t : State) (h : copyOne p s = some t) :
    (s.port p).queue.length < 8 ∧
      (∃ body, t.port p = { s.port p with queue := (s.port p).queue ++ [reportRecord s body] }) ∧
      t.port p.opposite = s.port p.opposite := by
  unfold copyOne at h
  split at h
  · rename_i room
    split at h
    · exact absurd h (by simp)
    · rename_i a r b _
      refine ⟨room, ⟨r.body, ?_⟩, ?_⟩ <;> simp only at h <;> split at h <;> obtain rfl := Option.some.inj h <;>
        cases p <;> simp <;> rfl
  · exact absurd h (by simp)

/-- A report's own record is no relay (R13). -/
theorem reportRecord_note (s : State) (body : ReportBody) : (reportRecord s body).note ≠ .relay := by
  cases body with
  | state _ _ => simp [reportRecord]
  | reply _ _ _ restart => cases restart <;> simp [reportRecord]
  | fault _ _ => simp [reportRecord]

/-- The free places of both queues. -/
def State.freePlaces (s : State) : Nat := (8 - s.fore.queue.length) + (8 - s.aft.queue.length)

/-- A copy takes one free place. -/
theorem copyOne_freePlaces (p : PortId) (s t : State) (h : copyOne p s = some t) : t.freePlaces + 1 = s.freePlaces := by
  obtain ⟨room, ⟨body, hp⟩, ho⟩ := copyOne_port p s t h
  unfold State.freePlaces
  cases p <;> simp only [State.port, PortId.opposite] at room hp ho <;> rw [hp, ho] <;>
    simp only [List.length_append, List.length_singleton] <;> omega

/-- As many rounds as there are free places leave nothing to copy. -/
theorem copyReports_copiesMade (n : Nat) (s : State) (h : s.freePlaces ≤ n) : (copyReports n s).copiesMade := by
  induction n generalizing s with
  | zero =>
    unfold State.freePlaces at h
    refine ⟨fun room => ?_, fun room => ?_⟩ <;> simp only [copyReports, State.port] at room <;> omega
  | succ n ih =>
    unfold copyReports
    cases hf : copyOne .fore s with
    | some t => exact ih t (by have := copyOne_freePlaces .fore s t hf; omega)
    | none =>
      cases ha : copyOne .aft s with
      | some t => exact ih t (by have := copyOne_freePlaces .aft s t ha; omega)
      | none => exact ⟨(copyOne_eq_none .fore s).mp hf, (copyOne_eq_none .aft s).mp ha⟩

/-- The sixteen rounds are enough (R16). -/
theorem copyReports_sixteen (s : State) : (copyReports 16 s).copiesMade :=
  copyReports_copiesMade 16 s (by unfold State.freePlaces; omega)

/-! Reports alone are put into the queues, and into free places alone (R13, R16). -/

/-- The queues of `t` are those of `s` with records behind them that are no relays, none beyond the eighth place; receivers
and transmitters stand. -/
def State.reportsPut (s t : State) : Prop :=
  ∀ p, ∃ l : List FrameRecord, (∀ r ∈ l, r.note ≠ .relay) ∧
    t.port p = { s.port p with queue := (s.port p).queue ++ l } ∧
    (t.port p).queue.length ≤ max 8 (s.port p).queue.length

theorem reportsPut_of_ports {s t : State} (hf : t.fore = s.fore) (ha : t.aft = s.aft) : s.reportsPut t := by
  intro p
  refine ⟨[], by simp, ?_, ?_⟩ <;> cases p <;> simp [State.port, hf, ha]

theorem reportsPut_refl (s : State) : s.reportsPut s := reportsPut_of_ports rfl rfl

theorem reportsPut_trans {s t u : State} (h : s.reportsPut t) (h' : t.reportsPut u) : s.reportsPut u := by
  intro p
  obtain ⟨l, hl, ht, hn⟩ := h p
  obtain ⟨m, hm, hu, hk⟩ := h' p
  refine ⟨l ++ m, ?_, ?_, by omega⟩
  · intro r hr
    rcases List.mem_append.mp hr with hr | hr
    · exact hl r hr
    · exact hm r hr
  · rw [hu, ht]
    simp

/-- The two ports of the hub are a port and its opposite. -/
theorem forall_port_iff (p : PortId) (P : PortId → Prop) : (∀ q, P q) ↔ P p ∧ P p.opposite := by
  refine ⟨fun h => ⟨h p, h _⟩, fun ⟨h, h'⟩ q => ?_⟩
  cases p <;> cases q <;> assumption

theorem copyOne_reportsPut (p : PortId) (s t : State) (h : copyOne p s = some t) : s.reportsPut t := by
  obtain ⟨room, ⟨body, hp⟩, ho⟩ := copyOne_port p s t h
  refine (forall_port_iff p _).mpr ⟨⟨[reportRecord s body], ?_, hp, ?_⟩, ⟨[], by simp, by simp [ho], by simp [ho]⟩⟩
  · simpa using reportRecord_note s body
  · rw [hp]
    simp only [List.length_append, List.length_singleton]
    omega

theorem copyReports_reportsPut (n : Nat) (s : State) : s.reportsPut (copyReports n s) := by
  induction n generalizing s with
  | zero => exact reportsPut_refl s
  | succ n ih =>
    unfold copyReports
    cases hf : copyOne .fore s with
    | some t => exact reportsPut_trans (copyOne_reportsPut .fore s t hf) (ih t)
    | none =>
      cases ha : copyOne .aft s with
      | some t => exact reportsPut_trans (copyOne_reportsPut .aft s t ha) (ih t)
      | none => exact reportsPut_refl s

theorem joinReport_reportsPut (r : PendingReport) (s : State) : s.reportsPut (joinReport r s) :=
  reportsPut_trans (reportsPut_of_ports rfl rfl) (copyReports_reportsPut 16 _)

theorem joinState_reportsPut (s : State) : s.reportsPut (joinState s) :=
  reportsPut_trans (reportsPut_of_ports rfl rfl) (copyReports_reportsPut 16 _)

theorem stateNeed_reportsPut (s : State) : s.reportsPut (stateNeed s) := by
  unfold stateNeed
  split
  · exact joinState_reportsPut s
  · exact reportsPut_refl s
  · exact reportsPut_of_ports rfl rfl

theorem afterNeed_reportsPut (s u : State) : u.reportsPut (afterNeed s u) := by
  unfold afterNeed
  split
  · exact stateNeed_reportsPut u
  · exact reportsPut_refl u

/-- What a relation that is kept by a joining report says of the whole fold of FAULT reports. -/
theorem foldl_joinReport_keeps (P : State → Prop) (keeps : ∀ r t, P t → P (joinReport r t)) :
    ∀ (l : List (Fin 2 × CaptureRecord)) (s : State), P s →
      P (l.foldl (fun t x => joinReport (faultReport t.tables.hub x.1 x.2) t) s)
  | [], _, h => h
  | _ :: l, s, h => foldl_joinReport_keeps P keeps l _ (keeps _ s h)

/-- What the STATE need and every joining report keep, the end of an event keeps (R168). -/
theorem finish_keeps (P : State → Prop) (need : ∀ s u, P u → P (afterNeed s u)) (join : ∀ r t, P t → P (joinReport r t))
    (before : State) (e : Ev) (h : P e.st) : P (finish before e) := by
  unfold finish
  refine foldl_joinReport_keeps P join _ _ ?_
  have h1 := need before e.st h
  unfold afterNeed at h1
  cases e.reply with
  | none => exact h1
  | some r => exact join r _ h1

theorem finish_reportsPut (before : State) (e : Ev) : e.st.reportsPut (finish before e) :=
  finish_keeps (e.st.reportsPut ·) (fun s _ h => reportsPut_trans h (afterNeed_reportsPut s _))
    (fun r _ h => reportsPut_trans h (joinReport_reportsPut r _)) before e (reportsPut_refl _)

/-! Copies stay made (R16). -/

/-- The pending list and the queues say whether copies are made. -/
theorem copiesMade_of_ports {s t : State} (hf : t.fore.queue = s.fore.queue) (ha : t.aft.queue = s.aft.queue)
    (hl : t.reports.list = s.reports.list) (h : s.copiesMade) : t.copiesMade := by
  obtain ⟨f, a⟩ := h
  unfold State.portServed State.port at f a
  exact ⟨by unfold State.portServed State.port; simpa only [hf, hl] using f,
    by unfold State.portServed State.port; simpa only [ha, hl] using a⟩

theorem stateNeed_copiesMade (s : State) (h : s.copiesMade) : (stateNeed s).copiesMade := by
  unfold stateNeed
  split
  · exact copyReports_sixteen _
  · exact h
  · exact copiesMade_of_ports rfl rfl rfl h

theorem afterNeed_copiesMade (s u : State) (h : u.copiesMade) : (afterNeed s u).copiesMade := by
  unfold afterNeed
  split
  · exact stateNeed_copiesMade u h
  · exact h

theorem finish_copiesMade (before : State) (e : Ev) (h : e.st.copiesMade) : (finish before e).copiesMade :=
  finish_keeps State.copiesMade afterNeed_copiesMade (fun _ _ _ => copyReports_sixteen _) before e h

/-! Queues stay bounded (R13, R14). -/

/-- Transmitters that stand, and queues that only grow within their eight places, stay bounded. -/
theorem bounded_of_grown {x y : PortState} (tx : y.tx = x.tx) (queue : x.queue <+: y.queue)
    (room : y.queue.length ≤ max 8 x.queue.length) (h : x.bounded) : y.bounded := by
  obtain ⟨hlen, hhead⟩ := h
  refine ⟨by omega, fun sending empty => hhead ?_ ?_⟩
  · simpa [PortState.isSending, tx] using sending
  · simpa [empty] using queue

theorem queuesBounded_iff (s : State) : s.queuesBounded ↔ ∀ p, (s.port p).bounded :=
  (forall_port_iff .fore fun p => (s.port p).bounded).symm

theorem reportsPut_queuesBounded {s t : State} (put : s.reportsPut t) (h : s.queuesBounded) : t.queuesBounded := by
  rw [queuesBounded_iff] at h ⊢
  intro p
  obtain ⟨l, -, ht, room⟩ := put p
  exact bounded_of_grown (by rw [ht]) (by rw [ht]; exact List.prefix_append _ _) room (h p)

theorem finish_queuesBounded (before : State) (e : Ev) (h : e.st.queuesBounded) : (finish before e).queuesBounded :=
  reportsPut_queuesBounded (finish_reportsPut before e) h

/-! What the body of an event leaves alone. -/

/-- What the blocks behind the ports do not touch: the node number, the command queue, the ports and the pending list. -/
def State.links (s : State) : BitVec 4 × List Instr × PortState × PortState × List PendingReport :=
  (s.node, s.pending, s.fore, s.aft, s.reports.list)

/-- The body of an event takes the hub onward: node number, command queue and transmitters stand, queues only grow and only
within their eight places, and no report joins the pending list. -/
structure State.onward (s t : State) : Prop where
  node : t.node = s.node
  pending : t.pending = s.pending
  tx : ∀ p, (t.port p).tx = (s.port p).tx
  queue : ∀ p, (s.port p).queue <+: (t.port p).queue
  room : ∀ p, (t.port p).queue.length ≤ max 8 (s.port p).queue.length
  list : ∀ r ∈ t.reports.list, r ∈ s.reports.list

theorem onward_of_links {s t : State} (h : t.links = s.links) : s.onward t := by
  simp only [State.links, Prod.mk.injEq] at h
  obtain ⟨node, pending, fore, aft, list⟩ := h
  have port : ∀ p, t.port p = s.port p := (forall_port_iff .fore _).mpr ⟨fore, aft⟩
  exact ⟨node, pending, fun p => by rw [port], fun p => by rw [port], fun p => by rw [port]; omega, fun r hr => list ▸ hr⟩

theorem onward_refl (s : State) : s.onward s := onward_of_links rfl

theorem onward_trans {s t u : State} (h : s.onward t) (h' : t.onward u) : s.onward u where
  node := h'.node.trans h.node
  pending := h'.pending.trans h.pending
  tx p := (h'.tx p).trans (h.tx p)
  queue p := (h.queue p).trans (h'.queue p)
  room p := by have := h.room p; have := h'.room p; omega
  list r hr := h.list r (h'.list r hr)

theorem onward_queuesBounded {s t : State} (on : s.onward t) (h : s.queuesBounded) : t.queuesBounded := by
  rw [queuesBounded_iff] at h ⊢
  exact fun p => bounded_of_grown (on.tx p) (on.queue p) (on.room p) (h p)

theorem onward_copiesMade {s t : State} (on : s.onward t) (h : s.copiesMade) : t.copiesMade := by
  have served : ∀ p, s.portServed p → t.portServed p := fun p hp room r hr =>
    hp (lt_of_le_of_lt (on.queue p).length_le room) r (on.list r hr)
  exact ⟨served .fore h.1, served .aft h.2⟩

theorem links_of_lessRuns {s t : State} (h : s.lessRuns = t.lessRuns) : s.links = t.links := (congrArg State.links h :)

theorem links_of_lessLoads {s t : State} (h : s.lessLoads = t.lessLoads) : s.links = t.links := (congrArg State.links h :)

@[simp] theorem clearUnlatched_links (c : FaultClass) (i : Nat) (s : State) : (clearUnlatched c i s).links = s.links :=
  links_of_lessLoads (clearUnlatched_lessLoads c i s)

@[simp] theorem matrixEvent_links (ev : MatrixEvent) (s : State) : (matrixEvent ev s).links = s.links :=
  links_of_lessLoads (matrixEvent_lessLoads ev s)

@[simp] theorem orderEvent_links (tag : BitVec 4) (lane : Lane) (s : State) : (orderEvent tag lane s).links = s.links :=
  links_of_lessLoads (orderEvent_lessLoads tag lane s)

@[simp] theorem evalConds_links (affects : OperandKind → Nat → Bool) (s : State) : (evalConds affects s).links = s.links :=
  links_of_lessRuns (evalConds_lessRuns affects s)

@[simp] theorem handContexts_links (before : Vector Bool 12) (new : FlashState) (s : State) :
    (handContexts before new s).links = s.links :=
  links_of_lessLoads (handContexts_lessLoads before new s)

@[simp] theorem redriveAll_links (s : State) : (redriveAll s).links = s.links := rfl

@[simp] theorem redriveOne_links (o : Fin 12) (s : State) : (redriveOne o s).links = s.links := rfl

@[simp] theorem relevelFans_links (s : State) : (relevelFans s).links = s.links := rfl

@[simp] theorem noteRaise_links (c : FaultClass) (i : Nat) (s : State) : (noteRaise c i s).links = s.links :=
  (congrArg State.links (noteRaise_lessPods c i s) :)

@[simp] theorem captureAttempt_links (c : FaultClass) (i value : Nat) (e : Ev) :
    (captureAttempt c i value e).st.links = e.st.links :=
  links_of_lessLoads (captureAttempt_lessLoads c i value e)

@[simp] theorem reportFault_links (c : FaultClass) (i value : Nat) (e : Ev) :
    (reportFault c i value e).st.links = e.st.links := by
  unfold reportFault
  split
  · simp only [Ev.on, matrixEvent_links, captureAttempt_links, noteRaise_links]
    rfl
  · rfl

@[simp] theorem handOnSlots_links (changed : Fin 16 → Bool) (e : Ev) : (handOnSlots changed e).st.links = e.st.links :=
  links_of_lessRuns (handOnSlots_lessRuns changed e)

@[simp] theorem updateSlots_links (vals : Fin 16 → Option Lane) (e : Ev) : (updateSlots vals e).st.links = e.st.links :=
  handOnSlots_links _ _

@[simp] theorem setSlot_links (k : Fin 16) (x : SlotLive) (e : Ev) : (setSlot k x e).st.links = e.st.links :=
  handOnSlots_links _ _

@[simp] theorem handOnVs_links (e : Ev) : (handOnVs e).st.links = e.st.links :=
  (links_of_lessRuns (handOnVs_lessRuns e) :)

@[simp] theorem switchEvent_links (pod : Fin 9) (rise fall : BitVec 12) (s : State) :
    (switchEvent pod rise fall s).links = s.links := by
  unfold switchEvent
  split <;> simp

@[simp] theorem updatePod_links (p : Fin 8) (bits : BitVec 12) (s : State) : (updatePod p bits s).links = s.links := by
  simp only [updatePod, switchEvent_links, clearUnlatched_links]
  rfl

@[simp] theorem podExpired_links (p : Fin 8) (e : Ev) : (podExpired p e).st.links = e.st.links := by
  simp only [podExpired, reportFault_links, Ev.on, switchEvent_links]
  rfl

@[simp] theorem ignChanged_links (level : Bool) (s : State) : (ignChanged level s).links = s.links := by
  have gauges : ∀ t : State, (gaugesAtIgn t).links = t.links := by
    intro t
    unfold gaugesAtIgn
    split <;> rfl
  simp only [ignChanged, gauges, redriveAll_links, relevelFans_links, settleNow, handContexts_links]
  rfl

@[simp] theorem inputSettled_links (i : Fin 9) (s : State) : (inputSettled i s).links = s.links := by
  unfold inputSettled
  simp only
  rw [anyOrder_keeps State.links _ _ (fun _ _ => rfl)]
  · rfl
  · intro f hf t
    rcases List.mem_append.mp hf with hf | hf
    · split at hf
      · rw [List.mem_singleton.mp hf]
        exact ignChanged_links _ t
      · simp at hf
    · generalize wakesMatrix s _ = wakes at hf
      cases wakes
      · simp at hf
      · rw [List.mem_singleton.mp hf]
        exact switchEvent_links _ _ _ t

@[simp] theorem shedChanged_links (level : Nat) (s : State) : (shedChanged level s).links = s.links := by
  simp only [shedChanged, evalConds_links, redriveAll_links, relevelFans_links]
  rfl

@[simp] theorem enterExpired_links (s : State) : (enterExpired s).links = s.links := by
  simp only [enterExpired]
  split
  · simp only [shedChanged_links]
    rfl
  · rfl

@[simp] theorem restoreExpired_links (s : State) : (restoreExpired s).links = s.links := by
  simp only [restoreExpired]
  split
  · simp only [shedChanged_links]
    rfl
  · rfl

@[simp] theorem phaseExpired_links (i : SourceId) (s : State) : (phaseExpired i s).links = s.links := by
  simp [phaseExpired]

@[simp] theorem tripOutput_links (o : Fin 12) (e : Ev) : (tripOutput o e).st.links = e.st.links := by
  simp only [tripOutput, Ev.on, tripEnd, redriveOne_links]
  exact reportFault_links _ _ _ _

@[simp] theorem checkLimits_links (o : Fin 12) (e : Ev) : (checkLimits o e).st.links = e.st.links := by
  unfold checkLimits
  simp only [Ev.on]
  split
  · exact clearUnlatched_links _ _ _
  · exact reportFault_links _ _ _ _

@[simp] theorem checkSample_links (o : Fin 12) (taken : Bool) (e : Ev) : (checkSample o taken e).st.links = e.st.links := by
  unfold checkSample
  split
  · split <;> simp
  · rfl

@[simp] theorem completeCommit_links (verified : Bool) (e : Ev) : (completeCommit verified e).st.links = e.st.links := by
  unfold completeCommit
  split
  · rfl
  · rfl
  · rename_i origin _
    simp only [Ev.on]
    cases verified <;> cases origin <;> simp only [if_true, Bool.false_eq_true, if_false, reportFault_links, clearUnlatched_links] <;> rfl

@[simp] theorem cancelTeach_links (s : State) : (cancelTeach s).links = s.links := by
  unfold cancelTeach
  split <;> rfl

@[simp] theorem resetChannel_links (g : Fin 4) (s : State) : (resetChannel g s).links = s.links := by
  simp only [resetChannel, evalConds_links, clearUnlatched_links]
  rfl

theorem completeTeach_links (g : Fin 4) (c : Fin 8) (a b : Lane) (s : State) : (completeTeach g c a b s).links = s.links :=
  resetChannel_links g _

@[simp] theorem press_links (s : State) : (press s).links = s.links := by
  unfold press
  split
  · rfl
  · split <;> rfl
  · split
    · split
      · exact completeTeach_links _ _ _ _ s
      · simp
    · simp

@[simp] theorem teachSettled_links (s : State) : (teachSettled s).links = s.links := by
  simp only [teachSettled, teachEdge]
  split
  · split
    · rfl
    · simp only [press_links]
      rfl
  · rfl

/-! Requests. -/

theorem writeEffect_links (table index field : Nat) (e : Ev) : (writeEffect table index field e).st.links = e.st.links := by
  unfold writeEffect
  split
  · split <;> simp
  · split
    · simp only [Ev.on, podTimeoutWritten]
      split <;> rfl
    · rfl
  · split <;> rfl
  · split
    · simp only [Ev.on, loadRewritten, redriveOne_links, clearUnlatched_links]
      rfl
    · rfl
  · split
    · simp only [Ev.on, gaugeEntryWritten, resetChannel_links]
      split <;> simp
    · rfl
  · simp only [Ev.on, hubWritten]
    split <;> simp only [refreshWritten, detectWritten, cancelTeach_links] <;> rfl
  · rfl

/-- A service whose hub goes onward. -/
abbrev ServeOnward (serve : Ev → Ev × Answer) : Prop := ∀ e : Ev, e.st.onward (serve e).1.st

theorem refuse_onward (status : Status) : ServeOnward (refuse status) := fun e => onward_refl e.st

theorem needLanes_onward (n : Nat) (lanes : List Lane) (serve : Ev → Ev × Answer) (h : ServeOnward serve) :
    ServeOnward (needLanes n lanes serve) := by
  intro e
  unfold needLanes
  split
  · exact onward_refl _
  · exact h e

theorem unlessCommitting_onward (serve : Ev → Ev × Answer) (h : ServeOnward serve) : ServeOnward (unlessCommitting serve) := by
  intro e
  unfold unlessCommitting
  split
  · exact onward_refl _
  · exact h e

theorem serveRead_onward (lanes : List Lane) : ServeOnward (serveRead lanes) := by
  refine needLanes_onward _ _ _ fun e => ?_
  simp only
  split
  · split <;> exact onward_refl _
  · exact onward_refl _

theorem writeField_onward (table index field value : Nat) : ServeOnward (writeField table index field value) := by
  intro e
  unfold writeField
  split
  · exact onward_of_links (writeEffect_links _ _ _ _)
  · exact onward_refl _

theorem serveWrite_onward (lanes : List Lane) : ServeOnward (serveWrite lanes) :=
  needLanes_onward _ _ _ (unlessCommitting_onward _ (writeField_onward _ _ _ _))

theorem serveOpenCurve_onward (lanes : List Lane) : ServeOnward (serveOpenCurve lanes) := by
  refine needLanes_onward _ _ _ (unlessCommitting_onward _ fun e => ?_)
  split
  · refine onward_of_links ?_
    simp only [Ev.on, openCurve]
    split
    · exact cancelTeach_links e.st
    · rfl
  · exact onward_refl _

theorem serveCloseCurve_onward (lanes : List Lane) : ServeOnward (serveCloseCurve lanes) := by
  refine needLanes_onward _ _ _ (unlessCommitting_onward _ fun e => ?_)
  split
  · simp only
    split
    · exact onward_refl _
    · split
      · exact onward_refl _
      · exact onward_of_links rfl
  · exact onward_refl _

theorem serveCommit_onward (r : Requester) : ServeOnward (serveCommit r) := by
  refine unlessCommitting_onward _ fun e => ?_
  split
  · exact onward_refl _
  · exact onward_of_links rfl

theorem serveReadLive_onward (lanes : List Lane) : ServeOnward (serveReadLive lanes) := by
  refine needLanes_onward _ _ _ fun e => ?_
  split
  · exact onward_refl _
  · split <;> exact onward_refl _

theorem serveClearFaults_onward (lanes : List Lane) : ServeOnward (serveClearFaults lanes) := by
  refine needLanes_onward _ _ _ (unlessCommitting_onward _ fun e => ?_)
  split
  · exact onward_of_links rfl
  · exact onward_refl _

theorem serveReadCapture_onward (lanes : List Lane) : ServeOnward (serveReadCapture lanes) := by
  refine needLanes_onward _ _ _ fun e => ?_
  split
  · exact onward_refl _
  · exact onward_refl _
  · split <;> exact onward_refl _

/-- A release withdraws a report of the pending list and touches nothing else of the links (R166). -/
theorem releaseSlot_onward (slot : Fin 2) (e : Ev) : e.st.onward (releaseSlot slot e).st where
  node := rfl
  pending := rfl
  tx p := by cases p <;> rfl
  queue p := by cases p <;> exact List.prefix_refl _
  room p := by cases p <;> exact le_max_right _ _
  list _ hr := (List.mem_filter.mp hr).1

theorem serveReleaseCapture_onward (lanes : List Lane) : ServeOnward (serveReleaseCapture lanes) := by
  refine needLanes_onward _ _ _ fun e => ?_
  split
  · exact releaseSlot_onward _ e
  · exact onward_refl _

theorem serveRestart_onward : ServeOnward serveRestart :=
  unlessCommitting_onward _ fun _ => onward_of_links rfl

/-- An event body that takes every hub onward. -/
abbrev BodyOnward (f : Ev → Ev) : Prop := ∀ e : Ev, e.st.onward (f e).st

theorem requestEvent_onward (r : Requester) (code : Nat) (serve : Ev → Ev × Answer) (h : ServeOnward serve) :
    BodyOnward (requestEvent r code serve) := by
  intro e
  have he := h e
  unfold requestEvent
  split
  · split <;> rename_i hs <;> rw [hs] at he <;> exact he
  · exact onward_of_links rfl

theorem anyRequest_onward (r : Requester) (code : Nat) (lanes : List Lane) : BodyOnward (anyRequest r code lanes) := by
  unfold anyRequest
  split
  · exact requestEvent_onward _ _ _ fun e => onward_refl e.st
  · exact requestEvent_onward _ _ _ (serveRead_onward _)
  · exact requestEvent_onward _ _ _ (serveWrite_onward _)
  · exact requestEvent_onward _ _ _ (serveOpenCurve_onward _)
  · exact requestEvent_onward _ _ _ (serveCloseCurve_onward _)
  · exact requestEvent_onward _ _ _ (serveCommit_onward _)
  · exact requestEvent_onward _ _ _ (serveReadLive_onward _)
  · exact requestEvent_onward _ _ _ (serveClearFaults_onward _)
  · exact requestEvent_onward _ _ _ (serveReadCapture_onward _)
  · exact requestEvent_onward _ _ _ (serveReleaseCapture_onward _)
  · exact requestEvent_onward _ _ _ serveRestart_onward
  · exact requestEvent_onward _ _ _ (refuse_onward _)

/-! The router. -/

/-- One port written with its transmitter as it was and its queue grown within its places. -/
theorem setPort_onward (s : State) (p : PortId) (x : PortState) (tx : x.tx = (s.port p).tx)
    (queue : (s.port p).queue <+: x.queue) (room : x.queue.length ≤ max 8 (s.port p).queue.length) :
    s.onward (s.setPort p x) where
  node := by simp
  pending := by simp
  tx := (forall_port_iff p _).mpr (by simpa using tx)
  queue := (forall_port_iff p _).mpr (by simpa using queue)
  room := (forall_port_iff p _).mpr (by simpa using room)
  list r hr := by simpa using hr

/-- A port whose transmitter and queue stand. -/
theorem setPort_receiver_onward (s : State) (p : PortId) (x : PortState) (tx : x.tx = (s.port p).tx)
    (queue : x.queue = (s.port p).queue) : s.onward (s.setPort p x) :=
  setPort_onward s p x tx (by rw [queue]) (by rw [queue]; omega)

theorem offerRelay_onward (p : PortId) (f : Frame) : BodyOnward (offerRelay p f) := by
  intro e
  unfold offerRelay
  simp only [Ev.on]
  split
  · refine onward_trans (setPort_onward e.st p
      { e.st.port p with queue := (e.st.port p).queue ++ [{ frame := f, note := .relay }], offerTaken := true }
      rfl (List.prefix_append _ _) ?_) (onward_of_links (clearUnlatched_links _ _ _))
    simp only [List.length_append, List.length_singleton]
    omega
  · exact onward_trans (setPort_receiver_onward e.st p { e.st.port p with offerTaken := false } rfl rfl)
      (onward_of_links (reportFault_links _ _ _ _))

theorem anyOrderEv_onward (acts : List (Ev → Ev)) (h : ∀ f ∈ acts, BodyOnward f) : BodyOnward (anyOrderEv acts) := by
  intro e
  match acts, h with
  | [], _ => exact onward_refl _
  | [f], h => exact h f (by simp) e
  | f :: g :: more, h =>
    exact runAll_permute_keeps (fun t : Ev => e.st.onward t.st) _ _ _ _ (fun k hk t ht => onward_trans ht (h k hk t))
      (onward_of_links rfl)

/-- A change of the hub that leaves its links is a body that takes it onward. -/
theorem on_onward (f : State → State) (h : ∀ s, (f s).links = s.links) : BodyOnward (Ev.on f) :=
  fun e => onward_of_links (h e.st)

theorem feedAction_onward (node : BitVec 4) (feed : Feed) (f out : Frame) : ∀ a ∈ feedAction node feed f out, BodyOnward a := by
  unfold feedAction
  split
  · exact List.forall_mem_singleton.mpr (on_onward _ fun s => updatePod_links _ _ s)
  · exact List.forall_mem_singleton.mpr fun e => onward_of_links (updateSlots_links _ e)
  · split
    · exact List.forall_mem_singleton.mpr (on_onward _ fun s => orderEvent_links _ _ s)
    · simp
  · simp

theorem relayAction_onward (p : PortId) (f : Frame) : ∀ a ∈ relayAction p f, BodyOnward a := by
  unfold relayAction
  split
  · simp
  · simpa using offerRelay_onward _ _

theorem frameRequest_onward (p : PortId) (f : Frame) : BodyOnward (frameRequest p f) := anyRequest_onward _ _ _

theorem arrival_onward (p : PortId) (f : Frame) : BodyOnward (arrival p f) := by
  intro e
  refine anyOrderEv_onward _ ?_ e
  unfold arrivalActions
  split
  · exact List.forall_mem_singleton.mpr (frameRequest_onward p f)
  · split
    · exact List.forall_mem_cons.mpr ⟨frameRequest_onward p f, relayAction_onward p f⟩
    · split
      · exact relayAction_onward p f
      · intro a ha
        rcases List.mem_append.mp ha with ha | ha
        · split at ha
          · simp at ha
          · exact relayAction_onward _ _ a ha
        · exact feedAction_onward _ _ _ _ a ha

theorem goodVerdict_onward (p : PortId) (s : State) : s.onward (goodVerdict p s) :=
  onward_trans (setPort_receiver_onward s p { s.port p with rx := .idle true, verdictGood := true } rfl rfl)
    (onward_of_links (clearUnlatched_links _ _ _))

theorem badVerdict_onward (p : PortId) : BodyOnward (badVerdict p) := fun e =>
  onward_trans (setPort_receiver_onward e.st p { e.st.port p with rx := .idle true, verdictGood := false } rfl rfl) (onward_of_links (reportFault_links _ _ _ _))

theorem frameBoundary_onward (p : PortId) : BodyOnward (frameBoundary p) := by
  intro e
  unfold frameBoundary
  split
  · exact setPort_receiver_onward e.st p _ rfl rfl
  · exact badVerdict_onward p e
  · exact badVerdict_onward p e
  · split
    · exact onward_trans (goodVerdict_onward p e.st) (arrival_onward p _ (e.on (goodVerdict p)))
    · exact badVerdict_onward p e

/-! What a command can do. -/

/-- The commands that make a supply reset of a state, with the values it starts from (R158, R184). -/
def startsHub (c : Instr) (s : State) (i : StartInputs) : Prop :=
  (c = .resetEnd i ∧ s.inReset = true ∧ 5000 < i.supply) ∨
    (∃ p, c = .transmissionCompletion p i ∧ s.inReset = false ∧ (s.port p).isSending = true ∧ completesRestart p s = true)

/-- What the command c can make of the state s. -/
inductive Effect (c : Instr) (s : State) : State → Prop
  /-- It takes the hub onward, without an end of an event. -/
  | still (t : State) (on : s.onward t) : Effect c s t
  /-- It is an event whose body takes the hub onward. -/
  | event (f : Ev → Ev) (on : BodyOnward f) : Effect c s (wholeEvent f s)
  /-- The refresh timer has expired (R170). -/
  | refresh : Effect c s (wholeEvent (Ev.on refreshExpired) s)
  /-- A transmitter starts (R14). -/
  | start (p : PortId) : Effect c s (wholeEvent (Ev.on fun t => t.setPort p (startSending (t.port p))) s)
  /-- A transmission is complete (R14). -/
  | complete (p : PortId) : Effect c s (wholeEvent (Ev.on (completeSending p)) s)
  /-- The hub is held in reset (R157). -/
  | hold : Effect c s (heldInReset s)
  /-- The hub starts (R158). -/
  | supplyReset (i : StartInputs) (starts : startsHub c s i) : Effect c s (supplyReset i s)

/-- A command answers, by one of its effects. -/
def AnswersBy (c : Instr) (s : State) (x : Host.Outcome State Fault Refusal) : Prop := ∃ t, x = .next t ∧ Effect c s t

theorem event_answers (c : Instr) (f : Ev → Ev) (s : State) (on : BodyOnward f) : AnswersBy c s (event f s) := by
  unfold event
  split
  · exact ⟨s, rfl, .still s (onward_refl s)⟩
  · exact ⟨_, rfl, .event f on⟩

/-- An event that changes nothing of the links. -/
theorem event_links_answers (c : Instr) (f : Ev → Ev) (s : State) (h : ∀ e, (f e).st.links = e.st.links) :
    AnswersBy c s (event f s) :=
  event_answers c f s fun e => onward_of_links (h e)

/-- An event whose one change stands under a condition. -/
theorem guarded_links {p : Prop} [Decidable p] (f : State → State) (s : State) (h : (f s).links = s.links) :
    (if p then f s else s).links = s.links := by
  split
  · exact h
  · rfl

theorem execTransmitStart_answers (p : PortId) (s : State) :
    AnswersBy (.transmitStart p) s (exec (.transmitStart p) s) := by
  show AnswersBy _ s (event _ s)
  unfold event
  split
  · exact ⟨s, rfl, .still s (onward_refl s)⟩
  · exact ⟨_, rfl, .start p⟩

theorem execTransmissionCompletion_answers (p : PortId) (i : StartInputs) (s : State) :
    AnswersBy (.transmissionCompletion p i) s (exec (.transmissionCompletion p i) s) := by
  show AnswersBy _ s (execTransmissionCompletion p i s)
  unfold execTransmissionCompletion
  split
  · rename_i sending
    obtain ⟨running, sending⟩ := sending
    split
    · exact ⟨_, rfl, .supplyReset i (.inr ⟨p, rfl, running, sending, ‹_›⟩)⟩
    · exact ⟨_, event_running _ s running, .complete p⟩
  · exact ⟨s, rfl, .still s (onward_refl s)⟩

theorem execRefreshExpiry_answers (s : State) : AnswersBy .refreshExpiry s (exec .refreshExpiry s) := by
  show AnswersBy _ s (event _ s)
  unfold event
  split
  · exact ⟨s, rfl, .still s (onward_refl s)⟩
  · by_cases runs : s.reports.refresh.isSome = true
    · refine ⟨_, rfl, ?_⟩
      have body : wholeEvent (Ev.on fun t => if t.reports.refresh.isSome then refreshExpired t else t) s =
          wholeEvent (Ev.on refreshExpired) s := by
        simp only [wholeEvent, Ev.start, Ev.on, runs, if_true]
      rw [body]
      exact .refresh
    · refine ⟨_, rfl, ?_⟩
      have body : wholeEvent (Ev.on fun t => if t.reports.refresh.isSome then refreshExpired t else t) s =
          wholeEvent id s := by
        simp only [wholeEvent, Ev.start, Ev.on, runs, Bool.false_eq_true, if_false, id]
      rw [body]
      exact .event id fun e => onward_refl e.st

theorem execResetEntry_answers (s : State) : AnswersBy .resetEntry s (exec .resetEntry s) := by
  show AnswersBy _ s (execResetEntry s)
  unfold execResetEntry
  split
  · exact ⟨s, rfl, .still s (onward_refl s)⟩
  · exact ⟨_, rfl, .hold⟩

theorem execResetEnd_answers (i : StartInputs) (s : State) : AnswersBy (.resetEnd i) s (exec (.resetEnd i) s) := by
  show AnswersBy _ s (execResetEnd i s)
  unfold execResetEnd
  split
  · exact ⟨_, rfl, .supplyReset i (.inl ⟨rfl, ‹_ ∧ _›⟩)⟩
  · exact ⟨s, rfl, .still s (onward_refl s)⟩

theorem execCurrentSample_answers (o : Fin 12) (tens : Nat) (s : State) :
    AnswersBy (.currentSample o tens) s (exec (.currentSample o tens) s) := by
  refine event_links_answers _ _ s fun e => ?_
  simp only [checkSample_links, Ev.on, evalConds_links]
  rfl

theorem execStallExpiry_answers (o : Fin 12) (s : State) : AnswersBy (.stallExpiry o) s (exec (.stallExpiry o) s) := by
  refine event_links_answers _ _ s fun e => ?_
  split
  · exact reportFault_links _ _ _ _
  · rfl

/-- Every command answers, by one of its effects. -/
theorem exec_answers (c : Instr) (s : State) : AnswersBy c s (exec c s) := by
  cases c with
  | frameBoundary p => exact event_answers _ _ s (frameBoundary_onward p)
  | transmitStart p => exact execTransmitStart_answers p s
  | transmissionCompletion p i => exact execTransmissionCompletion_answers p i s
  | resetEntry => exact execResetEntry_answers s
  | resetEnd i => exact execResetEnd_answers i s
  | localSample a0 a1 a2 a3 => exact event_links_answers _ _ s fun e => updateSlots_links _ e
  | slotAgeExpiry k =>
    refine event_links_answers _ _ s fun e => ?_
    split
    · simp
    · rfl
  | podTimeoutExpiry p =>
    refine event_links_answers _ _ s fun e => ?_
    split
    · simp
    · rfl
  | localPinChange i level => exact ⟨_, rfl, .still _ (onward_of_links rfl)⟩
  | debounceHoldExpiry i => exact event_links_answers _ _ s fun e => guarded_links _ e.st (inputSettled_links i e.st)
  | currentSample o tens => exact execCurrentSample_answers o tens s
  | softStartCount o => exact event_links_answers _ _ s fun e => rfl
  | checkWindowOpen o => exact event_links_answers _ _ s fun e => rfl
  | retryExpiry o => exact event_links_answers _ _ s fun e => guarded_links (retryExpired o) e.st rfl
  | fanSlewStep => exact event_links_answers _ _ s fun e => rfl
  | stallExpiry o => exact execStallExpiry_answers o s
  | phaseExpiry i => exact event_links_answers _ _ s fun e => guarded_links _ e.st (phaseExpired_links i e.st)
  | gapExpiry o => exact event_links_answers _ _ s fun e =>
      guarded_links (fun t => redriveOne o { t with outs := modifyAt t.outs o fun x => { x with gap := none } }) e.st rfl
  | modulatorStep => exact event_links_answers _ _ s fun e => rfl
  | vsUpdate sample => exact event_links_answers _ _ s fun e => handOnVs_links _
  | enterTimerExpiry => exact event_links_answers _ _ s fun e => guarded_links _ e.st (enterExpired_links e.st)
  | restoreTimerExpiry => exact event_links_answers _ _ s fun e => guarded_links _ e.st (restoreExpired_links e.st)
  | uptimeTick => exact event_links_answers _ _ s fun e => rfl
  | refreshExpiry => exact execRefreshExpiry_answers s
  | ident r lanes => exact event_answers _ _ s (anyRequest_onward r 0 lanes)
  | read r lanes => exact event_answers _ _ s (anyRequest_onward r 1 lanes)
  | write r lanes => exact event_answers _ _ s (anyRequest_onward r 2 lanes)
  | curvePointWrite r curve field value => exact event_answers _ _ s (anyRequest_onward r 2 _)
  | slotConfigWrite r slot field value => exact event_answers _ _ s (anyRequest_onward r 2 _)
  | podTimeoutWrite r pod value => exact event_answers _ _ s (anyRequest_onward r 2 _)
  | conditionWrite r entry field value => exact event_answers _ _ s (anyRequest_onward r 2 _)
  | loadEntryWrite r output field value => exact event_answers _ _ s (anyRequest_onward r 2 _)
  | gaugeEntryWrite r channel field value => exact event_answers _ _ s (anyRequest_onward r 2 _)
  | detectMaskWrite r value => exact event_answers _ _ s (anyRequest_onward r 2 _)
  | refreshWrite r value => exact event_answers _ _ s (anyRequest_onward r 2 _)
  | teachGaugeWrite r target => exact event_answers _ _ s (anyRequest_onward r 2 _)
  | openCurve r lanes => exact event_answers _ _ s (anyRequest_onward r 3 lanes)
  | closeCurve r lanes => exact event_answers _ _ s (anyRequest_onward r 4 lanes)
  | commit r lanes => exact event_answers _ _ s (anyRequest_onward r 5 lanes)
  | commitCompletion verified => exact event_links_answers _ _ s fun e => completeCommit_links verified e
  | readLive r lanes => exact event_answers _ _ s (anyRequest_onward r 6 lanes)
  | clearFaults r lanes => exact event_answers _ _ s (anyRequest_onward r 7 lanes)
  | readCapture r lanes => exact event_answers _ _ s (anyRequest_onward r 8 lanes)
  | releaseCapture r lanes => exact event_answers _ _ s (anyRequest_onward r 9 lanes)
  | restart r lanes => exact event_answers _ _ s (anyRequest_onward r 10 lanes)
  | teachPinChange high => exact ⟨_, rfl, .still _ (onward_of_links rfl)⟩
  | teachHoldExpiry => exact event_links_answers _ _ s fun e => guarded_links _ e.st (teachSettled_links e.st)
  | teachLockoutExpiry => exact event_links_answers _ _ s fun e => rfl
  | windowExpiry => exact event_links_answers _ _ s fun e => guarded_links _ e.st (cancelTeach_links e.st)
  | characterStart p b => exact event_answers _ _ s fun e : Ev => setPort_receiver_onward e.st p { e.st.port p with rx := _ } rfl rfl
  | characterFault p => exact event_answers _ _ s fun e : Ev => setPort_receiver_onward e.st p { e.st.port p with rx := _ } rfl rfl

/-! The invariants of the queues. -/

/-- A transmitter starts on its head frame alone (R14). -/
theorem startSending_bounded (x : PortState) (h : x.bounded) : (startSending x).bounded := by
  unfold startSending
  split
  · exact ⟨h.1, by simp_all⟩
  · exact h

theorem setPort_queuesBounded (s : State) (p : PortId) (x : PortState) (hx : x.bounded) (h : s.queuesBounded) :
    (s.setPort p x).queuesBounded := by
  cases p
  · exact ⟨hx, h.2⟩
  · exact ⟨h.1, hx⟩

theorem completeSending_queuesBounded (p : PortId) (s : State) (h : s.queuesBounded) :
    (completeSending p s).queuesBounded := by
  refine reportsPut_queuesBounded (copyReports_reportsPut 16 _) (setPort_queuesBounded s p _ ⟨?_, ?_⟩ h)
  · have := ((queuesBounded_iff s).mp h p).1
    simp only [List.length_tail]
    omega
  · simp [PortState.isSending]

/-- The hub that a supply reset starts from has empty queues and nothing pending (R18). -/
theorem supplyReset_links (i : StartInputs) (s : State) (P : State → Prop) (h : P (startState i s))
    (join : ∀ t, P t → P (joinState t)) (on : ∀ t u, t.onward u → P t → P u) (fin : ∀ b e, P e.st → P (finish b e)) :
    P (supplyReset i s) := by
  unfold supplyReset
  refine fin _ _ (on (joinState (startState i s)) _ (onward_of_links ?_) (join _ h))
  rw [handOnVs_links]
  split
  · rfl
  · exact reportFault_links _ _ _ _

/-- Every effect of a command keeps the queues bounded (R13, R14). -/
theorem effect_queuesBounded {c : Instr} {s t : State} (h : s.queuesBounded) (eff : Effect c s t) : t.queuesBounded := by
  cases eff with
  | still _ on => exact onward_queuesBounded on h
  | event f on => exact finish_queuesBounded s _ (onward_queuesBounded (on (Ev.start s)) h)
  | refresh =>
    exact finish_queuesBounded s _ (reportsPut_queuesBounded
      (reportsPut_trans (reportsPut_of_ports rfl rfl) (stateNeed_reportsPut _)) h)
  | start p =>
    exact finish_queuesBounded s _ (setPort_queuesBounded s p _ (startSending_bounded _ ((queuesBounded_iff s).mp h p)) h)
  | complete p => exact finish_queuesBounded s _ (completeSending_queuesBounded p s h)
  | hold => exact ⟨⟨by simp [heldInReset, startState, PortState.reset], by simp [heldInReset, startState, PortState.reset, PortState.isSending]⟩,
      ⟨by simp [heldInReset, startState, PortState.reset], by simp [heldInReset, startState, PortState.reset, PortState.isSending]⟩⟩
  | supplyReset i _ =>
    refine supplyReset_links i s State.queuesBounded ?_ (fun t => reportsPut_queuesBounded (joinState_reportsPut t))
      (fun _ _ => onward_queuesBounded) finish_queuesBounded
    exact ⟨⟨by simp [startState, PortState.reset], by simp [startState, PortState.reset, PortState.isSending]⟩,
      ⟨by simp [startState, PortState.reset], by simp [startState, PortState.reset, PortState.isSending]⟩⟩

theorem startSending_queue (x : PortState) : (startSending x).queue = x.queue := by
  unfold startSending
  split <;> rfl

/-- Every effect of a command leaves every copy made that could be made (R16). -/
theorem effect_copiesMade {c : Instr} {s t : State} (h : s.copiesMade) (eff : Effect c s t) : t.copiesMade := by
  cases eff with
  | still _ on => exact onward_copiesMade on h
  | event f on => exact finish_copiesMade s _ (onward_copiesMade (on (Ev.start s)) h)
  | refresh => exact finish_copiesMade s _ (stateNeed_copiesMade _ (copiesMade_of_ports rfl rfl rfl h))
  | start p =>
    refine finish_copiesMade s _ (copiesMade_of_ports (s := s) ?_ ?_ ?_ h) <;> cases p <;>
      simp [Ev.on, Ev.start, State.setPort, State.port, startSending_queue]
  | complete p => exact finish_copiesMade s _ (copyReports_sixteen _)
  | hold => exact ⟨fun _ r hr => by simp [heldInReset, startState] at hr, fun _ r hr => by simp [heldInReset, startState] at hr⟩
  | supplyReset i _ =>
    refine supplyReset_links i s State.copiesMade ?_ (fun _ _ => copyReports_sixteen _) (fun _ _ => onward_copiesMade)
      finish_copiesMade
    exact ⟨fun _ r hr => by simp [startState] at hr, fun _ r hr => by simp [startState] at hr⟩

/-- What every effect of every command keeps, every step keeps; the command queue plays no part in it. -/
theorem keptByEveryStep_of_effects (inv : State → Prop) (queue : ∀ s l, inv s → inv { s with pending := l })
    (keeps : ∀ c s t, inv s → Effect c s t → inv t) : KeptByEveryStep inv := by
  intro s t h hstep
  unfold step at hstep
  split at hstep
  · cases hstep
    exact h
  · rename_i c rest _
    obtain ⟨u, hu, eff⟩ := exec_answers c { s with pending := rest }
    obtain rfl := Host.Outcome.next.inj (hu.symm.trans hstep)
    exact keeps c _ _ (queue s rest h) eff

/-- Settles O5, by the effects of a command: what an event's body, its copies and its end do to queues and pending list. -/
theorem queuesAndCopiesStayInStep : Obligations.QueuesAndCopiesStayInStep :=
  ⟨keptByEveryStep_of_effects State.queuesBounded (fun _ _ h => h) fun _ _ _ => effect_queuesBounded,
    keptByEveryStep_of_effects State.copiesMade (fun _ _ h => h) fun _ _ _ => effect_copiesMade⟩

/-! Every command answers. -/

/-- What the end of an event and reports leave alone: node number and command queue. -/
theorem node_pending_of_lessReports {s t : State} (h : t.lessReports = s.lessReports) : t.node = s.node ∧ t.pending = s.pending :=
  ⟨(congrArg State.node h :), (congrArg State.pending h :)⟩

theorem finish_node_pending (before : State) (e : Ev) : (finish before e).node = e.st.node ∧ (finish before e).pending = e.st.pending :=
  node_pending_of_lessReports (finish_lessReports before e)

/-- A supply reset reads the straps (R17) and leaves the command queue. -/
theorem supplyReset_node_pending (i : StartInputs) (s : State) :
    (supplyReset i s).node = (if i.straps = 15 then 14 else i.straps) ∧ (supplyReset i s).pending = s.pending := by
  refine supplyReset_links i s (fun t => t.node = _ ∧ t.pending = s.pending) ⟨rfl, rfl⟩ ?_ ?_ ?_
  · rintro t ⟨node, pending⟩
    obtain ⟨hn, hp⟩ := node_pending_of_lessReports (joinState_lessReports t)
    exact ⟨hn.trans node, hp.trans pending⟩
  · rintro t _ on ⟨node, pending⟩
    exact ⟨on.node.trans node, on.pending.trans pending⟩
  · rintro b e ⟨node, pending⟩
    obtain ⟨hn, hp⟩ := finish_node_pending b e
    exact ⟨hn.trans node, hp.trans pending⟩

/-- A completion makes the reset where the head of the queue is the reply that the restart waits for (R184). -/
theorem completesRestart_iff (p : PortId) (s : State) : completesRestart p s = true ↔
    s.mgmt.service = .restarting ∧ ((s.port p).queue.head?.map fun r => r.note) = some FrameNote.restartReply := by
  unfold completesRestart
  cases (s.port p).queue <;> simp

/-- Every effect but a supply reset leaves node number and command queue. -/
theorem effect_node_pending {c : Instr} {s t : State} (eff : Effect c s t) :
    t.pending = s.pending ∧ (t.node = s.node ∨ ∃ i, startsHub c s i ∧ t.node = if i.straps = 15 then 14 else i.straps) := by
  have ends : ∀ e : Ev, e.st.pending = s.pending → e.st.node = s.node →
      (finish s e).pending = s.pending ∧ ((finish s e).node = s.node ∨
        ∃ i, startsHub c s i ∧ (finish s e).node = if i.straps = 15 then 14 else i.straps) := by
    intro e pending node
    obtain ⟨hn, hp⟩ := finish_node_pending s e
    exact ⟨hp.trans pending, .inl (hn.trans node)⟩
  cases eff with
  | still _ on => exact ⟨on.pending, .inl on.node⟩
  | event f on => exact ends _ (on (Ev.start s)).pending (on (Ev.start s)).node
  | refresh =>
    obtain ⟨hn, hp⟩ := node_pending_of_lessReports
      (stateNeed_lessReports { s with reports := { s.reports with refresh := refreshStart s.tables.hub } })
    exact ends _ hp hn
  | start p => exact ends _ (State.setPort_pending s p _) (State.setPort_node s p _)
  | complete p =>
    obtain ⟨hn, hp⟩ := node_pending_of_lessReports
      (copyReports_lessReports 16 (s.setPort p { s.port p with tx := .waiting, queue := (s.port p).queue.tail }))
    exact ends _ (hp.trans (State.setPort_pending s p _)) (hn.trans (State.setPort_node s p _))
  | hold => exact ⟨rfl, .inl rfl⟩
  | supplyReset i starts =>
    exact ⟨(supplyReset_node_pending i s).2, .inr ⟨i, starts, (supplyReset_node_pending i s).1⟩⟩

/-- Settles O2, by the effects of a command. -/
theorem everyCommandAnswersAndKeepsTheQueue : Obligations.EveryCommandAnswersAndKeepsTheQueue := by
  intro c s
  obtain ⟨t, ht, eff⟩ := exec_answers c s
  obtain ⟨pending, node⟩ := effect_node_pending eff
  refine ⟨t, ht, pending, fun moved => ?_⟩
  obtain ⟨i, starts, hi⟩ := node.resolve_left moved
  refine ⟨i, hi, ?_⟩
  rcases starts with ⟨rfl, held, supply⟩ | ⟨p, rfl, running, sending, restart⟩
  · exact .inl ⟨rfl, held, supply⟩
  · exact .inr ⟨p, rfl, running, sending, (completesRestart_iff p s).mp restart⟩

end Sys2Proof.Machine
end

section
/-! PROOFS. The receiver (R2 to R5), and the bytes of a frame: the check byte, the lanes bit by bit, what is sent and what is
read (R4, R6 to R9). -/

namespace Sys2Proof.Machine

/-! Events that change only a port. -/

/-- Where drives and items stand and MGMT-OVERRUN is not set anew, no STATE need arises (R169, R170). -/
theorem lanesChanged_eq_false {s t : State} (drive : drives t = drives s) (items : lane1Items t = lane1Items s)
    (overrun : t.reports.overrun = true → s.reports.overrun = true) : lanesChanged s t = false := by
  unfold lanesChanged
  rw [drive, items]
  cases h : t.reports.overrun
  · simp
  · simp [overrun h]

/-- What the ports, the pending list and the like do plays no part in lane 0 and lane 1, MGMT-OVERRUN apart. -/
theorem lanesChanged_of_lessReports {s t : State} (h : t.lessReports = s.lessReports)
    (overrun : t.reports.overrun = true → s.reports.overrun = true) : lanesChanged s t = false :=
  lanesChanged_eq_false (congrArg drives h :) (congrArg lane1Items h :) overrun

@[simp] theorem drives_setPort (s : State) (p : PortId) (x : PortState) : drives (s.setPort p x) = drives s := by
  cases p <;> rfl

@[simp] theorem lane1Items_setPort (s : State) (p : PortId) (x : PortState) : lane1Items (s.setPort p x) = lane1Items s := by
  cases p <;> rfl

/-- A port alone makes no STATE need. -/
theorem afterNeed_setPort (s : State) (p : PortId) (x : PortState) : afterNeed s (s.setPort p x) = s.setPort p x := by
  unfold afterNeed
  rw [lanesChanged_eq_false (by simp) (by simp) (by simp)]
  rfl

/-- An event that changes one port. -/
theorem event_setPort (p : PortId) (g : PortState → PortState) (s : State) (running : s.inReset = false) :
    event (Ev.on fun t => t.setPort p (g (t.port p))) s = .next (s.setPort p (g (s.port p))) := by
  rw [event_running _ s running, wholeEvent_on, afterNeed_setPort]

/-! The length that a lane count announces (R4). -/

/-- The lane count of header byte 2 is its low three bits. -/
theorem laneCount_eq (b : Byte) : laneCount b = b.toNat % 8 := by
  simp [laneCount]

/-- Lane counts 0 to 6 have a length (R4). -/
theorem lengthOfLanes_frameLength {n : Nat} (h : n < 7) : lengthOfLanes n = some (frameLength n) := by
  interval_cases n <;> rfl

/-- Seven has none (R4). -/
theorem lengthOfLanes_seven : lengthOfLanes 7 = none := rfl

theorem lengthOfLanes_eq_some {n len : Nat} (hn : n < 8) : lengthOfLanes n = some len ↔ n ≠ 7 ∧ len = frameLength n := by
  by_cases h : n = 7
  · simp [h, lengthOfLanes_seven]
  · simp [lengthOfLanes_frameLength (show n < 7 by omega), h, eq_comm]

/-! The receiver. -/

/-- The character's effect on a receiver, as the command shows it. -/
theorem exec_characterStart (s : State) (p : PortId) (b : Byte) (running : s.inReset = false) :
    exec (.characterStart p b) s = .next (s.setPort p { s.port p with rx := receiveByte (s.port p).rx b }) :=
  event_setPort p (fun x => { x with rx := receiveByte x.rx b }) s running

/-- The fault's effect on a receiver, as the command shows it. -/
theorem exec_characterFault (s : State) (p : PortId) (running : s.inReset = false) :
    exec (.characterFault p) s = .next (s.setPort p { s.port p with rx := receiveFault (s.port p).rx }) :=
  event_setPort p (fun x => { x with rx := receiveFault x.rx }) s running

/-- A receiver written back as it is. -/
theorem setPort_rx_self (s : State) (p : PortId) (rx : Receiver) (h : (s.port p).rx = rx) :
    s.setPort p { s.port p with rx := rx } = s := by
  subst h
  exact State.setPort_port s p

/-- The first two characters after the first go in as they come (R3). -/
theorem receiveByte_header (bytes : List Byte) (b : Byte) (h : bytes.length < 2) :
    receiveByte (.receiving bytes) b = .receiving (bytes ++ [b]) := by
  have short : (bytes ++ [b]).length < 3 := by simp only [List.length_append, List.length_singleton]; omega
  simp only [receiveByte, short, if_true]

/-- The third character fixes the length, and a lane count of 7 has none (R4). -/
theorem receiveByte_third (bytes : List Byte) (b : Byte) (h : bytes.length = 2) :
    receiveByte (.receiving bytes) b =
      if lengthOfLanes (b.toNat % 8) = none then .discarding else .receiving (bytes ++ [b]) := by
  have len : (bytes ++ [b]).length = 3 := by simp [h]
  have third : (bytes ++ [b]).getD 2 0 = b := by simp [List.getD, ← h]
  simp only [receiveByte, len, third, laneCount_eq, lt_irrefl, if_false]
  by_cases seven : b.toNat % 8 = 7
  · simp [seven, lengthOfLanes_seven]
  · rw [lengthOfLanes_frameLength (by omega), if_neg seven, if_pos (by unfold frameLength; omega), if_neg (by simp)]

/-- A later character fills the frame up to its length (R4, R5). -/
theorem receiveByte_later (bytes : List Byte) (b b2 : Byte) (n : Nat) (h2 : bytes[2]? = some b2)
    (hn : lengthOfLanes (b2.toNat % 8) = some n) :
    receiveByte (.receiving bytes) b =
      if bytes.length + 1 < n then .receiving (bytes ++ [b]) else .closing (bytes ++ [b]) := by
  have long : 2 < bytes.length := (List.getElem?_eq_some_iff.mp h2).1
  have third : (bytes ++ [b]).getD 2 0 = b2 := by simp [List.getD, List.getElem?_append_left long, h2]
  obtain ⟨seven, rfl⟩ := (lengthOfLanes_eq_some (by omega)).mp hn
  have short : ¬ bytes.length + 1 < 3 := by omega
  simp only [receiveByte, List.length_append, List.length_singleton, if_neg short, third, laneCount_eq, if_neg seven]

/-- Settles O16, by the receiver's state. -/
theorem charactersMoveTheReceiver : Obligations.CharactersMoveTheReceiver := by
  intro s p b running
  simp only [exec_characterStart s p b running, exec_characterFault s p running]
  refine ⟨fun h => by simp [h, receiveByte, receiveFault], fun h => ?_, fun bytes h => ?_,
    fun bytes h => by simp [h, receiveByte, receiveFault], fun h => ?_⟩
  · simp only [h, receiveByte, receiveFault, setPort_rx_self s p _ h, and_self]
  · simp only [h]
    refine ⟨rfl, fun short => ?_, fun two => ?_, fun b2 n h2 hn => ?_⟩
    · rw [receiveByte_header bytes b short]
    · rw [receiveByte_third bytes b two]
    · rw [receiveByte_later bytes b b2 n h2 hn]
  · simp only [h, receiveByte, receiveFault, setPort_rx_self s p _ h, and_self]

/-! The check byte (R8). -/

/-- One shift of the check register, as a number. -/
theorem crcBit_toNat (r : BitVec 8) : (crcBit r).toNat = checkShift r.toNat := by
  unfold crcBit checkShift
  rw [BitVec.msb_eq_decide]
  by_cases h : 128 ≤ r.toNat <;> simp [h, Nat.shiftLeft_eq, Nat.mul_comm]

/-- One byte into the check register, as a number. -/
theorem crcByte_toNat (r b : BitVec 8) : (crcByte r b).toNat = Nat.iterate checkShift 8 (r.toNat ^^^ b.toNat) := by
  simp only [crcByte, crcBit_toNat, BitVec.toNat_xor, Function.iterate_succ, Function.iterate_zero, Function.comp_apply, id]

/-- The check byte of the port is that of R8. -/
theorem crc_toNat (bytes : List Byte) : (crc bytes).toNat = checkByte bytes := by
  have fold : ∀ r : BitVec 8, (bytes.foldl crcByte r).toNat =
      bytes.foldl (fun r b => Nat.iterate checkShift 8 (r ^^^ b.toNat)) r.toNat := by
    induction bytes with
    | nil => exact fun r => rfl
    | cons b bs ih => exact fun r => by rw [List.foldl_cons, ih, crcByte_toNat]; rfl
  exact fold 0xFF#8

/-! Lanes bit by bit (R7). -/

/-- The lanes take the bytes that R4 counts. -/
theorem packLanes_length (l : List Lane) : (packLanes l).length = laneBytes l.length := by
  induction l using packLanes.induct with
  | case1 => rfl
  | case2 l => simp [packLanes, laneBytes]
  | case3 l m r ih => simp only [packLanes, List.length_cons, ih, laneBytes]; omega

/-- Two bytes hold a lane and the pad. -/
theorem lane_of_two (l : Lane) : l.extractLsb' 4 8 ++ (l.extractLsb' 0 4 ++ 0#4).extractLsb' 4 4 = l := by
  ext i hi
  simp only [BitVec.getElem_append, BitVec.getElem_extractLsb']
  split <;> simp [*] <;> grind

/-- Three bytes hold two lanes: the first. -/
theorem first_of_three (l m : Lane) :
    l.extractLsb' 4 8 ++ (l.extractLsb' 0 4 ++ m.extractLsb' 8 4).extractLsb' 4 4 = l := by
  ext i hi
  simp only [BitVec.getElem_append, BitVec.getElem_extractLsb']
  split <;> simp [*] <;> grind

/-- Three bytes hold two lanes: the second. -/
theorem second_of_three (l m : Lane) :
    (l.extractLsb' 0 4 ++ m.extractLsb' 8 4).extractLsb' 0 4 ++ m.extractLsb' 0 8 = m := by
  ext i hi
  simp only [BitVec.getElem_append, BitVec.getElem_extractLsb']
  split <;> simp [*]
  grind

/-- Lanes that are packed are read back (R7). -/
theorem unpackLanes_packLanes (l : List Lane) : unpackLanes l.length (packLanes l) = l := by
  induction l using packLanes.induct with
  | case1 => rfl
  | case2 l => simp [unpackLanes, packLanes, lane_of_two]
  | case3 l m r ih => simp [unpackLanes, packLanes, first_of_three, second_of_three, ih]

/-- As many lanes are read as the bytes hold. -/
theorem unpackLanes_length (n : Nat) (bytes : List Byte) (h : bytes.length = laneBytes n) : (unpackLanes n bytes).length = n := by
  induction n, bytes using unpackLanes.induct with
  | case1 bytes => rfl
  | case2 a b r => rfl
  | case3 n a b c r ih =>
    have : r.length = laneBytes n := by simp only [List.length_cons, laneBytes] at h ⊢; omega
    simp [unpackLanes, ih this]
  | case4 n bytes h0 h1 h2 =>
    exfalso
    match n, bytes with
    | 0, _ => exact h0 rfl
    | 1, a :: b :: r => exact h1 a b r rfl rfl
    | 1, [] => simp [laneBytes] at h
    | 1, [a] => simp [laneBytes] at h
    | n + 2, a :: b :: c :: r => exact h2 n a b c r rfl rfl
    | n + 2, [] => simp only [laneBytes, List.length_nil] at h; omega
    | n + 2, [a] => simp only [laneBytes, List.length_cons, List.length_nil] at h; omega
    | n + 2, [a, b] => simp only [laneBytes, List.length_cons, List.length_nil] at h; omega

/-- The bits of a lane that two bytes hold, from its most significant bit. -/
theorem bit_of_two (a b : Byte) (i : Nat) (hi : i < 12) :
    ∃ x, ([a, b] : List Byte)[i / 8]? = some x ∧ x.getLsbD (7 - i % 8) = (a ++ b.extractLsb' 4 4).getLsbD (11 - i) := by
  by_cases h : i < 8
  · refine ⟨a, by simp [show i / 8 = 0 by omega], ?_⟩
    rw [BitVec.getLsbD_append, if_neg (by omega)]
    congr 1
    omega
  · refine ⟨b, by simp [show i / 8 = 1 by omega], ?_⟩
    rw [BitVec.getLsbD_append, if_pos (by omega), BitVec.getLsbD_extractLsb', decide_eq_true (by omega), Bool.true_and]
    congr 1
    omega

/-- The bits of the second lane that three bytes hold. -/
theorem bit_of_three (a b c : Byte) (i : Nat) (hi : i < 12) :
    ∃ x, ([a, b, c] : List Byte)[(12 + i) / 8]? = some x ∧
      x.getLsbD (7 - (12 + i) % 8) = (b.extractLsb' 0 4 ++ c).getLsbD (11 - i) := by
  by_cases h : i < 4
  · refine ⟨b, by simp [show (12 + i) / 8 = 1 by omega], ?_⟩
    rw [BitVec.getLsbD_append, if_neg (by omega), BitVec.getLsbD_extractLsb', decide_eq_true (by omega), Bool.true_and]
    congr 1
    omega
  · refine ⟨c, by simp [show (12 + i) / 8 = 2 by omega], ?_⟩
    rw [BitVec.getLsbD_append, if_pos (by omega)]
    congr 1
    omega

/-- A byte found in the front of a list is found in the list. -/
theorem getElem?_append_of_some {α : Type} {l m : List α} {i : Nat} {x : α} (h : l[i]? = some x) : (l ++ m)[i]? = some x := by
  rw [List.getElem?_append_left (List.getElem?_eq_some_iff.mp h).1, h]

/-- Bit i of lane k, from its most significant bit, is bit 12k + i of the bytes (R7). -/
theorem unpackLanes_bit (n : Nat) (bytes : List Byte) (k i : Nat) (lane : Lane)
    (hk : (unpackLanes n bytes)[k]? = some lane) (hi : i < 12) :
    ∃ b, bytes[(12 * k + i) / 8]? = some b ∧ b.getLsbD (7 - (12 * k + i) % 8) = lane.getLsbD (11 - i) := by
  induction n, bytes using unpackLanes.induct generalizing k with
  | case1 bytes => simp [unpackLanes] at hk
  | case2 a b r =>
    match k, hk with
    | 0, hk =>
      obtain rfl := Option.some.inj hk
      obtain ⟨x, hx, bit⟩ := bit_of_two a b i hi
      exact ⟨x, by simpa using getElem?_append_of_some (m := r) hx, by simpa using bit⟩
    | k + 1, hk => simp [unpackLanes] at hk
  | case3 n a b c r ih =>
    match k, hk with
    | 0, hk =>
      obtain rfl := Option.some.inj hk
      obtain ⟨x, hx, bit⟩ := bit_of_two a b i hi
      exact ⟨x, by simpa using getElem?_append_of_some (m := c :: r) hx, by simpa using bit⟩
    | 1, hk =>
      obtain rfl := Option.some.inj hk
      obtain ⟨x, hx, bit⟩ := bit_of_three a b c i hi
      exact ⟨x, by simpa using getElem?_append_of_some (m := r) hx, by simpa using bit⟩
    | k + 2, hk =>
      obtain ⟨x, hx, bit⟩ := ih k (by simpa [unpackLanes] using hk)
      refine ⟨x, ?_, ?_⟩
      · rw [show (12 * (k + 2) + i) / 8 = (12 * k + i) / 8 + 3 by omega]
        exact hx
      · rw [show (12 * (k + 2) + i) % 8 = (12 * k + i) % 8 by omega]
        exact bit
  | case4 n bytes h0 h1 h2 => simp [unpackLanes] at hk

/-- Bits laid before others weigh as many places more. -/
theorem toNat_append_add {m n : Nat} (x : BitVec m) (y : BitVec n) : (x ++ y).toNat = x.toNat * 2 ^ n + y.toNat := by
  rw [BitVec.toNat_append, ← Nat.shiftLeft_add_eq_or_of_lt y.isLt, Nat.shiftLeft_eq]

/-- The pad half-byte of an odd number of lanes is zero (R7). -/
theorem packLanes_pad (l : List Lane) (odd : l.length % 2 = 1) :
    ∃ b, (packLanes l)[12 * l.length / 8]? = some b ∧ b.toNat % 16 = 0 := by
  induction l using packLanes.induct with
  | case1 => simp at odd
  | case2 l =>
    refine ⟨l.extractLsb' 0 4 ++ 0#4, by simp [packLanes], ?_⟩
    rw [toNat_append_add]
    simp
  | case3 l m r ih =>
    obtain ⟨b, hb, pad⟩ := ih (by simp only [List.length_cons] at odd; omega)
    refine ⟨b, ?_, pad⟩
    rw [show 12 * (l :: m :: r).length / 8 = 12 * r.length / 8 + 3 by simp only [List.length_cons]; omega]
    exact hb

/-! The header (R7). -/

/-- The number of a kind (R7). -/
theorem code_toNat (k : FrameKind) :
    k.code.toNat = (match k with | .state => 1 | .sample => 2 | .order => 3 | .mgmt => 4 | .report => 5) := by
  cases k <;> rfl

/-- A number names the kind whose number it is. -/
theorem ofCode_eq_some (c : BitVec 3) (k : FrameKind) : FrameKind.ofCode c = some k ↔ c = k.code := by
  revert c
  cases k <;> decide

/-- The legal lane counts of a kind (R6). -/
theorem lanesLegal_iff (f : Frame) : f.lanesLegal ↔ laneCountOk f.kind f.lanes.length = true := by
  unfold Frame.lanesLegal laneCountOk
  cases f.kind <;> simp

/-- A legal lane count is at most 6. -/
theorem laneCountOk_le {k : FrameKind} {n : Nat} (h : laneCountOk k n = true) : 1 ≤ n ∧ n ≤ 6 := by
  unfold laneCountOk at h
  cases k <;> simp at h <;> omega

theorem lanesLegal_le {f : Frame} (h : f.lanesLegal) : 1 ≤ f.lanes.length ∧ f.lanes.length ≤ 6 :=
  laneCountOk_le ((lanesLegal_iff f).mp h)

theorem headerByte0_toNat (f : Frame) : (headerByte0 f).toNat = f.kind.code.toNat * 32 + f.hops.toNat * 4 := by
  simp only [headerByte0, toNat_append_add, BitVec.toNat_ofNat]
  omega

theorem headerByte1_toNat (f : Frame) : (headerByte1 f).toNat = f.source.toNat * 16 + f.target.toNat :=
  toNat_append_add f.source f.target

theorem headerByte2_toNat (f : Frame) (h : f.lanes.length < 8) :
    (headerByte2 f).toNat = f.tag.toNat * 16 + (if f.cooked then 8 else 0) + f.lanes.length := by
  simp only [headerByte2, toNat_append_add, BitVec.toNat_ofNat, Nat.mod_eq_of_lt h]
  cases f.cooked <;> simp <;> omega

theorem laneCount_headerByte2 (f : Frame) (h : f.lanes.length < 8) : laneCount (headerByte2 f) = f.lanes.length := by
  rw [laneCount_eq, headerByte2_toNat f h]
  split <;> omega

/-! What is sent (R4, R7, R8). -/

/-- The bytes of a frame as sent: header, lanes, check byte. -/
theorem encodeFrame_eq (f : Frame) :
    encodeFrame f = headerByte0 f :: headerByte1 f :: headerByte2 f :: (packLanes f.lanes ++ [crc (frameBody f)]) := rfl

theorem encodeFrame_dropLast (f : Frame) : (encodeFrame f).dropLast = frameBody f := List.dropLast_concat

theorem encodeFrame_length (f : Frame) : (encodeFrame f).length = frameLength f.lanes.length := by
  simp only [encodeFrame_eq, List.length_cons, List.length_append, packLanes_length, List.length_nil, frameLength]
  omega

/-! What is read (R6, R7, R9). -/

/-- The fields of a header and the lanes behind it, for a kind and lane count that are legal. -/
def fieldsOf (k : FrameKind) (b0 b1 b2 : Byte) (lanes : List Byte) : Frame :=
  { kind := k, hops := b0.extractLsb' 2 3, source := b1.extractLsb' 4 4, target := b1.extractLsb' 0 4,
    tag := b2.extractLsb' 4 4, cooked := b2.getLsbD 3, lanes := unpackLanes (laneCount b2) lanes }

/-- Bytes in the shape of a frame: their length is that of the lane count, and kind, source, lane count and check byte are
right (R6, R8, R9). -/
structure WellShaped (k : FrameKind) (b0 b1 b2 : Byte) (lanes : List Byte) (c : Byte) : Prop where
  kind : b0.extractLsb' 5 3 = k.code
  source : b1.extractLsb' 4 4 ≠ 15#4
  count : laneCountOk k (laneCount b2) = true
  length : lanes.length = laneBytes (laneCount b2)
  check : c = crc (b0 :: b1 :: b2 :: lanes)

theorem dropLast_getLastD_concat (b0 b1 b2 c : Byte) (lanes : List Byte) :
    (b0 :: b1 :: b2 :: (lanes ++ [c])).dropLast = b0 :: b1 :: b2 :: lanes ∧
      (b0 :: b1 :: b2 :: (lanes ++ [c])).getLastD 0 = c := by
  constructor
  · exact List.dropLast_concat (l₁ := b0 :: b1 :: b2 :: lanes)
  · rw [show b0 :: b1 :: b2 :: (lanes ++ [c]) = (b0 :: b1 :: b2 :: lanes) ++ [c] from rfl, List.getLastD_concat]

/-- Bytes are read as a frame exactly where they have its shape, and then its fields stand at their places. -/
theorem parseFrame_eq_some (bytes : List Byte) (f : Frame) : parseFrame bytes = some f ↔
    ∃ k b0 b1 b2 lanes c, bytes = b0 :: b1 :: b2 :: (lanes ++ [c]) ∧ WellShaped k b0 b1 b2 lanes c ∧
      f = fieldsOf k b0 b1 b2 lanes := by
  constructor
  · intro h
    unfold parseFrame at h
    split at h
    · rename_i b0 b1 b2 rest
      split at h
      · rename_i shape
        obtain ⟨length, check⟩ := shape
        obtain ⟨lanes, c, rfl⟩ : ∃ lanes c, rest = lanes ++ [c] := by
          rcases List.eq_nil_or_concat rest with rfl | ⟨lanes, c, rfl⟩
          · simp at length
          · exact ⟨lanes, c, by simp⟩
        obtain ⟨init, last⟩ := dropLast_getLastD_concat b0 b1 b2 c lanes
        rw [init, last] at check
        rw [List.dropLast_concat] at h
        unfold readFields at h
        split at h
        · exact absurd h (by simp)
        · rename_i k hk
          split at h
          · exact absurd h (by simp)
          · rename_i legal
            push Not at legal
            refine ⟨k, b0, b1, b2, lanes, c, rfl, ⟨(ofCode_eq_some _ k).mp hk, legal.1, by simpa using legal.2, ?_, check.symm⟩,
              (Option.some.inj h).symm⟩
            simpa using length
      · exact absurd h (by simp)
    · exact absurd h (by simp)
  · rintro ⟨k, b0, b1, b2, lanes, c, rfl, shape, rfl⟩
    obtain ⟨init, last⟩ := dropLast_getLastD_concat b0 b1 b2 c lanes
    simp only [parseFrame, init, last, List.dropLast_concat]
    rw [if_pos ⟨by simpa using shape.length, shape.check.symm⟩]
    simp [readFields, (ofCode_eq_some _ k).mpr shape.kind, shape.source, shape.count, fieldsOf]

/-- A field of a byte, as a number. -/
theorem extract_toNat (b : Byte) (start len : Nat) : (b.extractLsb' start len).toNat = b.toNat / 2 ^ start % 2 ^ len := by
  rw [BitVec.extractLsb'_toNat, Nat.shiftRight_eq_div_pow]

/-- Bit 3 of byte 2 marks a cooked frame. -/
theorem getLsbD_three (b : Byte) : b.getLsbD 3 = decide (b.toNat / 8 % 2 = 1) :=
  Nat.testBit_eq_decide_div_mod_eq

/-- The kind of a frame as sent is read (R7). -/
theorem headerByte0_kind (f : Frame) : (headerByte0 f).extractLsb' 5 3 = f.kind.code := by
  apply BitVec.eq_of_toNat_eq
  rw [extract_toNat, headerByte0_toNat]
  have := f.kind.code.isLt
  have := f.hops.isLt
  omega

/-- The source of a frame as sent is read (R7). -/
theorem headerByte1_source (f : Frame) : (headerByte1 f).extractLsb' 4 4 = f.source := by
  apply BitVec.eq_of_toNat_eq
  rw [extract_toNat, headerByte1_toNat]
  have := f.source.isLt
  have := f.target.isLt
  omega

/-- The header bytes of a frame as sent are read as its fields (R7). -/
theorem headerBytes_read (f : Frame) (h : f.lanes.length < 8) :
    fieldsOf f.kind (headerByte0 f) (headerByte1 f) (headerByte2 f) (packLanes f.lanes) = f := by
  have hops : (headerByte0 f).extractLsb' 2 3 = f.hops := by
    apply BitVec.eq_of_toNat_eq
    rw [extract_toNat, headerByte0_toNat]
    have := f.hops.isLt
    omega
  have target : (headerByte1 f).extractLsb' 0 4 = f.target := by
    apply BitVec.eq_of_toNat_eq
    rw [extract_toNat, headerByte1_toNat]
    have := f.target.isLt
    omega
  have tag : (headerByte2 f).extractLsb' 4 4 = f.tag := by
    apply BitVec.eq_of_toNat_eq
    rw [extract_toNat, headerByte2_toNat f h]
    have := f.tag.isLt
    split <;> omega
  have cooked : (headerByte2 f).getLsbD 3 = f.cooked := by
    rw [getLsbD_three, headerByte2_toNat f h]
    cases f.cooked <;> simp <;> omega
  rw [fieldsOf, hops, headerByte1_source, target, tag, cooked, laneCount_headerByte2 f h, unpackLanes_packLanes]

/-- Settles O17: what is sent has the shape of a frame, and its fields are read from where they were put. -/
theorem sentFramesAreReadBack : Obligations.SentFramesAreReadBack := by
  intro f source legal
  have short : f.lanes.length < 8 := by have := lanesLegal_le legal; omega
  have count := laneCount_headerByte2 f short
  rw [parseFrame_eq_some]
  exact ⟨f.kind, _, _, _, _, _, encodeFrame_eq f,
    { kind := headerByte0_kind f
      source := (headerByte1_source f).symm ▸ source
      count := count.symm ▸ (lanesLegal_iff f).mp legal
      length := count.symm ▸ packLanes_length _
      check := rfl },
    (headerBytes_read f short).symm⟩

/-! The layout as numbers (R4, R6 to R9). -/

/-- Every frame as sent ends in the check byte over the bytes before it (R8). -/
theorem encodeFrame_check (f : Frame) :
    ∃ c, (encodeFrame f).getLast? = some c ∧ c.toNat = checkByte (encodeFrame f).dropLast :=
  ⟨crc (frameBody f), List.getLast?_concat, by rw [crc_toNat, encodeFrame_dropLast]⟩

/-- The kind that a byte 0 names, with the lane counts that are legal for it (R6). -/
theorem kind_legal_iff (b0 : Byte) (n : Nat) : (∃ k : FrameKind, b0.extractLsb' 5 3 = k.code ∧ laneCountOk k n = true) ↔
    (b0.toNat / 32 = 1 ∧ n = 1) ∨ (b0.toNat / 32 = 2 ∧ 1 ≤ n ∧ n ≤ 4) ∨ (b0.toNat / 32 = 3 ∧ n = 1) ∨
      ((b0.toNat / 32 = 4 ∨ b0.toNat / 32 = 5) ∧ 1 ≤ n ∧ n ≤ 6) := by
  have named : ∀ k : FrameKind, b0.extractLsb' 5 3 = k.code ↔ b0.toNat / 32 = k.code.toNat := by
    intro k
    rw [← BitVec.toNat_inj, extract_toNat]
    have := b0.isLt
    omega
  simp only [named, code_toNat]
  constructor
  · rintro ⟨k, hk, hn⟩
    cases k <;> simp [laneCountOk] at hk hn <;> omega
  · rintro (⟨hk, hn⟩ | ⟨hk, hn⟩ | ⟨hk, hn⟩ | ⟨hk | hk, hn⟩)
    · exact ⟨.state, hk, by simp [laneCountOk, hn]⟩
    · exact ⟨.sample, hk, by simp [laneCountOk, hn]⟩
    · exact ⟨.order, hk, by simp [laneCountOk, hn]⟩
    · exact ⟨.mgmt, hk, by simp [laneCountOk, hn]⟩
    · exact ⟨.report, hk, by simp [laneCountOk, hn]⟩

/-- The source field of byte 1 is not 15 (R6). -/
theorem source_ne_iff (b1 : Byte) : b1.extractLsb' 4 4 ≠ 15#4 ↔ b1.toNat / 16 ≠ 15 := by
  rw [ne_eq, ← BitVec.toNat_inj, extract_toNat]
  have := b1.isLt
  simp
  omega

/-- The length of a frame of bytes, by its lane count (R4). -/
theorem length_iff (b0 b1 b2 c : Byte) (lanes : List Byte) :
    lengthOfLanes (b2.toNat % 8) = some (b0 :: b1 :: b2 :: (lanes ++ [c])).length ↔
      b2.toNat % 8 ≠ 7 ∧ lanes.length = laneBytes (laneCount b2) := by
  rw [lengthOfLanes_eq_some (by omega), laneCount_eq]
  simp only [List.length_cons, List.length_append, List.length_nil, frameLength]
  omega

/-- The check byte of a run of bytes, as a number (R8). -/
theorem check_iff (c : Byte) (bytes : List Byte) : c = crc bytes ↔ c.toNat = checkByte bytes := by
  rw [← crc_toNat, BitVec.toNat_inj]

/-- Bytes are a frame exactly where length, check byte, kind, source and lane count say so (R6, R8, R9). -/
theorem parseFrame_isSome_iff (bytes : List Byte) : (∃ f, parseFrame bytes = some f) ↔ ∃ b0 b1 b2 rest c,
    bytes = b0 :: b1 :: b2 :: rest ∧ bytes.getLast? = some c ∧ c.toNat = checkByte bytes.dropLast ∧
    lengthOfLanes (b2.toNat % 8) = some bytes.length ∧ b1.toNat / 16 ≠ 15 ∧
    ((b0.toNat / 32 = 1 ∧ b2.toNat % 8 = 1) ∨ (b0.toNat / 32 = 2 ∧ 1 ≤ b2.toNat % 8 ∧ b2.toNat % 8 ≤ 4) ∨
      (b0.toNat / 32 = 3 ∧ b2.toNat % 8 = 1) ∨
      ((b0.toNat / 32 = 4 ∨ b0.toNat / 32 = 5) ∧ 1 ≤ b2.toNat % 8 ∧ b2.toNat % 8 ≤ 6)) := by
  simp only [parseFrame_eq_some, ← kind_legal_iff]
  constructor
  · rintro ⟨f, k, b0, b1, b2, lanes, c, rfl, shape, -⟩
    obtain ⟨init, -⟩ := dropLast_getLastD_concat b0 b1 b2 c lanes
    have count := laneCount_eq b2 ▸ shape.count
    refine ⟨b0, b1, b2, _, c, rfl, List.getLast?_concat (l := b0 :: b1 :: b2 :: lanes), ?_, ?_,
      (source_ne_iff b1).mp shape.source, k, shape.kind, count⟩
    · rw [init]
      exact (check_iff _ _).mp shape.check
    · rw [length_iff]
      have := laneCountOk_le count
      exact ⟨by omega, shape.length⟩
  · rintro ⟨b0, b1, b2, rest, c, rfl, last, check, length, source, k, hk, count⟩
    obtain ⟨lanes, c', rfl⟩ : ∃ lanes c', rest = lanes ++ [c'] := by
      rcases List.eq_nil_or_concat rest with rfl | ⟨lanes, c', rfl⟩
      · rw [lengthOfLanes_eq_some (by omega)] at length
        simp only [frameLength, List.length_cons, List.length_nil] at length
        omega
      · exact ⟨lanes, c', by simp⟩
    obtain rfl : c' = c := by
      rw [show b0 :: b1 :: b2 :: (lanes ++ [c']) = (b0 :: b1 :: b2 :: lanes) ++ [c'] from rfl, List.getLast?_concat] at last
      exact Option.some.inj last
    obtain ⟨init, -⟩ := dropLast_getLastD_concat b0 b1 b2 c' lanes
    rw [init] at check
    refine ⟨_, k, b0, b1, b2, lanes, c', rfl, ⟨hk, (source_ne_iff b1).mpr source, (laneCount_eq b2).symm ▸ count,
      ((length_iff b0 b1 b2 c' lanes).mp length).2, (check_iff _ _).mpr check⟩, rfl⟩

/-- The lane bits behind a header of three bytes stand three bytes further on. -/
theorem bit_behind_header (b0 b1 b2 : Byte) (lanes more : List Byte) {n : Nat} {b : Byte} (h : lanes[n]? = some b) :
    (b0 :: b1 :: b2 :: (lanes ++ more))[3 + n]? = some b := by
  rw [Nat.add_comm]
  exact getElem?_append_of_some h

/-- The fields of a frame stand at their places in the bytes that are read as it (R7). -/
theorem parseFrame_layout (bytes : List Byte) (f : Frame) (h : parseFrame bytes = some f) :
    f.source ≠ 15 ∧ f.lanesLegal ∧
    (∃ b0 b1 b2 rest, bytes = b0 :: b1 :: b2 :: rest ∧
      b0.toNat / 32 = (match f.kind with | .state => 1 | .sample => 2 | .order => 3 | .mgmt => 4 | .report => 5) ∧
      b0.toNat / 4 % 8 = f.hops.toNat ∧ b1.toNat = f.source.toNat * 16 + f.target.toNat ∧
      b2.toNat = f.tag.toNat * 16 + (if f.cooked then 8 else 0) + f.lanes.length) ∧
    ∀ (k i : Nat) (lane : Lane), f.lanes[k]? = some lane → i < 12 →
      ∃ b, bytes[3 + (12 * k + i) / 8]? = some b ∧ b.getLsbD (7 - (12 * k + i) % 8) = lane.getLsbD (11 - i) := by
  obtain ⟨k, b0, b1, b2, lanes, c, rfl, shape, rfl⟩ := (parseFrame_eq_some bytes f).mp h
  have count : (fieldsOf k b0 b1 b2 lanes).lanes.length = laneCount b2 := unpackLanes_length _ _ shape.length
  refine ⟨shape.source, (lanesLegal_iff _).mpr (count.symm ▸ shape.count), ⟨b0, b1, b2, _, rfl, ?_, ?_, ?_, ?_⟩, ?_⟩
  · have kind := congrArg BitVec.toNat shape.kind
    rw [extract_toNat, code_toNat] at kind
    have := b0.isLt
    exact (show b0.toNat / 32 = b0.toNat / 2 ^ 5 % 2 ^ 3 by omega).trans kind
  · simp only [fieldsOf, extract_toNat]
    omega
  · simp only [fieldsOf, extract_toNat]
    have := b1.isLt
    omega
  · rw [count, laneCount_eq]
    simp only [fieldsOf, extract_toNat, getLsbD_three, decide_eq_true_eq]
    have := b2.isLt
    split <;> omega
  · intro j i lane hj hi
    obtain ⟨b, hb, bit⟩ := unpackLanes_bit _ _ j i lane hj hi
    exact ⟨b, bit_behind_header b0 b1 b2 lanes [c] hb, bit⟩

/-- The bytes of a frame as sent (R4, R7). -/
theorem encodeFrame_layout (f : Frame) (legal : f.lanesLegal) :
    lengthOfLanes f.lanes.length = some (encodeFrame f).length ∧
    (∃ b0 b1 b2 rest, encodeFrame f = b0 :: b1 :: b2 :: rest ∧
      b0.toNat = (match f.kind with | .state => 1 | .sample => 2 | .order => 3 | .mgmt => 4 | .report => 5) * 32
        + f.hops.toNat * 4 ∧
      b1.toNat = f.source.toNat * 16 + f.target.toNat ∧
      b2.toNat = f.tag.toNat * 16 + (if f.cooked then 8 else 0) + f.lanes.length) ∧
    (∀ (k i : Nat) (lane : Lane), f.lanes[k]? = some lane → i < 12 →
      ∃ b, (encodeFrame f)[3 + (12 * k + i) / 8]? = some b ∧
        b.getLsbD (7 - (12 * k + i) % 8) = lane.getLsbD (11 - i)) ∧
    (f.lanes.length % 2 = 1 → ∃ b, (encodeFrame f)[3 + 12 * f.lanes.length / 8]? = some b ∧ b.toNat % 16 = 0) := by
  have short : f.lanes.length < 7 := by have := lanesLegal_le legal; omega
  refine ⟨?_, ⟨_, _, _, _, encodeFrame_eq f, ?_, headerByte1_toNat f, headerByte2_toNat f (by omega)⟩, ?_, ?_⟩
  · rw [encodeFrame_length, lengthOfLanes_frameLength short]
  · rw [headerByte0_toNat, code_toNat]
  · intro k i lane hk hi
    obtain ⟨b, hb, bit⟩ := unpackLanes_bit f.lanes.length (packLanes f.lanes) k i lane ((unpackLanes_packLanes f.lanes).symm ▸ hk) hi
    exact ⟨b, bit_behind_header _ _ _ _ _ hb, bit⟩
  · intro odd
    obtain ⟨b, hb, pad⟩ := packLanes_pad f.lanes odd
    exact ⟨b, bit_behind_header _ _ _ _ _ hb, pad⟩

/-- Settles O18, by the shape of what is read and of what is sent. -/
theorem framesAreLaidOutInBytes : Obligations.FramesAreLaidOutInBytes :=
  ⟨encodeFrame_check, parseFrame_isSome_iff, parseFrame_layout, encodeFrame_layout⟩

end Sys2Proof.Machine
end

section
/-! PROOFS. A report that joins where every other copy is made (R16, R168), the raise that no link names (R160, R165), and what
links leave alone; the bad frame, the dispositions, the transmitter, REFRESH, DETECT and CLEAR_FAULTS follow. -/

namespace Sys2Proof.Machine

/-! What links leave alone, flags included. -/

/-- The fault unit with the flags left out that a demand-off clears (R105). -/
def FaultState.lessReleases (f : FaultState) : FaultState := { f with flags := (f.flags.set 1 0).set 2 0 }

/-- The hub with what the action matrix may change left out: outputs, flasher, OVERLOAD and STALL flags, and the count of open
orders. -/
def State.lessLinks (s : State) : State :=
  { s with
    outs := Vector.replicate 12 OutLive.reset
    flash := { left := FlashSource.reset, right := FlashSource.reset, hazard := FlashSource.reset }
    faults := s.faults.lessReleases
    choices := 0 }

theorem clearFlag_lessReleases (f : FaultState) (c : FaultClass) (i : Nat) (h : c = .overload ∨ c = .stall) :
    (f.clearFlag c i).lessReleases = f.lessReleases := by
  unfold FaultState.clearFlag FaultState.lessReleases
  congr 1
  apply Vector.ext
  intro k hk
  rcases h with rfl | rfl <;> simp only [modifyAt, FaultClass.number, Vector.getElem_set] <;> split_ifs <;>
    first | rfl | exact absurd ‹_› ‹_›

theorem clearUnlatched_lessLinks (c : FaultClass) (i : Nat) (s : State) (h : c = .overload ∨ c = .stall) :
    (clearUnlatched c i s).lessLinks = s.lessLinks := by
  unfold clearUnlatched
  split
  · rfl
  · simp only [State.lessLinks, clearFlag_lessReleases _ _ _ h]

@[simp] theorem demandOff_lessLinks (o : Fin 12) (s : State) : (demandOff o s).lessLinks = s.lessLinks := by
  unfold demandOff
  rw [clearUnlatched_lessLinks _ _ _ (.inr rfl), clearUnlatched_lessLinks _ _ _ (.inl rfl)]
  rfl

@[simp] theorem verbOnLamp_lessLinks (o : Fin 12) (releases : Bool) (v : Resolved) (s : State) :
    (verbOnLamp o releases v s).lessLinks = s.lessLinks := by
  unfold verbOnLamp
  simp only
  split
  · rw [demandOff_lessLinks]
    rfl
  · rfl

@[simp] theorem verbOnFan_lessLinks (o : Fin 12) (v : Resolved) (s : State) : (verbOnFan o v s).lessLinks = s.lessLinks := by
  unfold verbOnFan
  simp only
  split
  · rw [demandOff_lessLinks]
    rfl
  · rfl

@[simp] theorem verbOnOutput_lessLinks (o : Fin 12) (v : Resolved) (s : State) :
    (verbOnOutput o v s).lessLinks = s.lessLinks := by
  unfold verbOnOutput
  split <;> simp

@[simp] theorem applyOutputVerbs_lessLinks (verbs : Fin 15 → Option Resolved) (s : State) :
    (applyOutputVerbs verbs s).lessLinks = s.lessLinks := by
  unfold applyOutputVerbs
  apply foldl_keeps State.lessLinks
  intro t o
  split <;> simp

@[simp] theorem handContexts_lessLinks (before : Vector Bool 12) (new : FlashState) (s : State) :
    (handContexts before new s).lessLinks = s.lessLinks := by
  unfold handContexts
  simp only
  rw [foldl_keeps State.lessLinks]
  · rfl
  · intro t o
    split <;> simp

/-- Actions that keep to what the matrix may change, and the drives after them, keep to it. -/
theorem redriven_lessLinks (acts : List (State → State)) (s : State)
    (keeps : ∀ f ∈ acts, ∀ t, (f t).lessLinks = t.lessLinks) :
    (if acts.isEmpty then s else redriveAll (anyOrder acts s)).lessLinks = s.lessLinks := by
  split
  · rfl
  · exact anyOrder_keeps State.lessLinks acts s (fun _ _ => rfl) keeps

@[simp] theorem handVerbs_lessLinks (verbs : Fin 15 → Option Resolved) (s : State) :
    (handVerbs verbs s).lessLinks = s.lessLinks := by
  unfold handVerbs
  apply redriven_lessLinks
  intro f hf t
  rcases List.mem_append.mp hf with hf | hf <;> split at hf <;> simp at hf <;> subst hf <;> simp [applyFlashVerbs]

/-- An event of the action matrix changes outputs, flasher and the flags that a demand-off clears (R74, R105). -/
@[simp] theorem matrixEvent_lessLinks (ev : MatrixEvent) (s : State) : (matrixEvent ev s).lessLinks = s.lessLinks := by
  simp [matrixEvent]

@[simp] theorem orderEvent_lessLinks (tag : BitVec 4) (lane : Lane) (s : State) :
    (orderEvent tag lane s).lessLinks = s.lessLinks := by
  unfold orderEvent
  split
  · split <;> simp
  · rfl

@[simp] theorem switchEvent_lessLinks (pod : Fin 9) (rise fall : BitVec 12) (s : State) :
    (switchEvent pod rise fall s).lessLinks = s.lessLinks := by
  unfold switchEvent
  split <;> simp

/-- The flags of the other classes, the capture slots and LOST are among what links leave alone. -/
theorem isSet_of_lessLinks {s t : State} (h : t.lessLinks = s.lessLinks) (c : FaultClass) (i : Nat)
    (other : c ≠ .overload ∧ c ≠ .stall) : t.faults.isSet c i = s.faults.isSet c i := by
  have whole := congrArg (fun u : State => u.faults.isSet c i) h
  have flags : ∀ f : FaultState, f.lessReleases.isSet c i = f.isSet c i := by
    intro f
    unfold FaultState.isSet FaultState.lessReleases
    cases c <;> simp_all [FaultClass.number]
  simpa only [State.lessLinks, flags] using whole

theorem capture_of_lessLinks {s t : State} (h : t.lessLinks = s.lessLinks) :
    t.faults.capture = s.faults.capture ∧ t.faults.lost = s.faults.lost :=
  ⟨(congrArg (fun u : State => u.faults.capture) h :), (congrArg (fun u : State => u.faults.lost) h :)⟩

/-! A flag of the fault unit, set and cleared. -/

/-- The place of bit i in a word of twelve. -/
theorem bit_getLsbD (i j : Nat) : (1#12 <<< i).getLsbD j = (decide (j = i) && decide (j < 12)) := by
  rw [BitVec.getLsbD_shiftLeft]
  by_cases h : j = i
  · subst h
    by_cases h2 : j < 12 <;> simp [h2]
  · by_cases h2 : j < i <;> simp [h, h2]
    omega

theorem number_inj {c d : FaultClass} : c.number = d.number ↔ c = d := by
  cases c <;> cases d <;> decide

theorem isSet_setFlag (f : FaultState) (c d : FaultClass) (i j : Nat) :
    (f.setFlag c i).isSet d j = (f.isSet d j || (decide (d = c) && decide (j = i) && decide (j < 12))) := by
  unfold FaultState.isSet FaultState.setFlag
  by_cases h : d = c
  · subst h
    simp only [getElem_modifyAt_self, BitVec.getLsbD_or, bit_getLsbD]
    simp
  · rw [getElem_modifyAt_ne _ _ _ _ (fun e => h (number_inj.mp e))]
    simp [h]

theorem isSet_clearFlag (f : FaultState) (c d : FaultClass) (i j : Nat) :
    (f.clearFlag c i).isSet d j = (f.isSet d j && !(decide (d = c) && decide (j = i))) := by
  unfold FaultState.isSet FaultState.clearFlag
  by_cases h : d = c
  · subst h
    simp only [getElem_modifyAt_self, BitVec.getLsbD_and, BitVec.getLsbD_not, bit_getLsbD]
    by_cases h2 : j < 12
    · simp [h2]
    · simp [h2, BitVec.getLsbD_of_ge _ _ (Nat.not_lt.mp h2)]
  · rw [getElem_modifyAt_ne _ _ _ _ (fun e => h (number_inj.mp e))]
    simp [h]

/-- A clearing event takes its own flag alone, where the class is not latched (R162). -/
theorem isSet_clearUnlatched (s : State) (c d : FaultClass) (i j : Nat) : (clearUnlatched c i s).faults.isSet d j =
    (s.faults.isSet d j && !(decide (d = c) && decide (j = i) && !s.tables.hub.latches c)) := by
  unfold clearUnlatched
  cases h : s.tables.hub.latches c
  · simp [isSet_clearFlag]
  · simp

/-! A report that joins at the end of the list. -/

/-- The hub with records put behind its queues. -/
def State.queued (s : State) (more : PortId → List FrameRecord) : State :=
  { s with
    fore := { s.fore with queue := s.fore.queue ++ more .fore }
    aft := { s.aft with queue := s.aft.queue ++ more .aft } }

@[simp] theorem queued_none (s : State) : (s.queued fun _ => []) = s := by
  simp [State.queued]

@[simp] theorem queued_port (s : State) (more : PortId → List FrameRecord) (p : PortId) :
    (s.queued more).port p = { s.port p with queue := (s.port p).queue ++ more p } := by
  cases p <;> rfl

/-- The hub with another pending list. -/
def State.listing (s : State) (l : List PendingReport) : State := { s with reports := { s.reports with list := l } }

@[simp] theorem listing_list (s : State) (l : List PendingReport) : (s.listing l).reports.list = l := rfl

@[simp] theorem listing_port (s : State) (l : List PendingReport) (p : PortId) : (s.listing l).port p = s.port p := by
  cases p <;> rfl

@[simp] theorem listing_listing (s : State) (l m : List PendingReport) : (s.listing l).listing m = s.listing m := rfl

@[simp] theorem listing_queued (s : State) (l : List PendingReport) (more : PortId → List FrameRecord) :
    (s.listing l).queued more = (s.queued more).listing l := rfl

/-- A copy can be made of this report for a port (R16). -/
def canCopy (s : State) (r : PendingReport) (p : PortId) : Bool := r.wants p && decide ((s.port p).queue.length < 8)

/-- A report at the end of the list, or gone where no copy of it is outstanding (R16, R170). -/
def endsAs (l : List PendingReport) (r : PendingReport) (s : State) : State :=
  if r.done then afterLeaving r (s.listing l) else s.listing (l ++ [r])

/-- The record of a report is made from what reports do not change, and MGMT-OVERRUN. -/
theorem reportRecord_congr {s t : State} (h : t.lessReports = s.lessReports) (overrun : t.reports.overrun = s.reports.overrun)
    (body : ReportBody) : reportRecord t body = reportRecord s body := by
  have node := congrArg State.node h
  have tables := congrArg State.tables h
  have gauges := congrArg State.gauges h
  have lanes : lane0 t = lane0 s := (congrArg lane0 h :)
  have items : lane1Items t = lane1Items s := (congrArg lane1Items h :)
  simp only [State.lessReports] at node tables gauges
  cases body <;> simp only [reportRecord, stateLanes, lane1, node, tables, gauges, lanes, items, overrun]

theorem reportRecord_copied (s : State) (r : PendingReport) (p : PortId) (overrun : Bool) :
    reportRecord s (r.copied p overrun).body = reportRecord s r.body := by
  obtain ⟨body, toFore, toAft⟩ := r
  cases body <;> rfl

@[simp] theorem copied_wants (r : PendingReport) (p q : PortId) (overrun : Bool) :
    (r.copied p overrun).wants q = (r.wants q && decide (p ≠ q)) := by
  cases q <;> rfl

theorem copied_isState (r : PendingReport) (p : PortId) (overrun : Bool) : (r.copied p overrun).body.isState = r.body.isState := by
  obtain ⟨body, toFore, toAft⟩ := r
  cases body <;> rfl

theorem done_iff (r : PendingReport) : r.done = true ↔ ∀ p, r.wants p = false := by
  rw [forall_port_iff .fore]
  simp [PendingReport.done, PendingReport.wants, PortId.opposite]

/-- The copy of a report at the end of the list, where nothing before it is pending for the port. -/
theorem copyOne_last (p : PortId) (s : State) (l : List PendingReport) (r : PendingReport) (hl : s.reports.list = l ++ [r])
    (served : (s.port p).queue.length < 8 → ∀ x ∈ l, x.wants p = false) (can : canCopy s r p = true) :
    copyOne p s = some (endsAs l (r.copied p s.reports.overrun)
      (s.queued fun q => if q = p then [reportRecord s r.body] else [])) := by
  simp only [canCopy, Bool.and_eq_true, decide_eq_true_eq] at can
  obtain ⟨wants, room⟩ := can
  rw [copyOne_some p s l r [] room hl (served room) wants]
  simp only [endsAs, List.append_nil]
  cases p <;> simp [State.queued, State.setPort, State.port, State.listing]

/-- A report at the end of the list for which no copy can be made. -/
theorem copyOne_last_none (p : PortId) (s : State) (l : List PendingReport) (r : PendingReport) (hl : s.reports.list = l ++ [r])
    (served : (s.port p).queue.length < 8 → ∀ x ∈ l, x.wants p = false) (can : canCopy s r p = false) :
    copyOne p s = none := by
  refine copyOne_none p s fun room x hx => ?_
  rcases List.mem_append.mp (hl ▸ hx) with hx | hx
  · exact served room x hx
  · rw [List.mem_singleton.mp hx]
    simpa [canCopy, room] using can

theorem afterLeaving_list (r : PendingReport) (s : State) (h : r.body.isState = true → s.reports.held = false) :
    (afterLeaving r s).reports.list = s.reports.list := by
  obtain ⟨body, toFore, toAft⟩ := r
  cases body with
  | state copied all =>
    have held := h rfl
    unfold afterLeaving
    cases all <;> simp [held]
  | reply _ _ _ _ => rfl
  | fault _ _ => rfl

@[simp] theorem endsAs_port (l : List PendingReport) (r : PendingReport) (s : State) (p : PortId) :
    (endsAs l r s).port p = s.port p := by
  unfold endsAs
  split <;> simp

/-- What is left of a report that has its copies leaves nothing more to copy. -/
theorem endsAs_copiesMade (l : List PendingReport) (r : PendingReport) (s : State)
    (held : r.body.isState = true → s.reports.held = false)
    (served : ∀ p, (s.port p).queue.length < 8 → ∀ x ∈ l, x.wants p = false)
    (done : ∀ p, (s.port p).queue.length < 8 → r.wants p = false) : (endsAs l r s).copiesMade := by
  have each : ∀ p, State.portServed (endsAs l r s) p := by
    intro p room x hx
    rw [endsAs_port] at room
    unfold endsAs at hx
    split at hx
    · rw [afterLeaving_list r (s.listing l) held] at hx
      exact served p room x hx
    · rcases List.mem_append.mp hx with hx | hx
      · exact served p room x hx
      · rw [List.mem_singleton.mp hx]
        exact done p room
  exact ⟨each .fore, each .aft⟩

/-- A report after the copies that can be made of it. -/
def copiedWhere (s : State) (r : PendingReport) : PendingReport :=
  let r1 := if canCopy s r .fore then r.copied .fore s.reports.overrun else r
  if canCopy s r .aft then r1.copied .aft s.reports.overrun else r1

/-- The records that the copies of a report put into the queues. -/
def copiesOf (s : State) (r : PendingReport) (p : PortId) : List FrameRecord :=
  if canCopy s r p then [reportRecord s r.body] else []

theorem copiedWhere_wants (s : State) (r : PendingReport) (p : PortId) :
    (copiedWhere s r).wants p = (r.wants p && !canCopy s r p) := by
  unfold copiedWhere
  cases hf : canCopy s r .fore <;> cases ha : canCopy s r .aft <;> cases p <;> simp [hf, ha]

theorem copiedWhere_isState (s : State) (r : PendingReport) : (copiedWhere s r).body.isState = r.body.isState := by
  unfold copiedWhere
  cases canCopy s r .fore <;> cases canCopy s r .aft <;> simp [copied_isState]

/-- What the list held before plays no part in how a report ends. -/
theorem endsAs_relisted (l m : List PendingReport) (r : PendingReport) (s : State) :
    endsAs l r (s.listing m) = endsAs l r s := rfl

/-- A round whose one copy leaves nothing more to copy. -/
theorem copyReports_once (n : Nat) (s t : State)
    (h : copyOne .fore s = some t ∨ (copyOne .fore s = none ∧ copyOne .aft s = some t)) (still : t.copiesMade) :
    copyReports (n + 1) s = t := by
  rw [copyReports_first n s t h, copyReports_still n t still]

/-- The hub after one copy of a report at the end of the list that is outstanding for the other port still. -/
def afterCopy (p : PortId) (l : List PendingReport) (s : State) (r : PendingReport) : State :=
  (s.queued fun q => if q = p then [reportRecord s r.body] else []).listing (l ++ [r.copied p s.reports.overrun])

theorem reportRecord_afterCopy (p : PortId) (l : List PendingReport) (s : State) (r : PendingReport) (body : ReportBody) :
    reportRecord (afterCopy p l s r) body = reportRecord s body :=
  reportRecord_congr rfl rfl body

/-- The rounds with one report at the end of the list and nothing else to copy: every copy is made for which there is room, and
the report stays with what is outstanding, or leaves (R16). -/
theorem copyReports_last (n : Nat) (s : State) (l : List PendingReport) (r : PendingReport) (hl : s.reports.list = l ++ [r])
    (served : ∀ p, (s.port p).queue.length < 8 → ∀ x ∈ l, x.wants p = false) (pending : r.done = false)
    (held : r.body.isState = true → s.reports.held = false) :
    copyReports (n + 2) s = endsAs l (copiedWhere s r) (s.queued (copiesOf s r)) := by
  have still : (endsAs l (copiedWhere s r) (s.queued (copiesOf s r))).copiesMade := by
    have shorter : ∀ p, ((s.queued (copiesOf s r)).port p).queue.length < 8 → (s.port p).queue.length < 8 := by
      intro p room
      simp only [queued_port, List.length_append] at room
      omega
    refine endsAs_copiesMade _ _ _ ?_ (fun p room => served p (shorter p room)) fun p room => ?_
    · simpa [copiedWhere_isState, State.queued] using held
    · have := shorter p room
      simp [copiedWhere_wants, canCopy, this]
  cases hf : canCopy s r .fore with
  | true =>
    have first := copyOne_last .fore s l r hl (served .fore) hf
    cases ha : canCopy s r .aft with
    | true =>
      have wantsAft : r.wants .aft = true := (Bool.and_eq_true _ _ ▸ ha : _ ∧ _).1
      have roomAft : (s.port .aft).queue.length < 8 := of_decide_eq_true (Bool.and_eq_true _ _ ▸ ha : _ ∧ _).2
      have waits : (r.copied .fore s.reports.overrun).done = false := by
        rw [← Bool.not_eq_true, done_iff, not_forall]
        exact ⟨.aft, by simp [wantsAft]⟩
      have first : copyOne .fore s = some (afterCopy .fore l s r) := by
        rw [first, endsAs, if_neg (by simp [waits])]
        rfl
      rw [copyReports_first (n + 1) _ _ (.inl first)]
      refine copyReports_once n _ _ (.inr ⟨?_, ?_⟩) still
      · refine copyOne_last_none .fore _ l _ rfl (fun room => served .fore ?_) (by simp [canCopy])
        simp only [State.port, afterCopy, State.listing, State.queued, List.length_append] at room ⊢
        omega
      · refine (copyOne_last .aft _ l _ rfl (fun room => served .aft ?_) ?_).trans ?_
        · simpa [afterCopy] using room
        · simpa [canCopy, wantsAft, afterCopy] using roomAft
        · rw [reportRecord_afterCopy, reportRecord_copied]
          simp only [copiedWhere, hf, ha, if_true]
          rw [← endsAs_relisted l (l ++ [r.copied .fore s.reports.overrun]) _ (s.queued _)]
          simp [afterCopy, State.listing, State.queued, copiesOf, hf, ha]
    | false =>
      refine copyReports_once (n + 1) s _ (.inl (first.trans ?_)) still
      simp [copiedWhere, hf, ha, State.queued, copiesOf]
  | false =>
    have none := copyOne_last_none .fore s l r hl (served .fore) hf
    cases ha : canCopy s r .aft with
    | true =>
      refine copyReports_once (n + 1) s _ (.inr ⟨none, (copyOne_last .aft s l r hl (served .aft) ha).trans ?_⟩) still
      simp [copiedWhere, hf, ha, State.queued, copiesOf]
    | false =>
      have same : endsAs l (copiedWhere s r) (s.queued (copiesOf s r)) = s := by
        simp only [copiedWhere, hf, ha, State.queued, copiesOf, endsAs, pending, Bool.false_eq_true, if_false,
          List.append_nil, State.listing]
        rw [← hl]
      rw [same] at still ⊢
      exact copyReports_still _ s still

/-! STATE and FAULT reports on their way. -/

/-- The model's copies for the report port are those of `reportPut`. -/
theorem canCopy_goesTo (s : State) (r : PendingReport) (p : PortId) (h : r.wants p = goesTo s p) :
    canCopy s r p = (goesTo s p && !leftFor s p) := by
  unfold canCopy leftFor
  rw [h]
  by_cases room : (s.port p).queue.length < 8
  · have : ¬ 8 ≤ (s.port p).queue.length := by omega
    simp [room, this]
  · have : 8 ≤ (s.port p).queue.length := by omega
    simp [room, this]

/-- What is outstanding of a report for the report port. -/
theorem outstanding_eq (s : State) (r : PendingReport) (p : PortId) (h : r.wants p = goesTo s p) :
    (copiedWhere s r).wants p = leftFor s p := by
  rw [copiedWhere_wants, canCopy_goesTo s r p h, h]
  unfold leftFor
  cases goesTo s p <;> simp

/-- A report for the report port is pending for some port. -/
theorem goesTo_some (s : State) : goesTo s .fore = true ∨ goesTo s .aft = true := by
  unfold goesTo
  cases s.tables.hub.reportPort <;> simp

theorem reportPut_eq_queued (s : State) (f : Frame) : reportPut s f =
    s.queued fun p => if goesTo s p && !leftFor s p then [{ frame := f, note := .report }] else [] := rfl

@[simp] theorem reportPut_reports (s : State) (f : Frame) : (reportPut s f).reports = s.reports := rfl

/-- A report is the pair of its body and the ports for which it is pending. -/
theorem pendingReport_ext {r q : PendingReport} (body : r.body = q.body) (wants : ∀ p, r.wants p = q.wants p) : r = q := by
  obtain ⟨b, f, a⟩ := r
  obtain ⟨b', f', a'⟩ := q
  obtain rfl : b = b' := body
  obtain rfl : f = f' := wants .fore
  obtain rfl : a = a' := wants .aft
  rfl

theorem goesTo_done (s : State) (r : PendingReport) (h : ∀ p, r.wants p = goesTo s p) : r.done = false := by
  rw [← Bool.not_eq_true, done_iff, not_forall]
  rcases goesTo_some s with g | g
  · exact ⟨.fore, by simp [h, g]⟩
  · exact ⟨.aft, by simp [h, g]⟩

theorem copiedWhere_fault (s : State) (r : PendingReport) (slot : Fin 2) (lanes : List Lane) (h : r.body = .fault slot lanes) :
    (copiedWhere s r).body = .fault slot lanes := by
  unfold copiedWhere
  cases canCopy s r .fore <;> cases canCopy s r .aft <;> simp [PendingReport.copied, h]

/-- A report that is no STATE report leaves without a trace. -/
theorem endsAs_other (l : List PendingReport) (r : PendingReport) (s : State) (h : r.body.isState = false) :
    endsAs l r s = s.listing (if r.done then l else l ++ [r]) := by
  obtain ⟨body, toFore, toAft⟩ := r
  cases body with
  | state _ _ => exact absurd h (by simp [ReportBody.isState])
  | reply _ _ _ _ => unfold endsAs; split <;> rfl
  | fault _ _ => unfold endsAs; split <;> rfl

/-- The list plays no part in what copies can be made. -/
@[simp] theorem canCopy_listing (s : State) (l : List PendingReport) (r : PendingReport) (p : PortId) :
    canCopy (s.listing l) r p = canCopy s r p := by
  simp [canCopy]

@[simp] theorem copiedWhere_listing (s : State) (l : List PendingReport) (r : PendingReport) :
    copiedWhere (s.listing l) r = copiedWhere s r := by
  simp only [copiedWhere, canCopy_listing]
  rfl

@[simp] theorem copiesOf_listing (s : State) (l : List PendingReport) (r : PendingReport) :
    copiesOf (s.listing l) r = copiesOf s r := by
  funext p
  simp only [copiesOf, canCopy_listing, reportRecord_congr (s := s) (t := s.listing l) rfl rfl]

/-- A report that joins a hub whose copies are made (R16, R168). -/
theorem copyReports_joined (n : Nat) (s : State) (r : PendingReport) (h : s.copiesMade) (pending : r.done = false)
    (held : r.body.isState = true → s.reports.held = false) :
    copyReports (n + 2) (s.listing (s.reports.list ++ [r])) =
      endsAs s.reports.list (copiedWhere s r) (s.queued (copiesOf s r)) := by
  refine (copyReports_last n (s.listing (s.reports.list ++ [r])) s.reports.list r rfl
    (fun p => (forall_port_iff .fore _).mpr h p) pending held).trans ?_
  rw [copiedWhere_listing, copiesOf_listing, listing_queued, endsAs_relisted]

/-- The frame of a FAULT report (R12, R171). -/
def faultFrame (s : State) (slot : Fin 2) (r : CaptureRecord) : Frame :=
  { kind := .report, hops := s.tables.hub.originHops, source := s.node, target := 15, tag := 2, cooked := false,
    lanes := reportLanes slot r }

/-- What a report for the report port puts into the queues. -/
theorem queued_copiesOf (s : State) (r : PendingReport) (f : Frame) (wants : ∀ p, r.wants p = goesTo s p)
    (record : reportRecord s r.body = { frame := f, note := .report }) : s.queued (copiesOf s r) = reportPut s f := by
  rw [reportPut_eq_queued]
  congr 1
  funext p
  rw [copiesOf, canCopy_goesTo s r p (wants p), record]

/-- A report for the report port has all its copies where nothing is left for a port without room. -/
theorem copiedWhere_done (s : State) (r : PendingReport) (wants : ∀ p, r.wants p = goesTo s p) :
    (copiedWhere s r).done = !(leftFor s .fore || leftFor s .aft) := by
  simp only [PendingReport.done, ← outstanding_eq s r _ (wants _), PendingReport.wants, Bool.not_or]

/-- A FAULT report joins a hub whose copies are made: it is in each queue of the report port that has room, and waits for the
others (R16, R168). -/
theorem joinReport_fault (s : State) (slot : Fin 2) (r : CaptureRecord) (h : s.copiesMade) :
    joinReport (faultReport s.tables.hub slot r) s = faultSent slot r s := by
  have wants : ∀ p, (faultReport s.tables.hub slot r).wants p = goesTo s p := by
    intro p
    cases p <;> rfl
  have body := faultReport_body s.tables.hub slot r
  have copied := copiedWhere_fault s _ slot _ body
  have last : copiedWhere s (faultReport s.tables.hub slot r) =
      { body := .fault slot (reportLanes slot r), toFore := leftFor s .fore, toAft := leftFor s .aft } :=
    pendingReport_ext copied ((forall_port_iff .fore _).mpr ⟨outstanding_eq s _ .fore (wants _), outstanding_eq s _ .aft (wants _)⟩)
  refine (copyReports_joined 14 s _ h (goesTo_done s _ wants) (by simp [body, ReportBody.isState])).trans ?_
  rw [endsAs_other _ _ _ (by rw [copied]; rfl), copiedWhere_done s _ wants, last,
    queued_copiesOf s _ (faultFrame s slot r) wants (by rw [body]; rfl)]
  unfold faultSent
  cases leftFor s .fore || leftFor s .aft <;> rfl

/-! A STATE report on its way. -/

theorem weighed (b : Bool) (w : Nat) : (if b then w else 0) = bitOf b * w := by
  cases b <;> simp [bitOf]

/-- Lane 0 carries the drive bits (R169). -/
theorem lane0_eq (s : State) :
    lane0 s = BitVec.ofNat 12 ((List.finRange 12).map fun o => if s.outs[o].drive then 2 ^ o.val else 0).sum := by
  simp only [lane0, laneOf, bits12, drives, getElem_tabulate_fin, weighed]

/-- Lane 1 carries its items at their bits (R169). -/
theorem lane1_eq (s : State) : lane1 s = BitVec.ofNat 12
    ((if litShown s.flash .left then 1 else 0) + (if litShown s.flash .right then 2 else 0) +
      (if decide (s.flash.hazard.phase ≠ .idle) then 4 else 0) + (if failShown s.flash .left then 8 else 0) +
      (if failShown s.flash .right then 16 else 0) + (if s.supply.ign then 32 else 0) + s.supply.shed * 64 +
      teachShown s * 256 + (if s.faults.lost then 1024 else 0) + (if s.reports.overrun then 2048 else 0)) := by
  simp only [lane1, laneOf, lane1Items, litShown_eq, failShown_eq, teachShown_eq, weighed, FlashSource.active]
  congr 1
  simp only [List.zip_cons_cons, List.zip_nil_left, List.map_cons, List.map_nil, List.sum_cons, List.sum_nil]
  omega

/-- The position of a gauge in the STATE report (R147). -/
theorem shownPosition_eq (e : GaugeEntry) (g : GaugeLive) : shownPosition e g =
    if g.state = .live ∨ (g.state = .fault ∧ e.policy ≠ .park) then BitVec.ofNat 12 g.p else 4095 := by
  unfold shownPosition
  cases g.state <;> cases e.policy <;> rfl

/-- The STATE report carries the lanes that R169 and R147 name. -/
theorem stateLanes_eq (s : State) : stateLanes s = (stateFrame s).lanes := by
  simp only [stateLanes, lane0_eq, lane1_eq, shownPosition_eq]
  rfl

theorem reportRecord_state (s : State) (copied all : Bool) :
    reportRecord s (.state copied all) = { frame := stateFrame s, note := .report } := by
  simp only [reportRecord, stateLanes_eq]
  rfl

theorem copiedWhere_state (s : State) (r : PendingReport) (copied all : Bool) (h : r.body = .state copied all) :
    (copiedWhere s r).body =
      .state (copied || canCopy s r .fore || canCopy s r .aft) (all && (s.reports.overrun || !(canCopy s r .fore || canCopy s r .aft))) := by
  unfold copiedWhere
  cases canCopy s r .fore <;> cases canCopy s r .aft <;> simp [PendingReport.copied, h]

/-- A STATE report that has all its copies leaves with MGMT-OVERRUN clear where each was made with it set (R170). -/
theorem afterLeaving_state (r : PendingReport) (s : State) (copied all : Bool) (h : r.body = .state copied all)
    (held : s.reports.held = false) :
    afterLeaving r s = { s with reports := { s.reports with overrun := s.reports.overrun && !all } } := by
  have same : s.reports.overrun = (s.reports.overrun && !false) := by simp
  unfold afterLeaving
  rw [h]
  cases all
  · rw [← same]
    exact if_neg (by simp [held])
  · refine (if_neg (by simp [held])).trans ?_
    simp

/-- A STATE report joins a hub whose copies are made and that holds no need: it is on its way (R168 to R170). -/
theorem joinState_sent (s : State) (h : s.copiesMade) (held : s.reports.held = false) : joinState s = stateSent s := by
  let r := newStateReport s.tables.hub
  let u : State := { s with reports := { s.reports with refresh := refreshStart s.tables.hub } }
  have wants : ∀ p, r.wants p = goesTo u p := by
    intro p
    cases p <;> rfl
  have body := copiedWhere_state u r false true rfl
  have wanted := outstanding_eq u r
  have can : (canCopy u r .fore || canCopy u r .aft) = ((goesTo s .fore && !leftFor s .fore) || (goesTo s .aft && !leftFor s .aft)) := by
    rw [canCopy_goesTo u r _ (wants _), canCopy_goesTo u r _ (wants _)]
    rfl
  refine (copyReports_joined 14 u r (copiesMade_of_ports rfl rfl rfl h) (goesTo_done u r wants) (fun _ => held)).trans ?_
  rw [queued_copiesOf u r (stateFrame s) wants (reportRecord_state u false true), endsAs, copiedWhere_done u r wants]
  have lefts : (leftFor u .fore || leftFor u .aft) = (leftFor s .fore || leftFor s .aft) := rfl
  rw [lefts]
  simp only [Bool.false_or, Bool.true_and, can] at body
  unfold stateSent
  simp only
  cases left : leftFor s .fore || leftFor s .aft
  · have some : ((goesTo s .fore && !leftFor s .fore) || (goesTo s .aft && !leftFor s .aft)) = true := by
      obtain ⟨lf, la⟩ := Bool.or_eq_false_iff.mp left
      simpa [lf, la] using goesTo_some s
    rw [some] at body
    rw [Bool.not_false, if_pos rfl, afterLeaving_state _ ((reportPut u (stateFrame s)).listing u.reports.list) _ _ body held]
    refine congrArg (fun rs => { reportPut s (stateFrame s) with reports := rs }) ?_
    simp [u, State.listing, refreshStart]
  · have last : copiedWhere u r = { body := _, toFore := leftFor s .fore, toAft := leftFor s .aft } :=
      pendingReport_ext body ((forall_port_iff .fore _).mpr ⟨wanted .fore (wants _), wanted .aft (wants _)⟩)
    rw [last]
    refine congrArg (fun rs => { reportPut s (stateFrame s) with reports := rs }) ?_
    simp [u, refreshStart, Bool.or_comm]

/-! The raise that no link names (R160, R165). -/

/-- Where no valid link matches an event, its guard apart, nothing is handed over (R78). -/
theorem matrixEvent_asleep (s : State) (ev : MatrixEvent) (h : wakesMatrix s ev = false) : matrixEvent ev s = s := by
  have none : firingSet s ev = [] := by
    simp only [wakesMatrix, anyOf, List.any_eq_false, Bool.not_eq_true] at h
    simp only [firingSet, List.filter_eq_nil_iff]
    intro l hl
    simp [h l hl]
  have quiet : ∀ target, resolvedVerbs (firingSet s ev) target = Option.none := by
    intro target
    simp [none, resolvedVerbs, resolve]
  simp [matrixEvent, handVerbs, quiet]

/-- The hub with the flag of a raise set and its capture attempt made (R160, R165). -/
def flagRaised (u : State) (c : FaultClass) (i value : Nat) : State :=
  { u with faults := { u.faults.setFlag c i with
      capture := (captured u c i value).1, lost := (captured u c i value).2 } }

/-- The raise that no link names sets the flag and makes the capture attempt (R160, R165). -/
theorem reportFault_alone (c : FaultClass) (i value : Nat) (e : Ev) (clear : e.st.faults.isSet c i = false)
    (detects : e.st.tables.hub.detects c = true) (asleep : wakesMatrix e.st (.fault c) = false) (other : c ≠ .pod) :
    reportFault c i value e =
      { st := flagRaised e.st c i value
        reply := e.reply
        faults := e.faults ++ (freeSlot e.st.faults).toList.map fun slot => (slot, recordOf e.st c i value) } := by
  unfold reportFault
  rw [clear, detects]
  simp only [Bool.not_false, Bool.and_self, if_true, Ev.on, noteRaise_other c i _ other]
  have stays : ∀ f : FaultState, matrixEvent (.fault c) { e.st with faults := f } = { e.st with faults := f } :=
    fun f => matrixEvent_asleep _ _ asleep
  unfold flagRaised captureAttempt captured freeSlot
  simp only [FaultState.setFlag, clear, detects, Bool.false_eq_true, Bool.true_eq_false, or_self, if_false]
  by_cases h0 : e.st.faults.capture[0] = none
  · simp only [h0, if_true]
    rw [stays]
    rfl
  · by_cases h1 : e.st.faults.capture[1] = none
    · simp only [h0, h1, if_true, if_false]
      rw [stays]
      rfl
    · simp only [h0, h1, if_false]
      rw [stays]
      simp

/-- The reply of an event on its way, if it makes one. -/
def replyOf (reply : Option PendingReport) (s : State) : State :=
  match reply with
  | some r => joinReport r s
  | none => s

theorem replyOf_copiesMade (reply : Option PendingReport) (s : State) (h : s.copiesMade) : (replyOf reply s).copiesMade := by
  cases reply with
  | none => exact h
  | some r => exact copyReports_sixteen _

/-- The end of an event, its reports in order (R168). -/
theorem finish_eq (before : State) (e : Ev) : finish before e =
    e.faults.foldl (fun t x => joinReport (faultReport t.tables.hub x.1 x.2) t) (replyOf e.reply (afterNeed before e.st)) := rfl

theorem flagRaised_copiesMade (u : State) (c : FaultClass) (i value : Nat) (h : u.copiesMade) :
    (flagRaised u c i value).copiesMade :=
  copiesMade_of_ports (s := u) rfl rfl rfl h

theorem raisedAlone_eq (s u : State) (c : FaultClass) (i value : Nat) (reply : State → State) :
    raisedAlone s u c i value reply =
      (freeSlot u.faults).elim (reply (afterNeed s (flagRaised u c i value)))
        fun slot => faultSent slot (recordOf u c i value) (reply (afterNeed s (flagRaised u c i value))) := by
  unfold raisedAlone freeSlot
  by_cases h0 : u.faults.capture[0] = none
  · simp only [h0, if_true]
    rfl
  · by_cases h1 : u.faults.capture[1] = none
    · simp only [h0, h1, if_true, if_false]
      rfl
    · simp only [h0, h1, if_false]
      rfl

/-- The end of an event that made one capture attempt: its FAULT report is on its way where a slot was FREE (R165, R168). -/
theorem finish_captured (before w : State) (reply : Option PendingReport) (free : Option (Fin 2)) (r : CaptureRecord)
    (made : w.copiesMade) :
    finish before { st := w, reply := reply, faults := [] ++ free.toList.map fun slot => (slot, r) } =
      free.elim (replyOf reply (afterNeed before w)) fun slot => faultSent slot r (replyOf reply (afterNeed before w)) := by
  cases free with
  | none => exact finish_eq before _
  | some slot =>
    exact (finish_eq before _).trans
      (joinReport_fault _ slot r (replyOf_copiesMade reply _ (afterNeed_copiesMade before w made)))

/-- An event that has made `u` and ends in a raise that no link names is answered as `raisedAlone` says. -/
theorem finish_raised (s u : State) (c : FaultClass) (i value : Nat) (reply : Option PendingReport) (h : u.copiesMade)
    (clear : u.faults.isSet c i = false) (detects : u.tables.hub.detects c = true)
    (asleep : wakesMatrix u (.fault c) = false) (other : c ≠ .pod) :
    finish s (reportFault c i value { st := u, reply := reply, faults := [] }) = raisedAlone s u c i value (replyOf reply) := by
  rw [reportFault_alone c i value { st := u, reply := reply, faults := [] } clear detects asleep other, raisedAlone_eq]
  exact finish_captured s (flagRaised u c i value) reply (freeSlot u.faults) (recordOf u c i value)
    (flagRaised_copiesMade u c i value h)

end Sys2Proof.Machine
end

section
/-! PROOFS. The frame boundary: the bad frame (R9, R10), and what the lowest matching entry makes of a frame (R22, R24 to R29). -/

namespace Sys2Proof.Machine

/-! The frame boundary. -/

theorem exec_frameBoundary (s : State) (p : PortId) (running : s.inReset = false) :
    exec (.frameBoundary p) s = .next (finish s (frameBoundary p (Ev.start s))) :=
  event_running (frameBoundary p) s running

theorem exec_frameBoundary_idle (s : State) (p : PortId) (q : Bool) (running : s.inReset = false) (h : (s.port p).rx = .idle q) :
    exec (.frameBoundary p) s = .next (s.setPort p { s.port p with rx := .idle true }) := by
  rw [exec_frameBoundary s p running]
  unfold frameBoundary
  simp only [Ev.start, h]
  exact congrArg _ (afterNeed_setPort s p _)

/-- The hub that has discarded a bad frame, LINK apart (R9). -/
def discarded (p : PortId) (s : State) : State := s.setPort p { s.port p with rx := .idle true, verdictGood := false }

theorem exec_frameBoundary_bad (s : State) (p : PortId) (running : s.inReset = false) (h : s.badFrame p = true) :
    exec (.frameBoundary p) s =
      .next (finish s (reportFault .link (portIndex p) 0 { st := discarded p s, reply := none, faults := [] })) := by
  rw [exec_frameBoundary s p running]
  unfold State.badFrame at h
  unfold frameBoundary
  simp only [Ev.start]
  split at h
  next bytes rx => rw [rx]; simp only [Option.isNone_iff_eq_none.mp h]; rfl
  next => exact absurd h (by simp)
  next rx => rw [rx]; rfl
  next rx => rw [rx]; rfl

theorem discarded_copiesMade (p : PortId) (s : State) (h : s.copiesMade) : (discarded p s).copiesMade :=
  onward_copiesMade (setPort_receiver_onward s p _ rfl rfl) h

/-- A raise that is ignored ends an event with what the event has made. -/
theorem finish_ignored (s u : State) (c : FaultClass) (i value : Nat) (h : u.faults.isSet c i = true ∨ u.tables.hub.detects c = false) :
    finish s (reportFault c i value { st := u, reply := none, faults := [] }) = afterNeed s u := by
  exact (congrArg (finish s) (reportFault_ignored c i value { st := u, reply := none, faults := [] } h)).trans (finish_eq s _)

/-- What a link may wake is a matter of the tables (R78). -/
theorem wakesMatrix_of_tables {s t : State} (h : t.tables = s.tables) (ev : MatrixEvent) : wakesMatrix t ev = wakesMatrix s ev := by
  unfold wakesMatrix
  rw [h]

/-- A raise sets its flag, whatever links it wakes (R160). -/
theorem reportFault_sets (c : FaultClass) (i value : Nat) (e : Ev) (hi : i < 12) (other : c ≠ .pod ∧ c ≠ .overload ∧ c ≠ .stall) :
    (reportFault c i value e).st.faults.isSet c i = (e.st.faults.isSet c i || e.st.tables.hub.detects c) := by
  unfold reportFault
  by_cases raise : (e.st.tables.hub.detects c && !e.st.faults.isSet c i) = true
  · rw [if_pos raise]
    simp only [Ev.on, isSet_of_lessLinks (matrixEvent_lessLinks _ _) c i other.2]
    have kept : ∀ e : Ev, (captureAttempt c i value e).st.faults.isSet c i = e.st.faults.isSet c i := by
      intro e
      unfold captureAttempt
      split <;> rfl
    rw [kept]
    simp only [noteRaise_other c i _ other.1, isSet_setFlag, hi]
    simp_all
  · rw [if_neg raise]
    cases hs : e.st.faults.isSet c i <;> simp_all

@[simp] theorem captureAttempt_tables (c : FaultClass) (i value : Nat) (e : Ev) : (captureAttempt c i value e).st.tables = e.st.tables :=
  (congrArg State.tables (captureAttempt_lessLoads c i value e) :)

@[simp] theorem captureAttempt_outs (c : FaultClass) (i value : Nat) (e : Ev) : (captureAttempt c i value e).st.outs = e.st.outs := by
  unfold captureAttempt
  split <;> rfl

@[simp] theorem captureAttempt_flash (c : FaultClass) (i value : Nat) (e : Ev) : (captureAttempt c i value e).st.flash = e.st.flash := by
  unfold captureAttempt
  split <;> rfl

/-- A raise that no link names leaves outputs and flasher alone. -/
theorem reportFault_asleep (c : FaultClass) (i value : Nat) (e : Ev) (other : c ≠ .pod)
    (asleep : wakesMatrix e.st (.fault c) = false) :
    (reportFault c i value e).st.outs = e.st.outs ∧ (reportFault c i value e).st.flash = e.st.flash := by
  unfold reportFault
  split
  · simp only [Ev.on]
    rw [matrixEvent_asleep _ _ ((wakesMatrix_of_tables (by simp [noteRaise_other c i _ other]) _).trans asleep)]
    simp [noteRaise_other c i _ other]
  · exact ⟨rfl, rfl⟩

theorem portIndex_lt (p : PortId) : portIndex p < 12 := by
  cases p <;> decide

@[simp] theorem discarded_faults (p : PortId) (s : State) : (discarded p s).faults = s.faults := by simp [discarded]

@[simp] theorem discarded_tables (p : PortId) (s : State) : (discarded p s).tables = s.tables := by simp [discarded]

/-- A bad frame whose LINK report is a raise: the flag is set, and but for what a link does nothing else is heard of it. -/
theorem badFrame_heard (s : State) (p : PortId) (detects : s.tables.hub.detects .link = true) :
    let t := finish s (reportFault .link (portIndex p) 0 { st := discarded p s, reply := none, faults := [] })
    t.faults.isSet .link (portIndex p) = true ∧ t.bystanders = (discarded p s).bystanders ∧ t.conds = s.conds ∧
      t.gauges = s.gauges ∧ (wakesMatrix s (.fault .link) = false → t.outs = s.outs ∧ t.flash = s.flash) := by
  intro t
  let e : Ev := { st := discarded p s, reply := none, faults := [] }
  have whole : t.lessReports = (reportFault .link (portIndex p) 0 e).st.lessReports := finish_lessReports _ _
  have loads := reportFault_lessLoads .link (portIndex p) 0 e (by decide)
  have sets := reportFault_sets .link (portIndex p) 0 e (portIndex_lt p) (by decide)
  refine ⟨?_, ?_, ?_, ?_, fun asleep => ?_⟩
  · have same : t.faults = (reportFault .link (portIndex p) 0 e).st.faults := (congrArg State.faults whole :)
    rw [same, sets]
    simp [e, detects]
  · have := congrArg (fun u : State => u.lessLoads.lessConds.lessGauges) whole
    exact this.trans (congrArg (fun u : State => u.lessReports.lessConds.lessGauges) loads :)
  · exact ((congrArg State.conds whole :).trans (congrArg State.conds loads :)).trans (s.setPort_conds p _)
  · exact ((congrArg State.gauges whole :).trans (congrArg State.gauges loads :)).trans (s.setPort_gauges p _)
  · obtain ⟨outs, flash⟩ := reportFault_asleep .link (portIndex p) 0 e (by decide)
      (by rw [wakesMatrix_of_tables (discarded_tables p s), asleep])
    exact ⟨(congrArg State.outs whole :).trans (outs.trans (by simp [e, discarded])),
      (congrArg State.flash whole :).trans (flash.trans (by simp [e, discarded]))⟩

/-- Settles O20: a bad verdict is a port change and one report, which the fault unit ignores or raises. -/
theorem badFramesReachNoBlock : Obligations.BadFramesReachNoBlock := by
  unfold Obligations.BadFramesReachNoBlock
  intro s p running
  refine ⟨fun q h => exec_frameBoundary_idle s p q running h, fun bad => ⟨fun quiet => ?_, fun _ detects => ?_, fun clear detects asleep made => ?_⟩⟩
  · rw [exec_frameBoundary_bad s p running bad, finish_ignored s _ .link (portIndex p) 0 (by simpa using quiet)]
    exact congrArg _ (afterNeed_setPort s p _)
  · exact ⟨_, exec_frameBoundary_bad s p running bad, badFrame_heard s p detects⟩
  · rw [exec_frameBoundary_bad s p running bad]
    exact congrArg _ (finish_raised s _ .link (portIndex p) 0 none (discarded_copiesMade p s made) (by simpa using clear)
      (by simpa using detects) (by rw [wakesMatrix_of_tables (discarded_tables p s), asleep]) (by decide))

/-! The entry that decides a frame (R22). -/

theorem keyMatches_iff {α : Type} [DecidableEq α] (key : Option α) (x : α) : keyMatches key x = true ↔ key = none ∨ key = some x := by
  cases key <;> simp [keyMatches]

theorem matchesFrame_iff (e : MatchEntry) (p : PortId) (f : Frame) : e.matchesFrame p f = true ↔ keyedOn e p f := by
  simp only [MatchEntry.matchesFrame, keyedOn, Bool.and_eq_true, keyMatches_iff, and_assoc]

/-- The search finds the lowest entry that matches (R22). -/
theorem findEntry_decided {s : State} {p : PortId} {f : Frame} {e : MatchEntry} (h : decidedBy s p f e) :
    findEntry s.tables p f = some e := by
  obtain ⟨_, i, rfl, keyed, lowest⟩ := h
  unfold findEntry
  rw [List.find?_eq_some_iff_getElem]
  refine ⟨(matchesFrame_iff _ p f).mpr keyed, i.val, by simp, by simp, fun j hj => ?_⟩
  have miss := lowest ⟨j, by omega⟩ hj
  rw [← matchesFrame_iff] at miss
  simpa using miss

/-- The outgoing lanes and marker are those of R24 to R28. -/
theorem outgoing_eq (t : Tables) (e : MatchEntry) (f : Frame) : outgoing t e f = leavesAs t e f := by
  unfold outgoing leavesAs cooks
  by_cases h : e.disposition = .cook ∧ f.kind = .sample ∧ f.cooked = false ∧ t.curves[e.curve].state = .inService
  · refine (if_pos (by simpa [and_assoc] using h)).trans (Eq.trans ?_ (if_pos h).symm)
    refine congrArg (fun l => { f with cooked := true, lanes := l }) ?_
    unfold cookedLanes
    cases e.scope with
    | all => rfl
    | lane0 => cases f.lanes <;> rfl
  · rw [if_neg h, if_neg (by simpa [and_assoc] using h)]

theorem leavesAs_hops (t : Tables) (e : MatchEntry) (f : Frame) : (leavesAs t e f).hops = f.hops := by
  unfold leavesAs
  split <;> rfl

theorem leavesAs_cases (t : Tables) (e : MatchEntry) (f : Frame) (h : f.kind ≠ .sample) : leavesAs t e f = f := by
  unfold leavesAs
  rw [if_neg (fun c => h c.2.1)]

/-- A feed that does not fit delivers nothing and consumes nothing (R29). -/
theorem feedAction_unfit (node : BitVec 4) (feed : Feed) (f out : Frame) (h : feedFits feed f.kind = false) :
    feedAction node feed f out = [] ∧ consumed node feed f = false := by
  unfold feedAction consumed
  cases feed <;> cases hk : f.kind <;> simp_all [feedFits]

/-- The actions of a frame that an entry decides: its relay offer, unless it is dropped or consumed, and its delivery (R20, R28). -/
theorem arrivalActions_decided {s : State} {p : PortId} {f : Frame} {e : MatchEntry} (u : State) (node : u.node = s.node)
    (tables : u.tables = s.tables) (h : decidedBy s p f e) :
    arrivalActions u p f =
      (if e.disposition = .drop ∨ consumed s.node e.feed f = true ∨ f.hops = 0 then []
        else [offerRelay p.opposite (relayed (leavesAs s.tables e f))]) ++
        feedAction s.node e.feed f (leavesAs s.tables e f) := by
  have notOurs := h.1
  unfold forThisHub at notOurs
  unfold arrivalActions relayAction
  rw [node, tables, findEntry_decided h, if_neg (fun c => notOurs ⟨c.1, .inl c.2⟩), if_neg (fun c => notOurs ⟨c.1, .inr c.2⟩)]
  simp only [outgoing_eq, leavesAs_hops]
  congr 1
  by_cases hd : e.disposition = .drop ∨ consumed s.node e.feed f = true
  · rw [if_pos hd, if_pos (by tauto)]
  · rw [if_neg hd]
    by_cases h0 : f.hops = 0
    · rw [if_pos h0, if_pos (by tauto)]
    · rw [if_neg h0, if_neg (by tauto)]

/-! The good verdict (R10). -/

theorem exec_frameBoundary_good (s : State) (p : PortId) (f : Frame) (running : s.inReset = false) (h : s.arriving p = some f) :
    exec (.frameBoundary p) s = .next (finish s (arrival p f { st := goodVerdict p s, reply := none, faults := [] })) := by
  rw [exec_frameBoundary s p running]
  unfold State.arriving at h
  unfold frameBoundary
  simp only [Ev.start]
  split at h
  next bytes rx => rw [rx]; simp only [h]; rfl
  next => exact absurd h (by simp)
  next => exact absurd h (by simp)
  next => exact absurd h (by simp)

theorem goodVerdict_passed (p : PortId) (s : State) : goodVerdict p s = verdictPassed p s := by
  have latch : s.tables.hub.latches .link = s.tables.hub.latch.getLsbD 6 := rfl
  unfold goodVerdict verdictPassed clearUnlatched
  rw [State.setPort_tables, latch]
  cases s.tables.hub.latch.getLsbD 6 <;> cases p <;> rfl

@[simp] theorem goodVerdict_node (p : PortId) (s : State) : (goodVerdict p s).node = s.node := by simp [goodVerdict]

@[simp] theorem goodVerdict_tables (p : PortId) (s : State) : (goodVerdict p s).tables = s.tables := by simp [goodVerdict]

/-! What an offer alone makes of the hub (R11, R15). -/

@[simp] theorem drives_clearUnlatched (c : FaultClass) (i : Nat) (s : State) : drives (clearUnlatched c i s) = drives s := by
  simp [drives]

@[simp] theorem lane1Items_clearUnlatched (c : FaultClass) (i : Nat) (s : State) :
    lane1Items (clearUnlatched c i s) = lane1Items s := by
  simp [lane1Items]

/-- Where drives, items and MGMT-OVERRUN stand, an event makes no need (R169). -/
theorem afterNeed_still {s u : State} (drive : drives u = drives s) (items : lane1Items u = lane1Items s)
    (overrun : u.reports.overrun = s.reports.overrun) : afterNeed s u = u := by
  unfold afterNeed
  rw [lanesChanged_eq_false drive items (by simp [overrun])]
  rfl

/-- The verdict, an offer, and a discard change ports and flags alone: no drive, no item, no report. -/
structure State.portsAndFlags (s u : State) : Prop where
  drives : drives u = drives s
  items : lane1Items u = lane1Items s
  overrun : u.reports.overrun = s.reports.overrun
  tables : u.tables = s.tables
  node : u.node = s.node

theorem portsAndFlags_trans {s u v : State} (h : s.portsAndFlags u) (h' : u.portsAndFlags v) : s.portsAndFlags v :=
  ⟨h'.drives.trans h.drives, h'.items.trans h.items, h'.overrun.trans h.overrun, h'.tables.trans h.tables, h'.node.trans h.node⟩

theorem portsAndFlags_setPort (s : State) (p : PortId) (x : PortState) : s.portsAndFlags (s.setPort p x) := by
  constructor <;> simp

theorem portsAndFlags_clearUnlatched (c : FaultClass) (i : Nat) (s : State) : s.portsAndFlags (clearUnlatched c i s) := by
  constructor <;> simp

theorem portsAndFlags_goodVerdict (p : PortId) (s : State) : s.portsAndFlags (goodVerdict p s) :=
  portsAndFlags_trans (portsAndFlags_setPort s p _) (portsAndFlags_clearUnlatched _ _ _)

theorem portsAndFlags_offerMade (p : PortId) (f : Frame) (s : State) : s.portsAndFlags (offerMade p f s) := by
  unfold offerMade relayTaken
  split
  · exact portsAndFlags_trans (portsAndFlags_setPort s _ _) (portsAndFlags_clearUnlatched _ _ _)
  · exact portsAndFlags_setPort s _ _

theorem afterNeed_portsAndFlags {s u : State} (h : s.portsAndFlags u) : afterNeed s u = u :=
  afterNeed_still h.drives h.items h.overrun

theorem clearUnlatched_port (c : FaultClass) (i : Nat) (s : State) (p : PortId) : (clearUnlatched c i s).port p = s.port p := by
  cases p <;> simp [State.port]

@[simp] theorem goodVerdict_port_opposite (p : PortId) (s : State) : (goodVerdict p s).port p.opposite = s.port p.opposite := by
  simp [goodVerdict, clearUnlatched_port]

/-- A good verdict leaves the flags of the other classes alone. -/
theorem goodVerdict_isSet (p : PortId) (s : State) (c : FaultClass) (i : Nat) (other : c ≠ .link) :
    (goodVerdict p s).faults.isSet c i = s.faults.isSet c i := by
  simp [goodVerdict, isSet_clearUnlatched, other]

/-- The hub that has discarded an offer for a full queue. -/
theorem offerMade_full {p : PortId} (f : Frame) {s : State} (full : ¬ offerHasRoom s p) :
    offerMade p f s = s.setPort p.opposite { s.port p.opposite with offerTaken := false } := if_neg full

/-- Settles O22: the actions of a frame whose entry feeds no block are its relay offer or none. -/
theorem dispositionsDecideTheRelay : Obligations.DispositionsDecideTheRelay := by
  unfold Obligations.DispositionsDecideTheRelay
  intro s p f e running arriving decided unfit
  have run := exec_frameBoundary_good s p f running arriving
  have good := portsAndFlags_goodVerdict p s
  have acts := arrivalActions_decided (goodVerdict p s) (by simp) (by simp) decided
  obtain ⟨noFeed, notConsumed⟩ := feedAction_unfit s.node e.feed f (leavesAs s.tables e f) unfit
  rw [noFeed, notConsumed, List.append_nil] at acts
  unfold arrival at run
  rw [acts] at run
  refine ⟨goodVerdict_passed p s, fun drops => ?_, fun keeps hops room => ?_, fun keeps hops full => ?_⟩
  · rw [run, if_pos (by tauto)]
    exact congrArg _ (afterNeed_portsAndFlags good)
  all_goals rw [if_neg (by tauto)] at run
  all_goals simp only [anyOrderEv, offerRelay_made] at run
  · rw [run, if_pos (by simpa [offerHasRoom] using room)]
    refine congrArg _ (Eq.trans (afterNeed_portsAndFlags (portsAndFlags_trans good (portsAndFlags_offerMade _ _ _))) ?_)
    exact if_pos (by simpa [offerHasRoom] using room)
  · have noRoom : ¬ offerHasRoom (goodVerdict p s) p := by simpa [offerHasRoom] using full
    rw [if_neg noRoom] at run
    simp only [Ev.on, offerMade_full _ noRoom] at run
    have same : ∀ x, ((goodVerdict p s).setPort p.opposite x).faults.isSet .egress (portIndex p.opposite) =
        s.faults.isSet .egress (portIndex p.opposite) := fun x => by
      rw [State.setPort_faults, goodVerdict_isSet p s .egress _ (by decide)]
    refine ⟨fun quiet => ?_, fun clear detects asleep made => ?_⟩
    · rw [run, finish_ignored s _ .egress _ 0 (by rw [same]; simpa using quiet)]
      exact congrArg _ (afterNeed_portsAndFlags (portsAndFlags_trans good (portsAndFlags_setPort _ _ _)))
    · rw [run]
      refine congrArg _ (finish_raised s _ .egress (portIndex p.opposite) 0 none ?_ ((same _).trans clear) (by simpa using detects)
        ((wakesMatrix_of_tables (by simp) _).trans asleep) (by decide))
      exact onward_copiesMade (onward_trans (goodVerdict_onward p s) (setPort_receiver_onward _ p.opposite _ rfl rfl)) made

end Sys2Proof.Machine
end

section
/-! PROOFS. The transmitter: the head frame leaves, and the freed place goes to the oldest pending report (R14, R16, R168 to R170). -/

namespace Sys2Proof.Machine

/-! The end of a transmission. -/

theorem exec_transmitStart (s : State) (p : PortId) (running : s.inReset = false) :
    exec (.transmitStart p) s = .next (s.setPort p (startSending (s.port p))) :=
  event_setPort p startSending s running

/-- The hub with the head record of a port gone and its transmitter waiting (R14). -/
def freed (p : PortId) (s : State) : State := s.setPort p { s.port p with tx := .waiting, queue := (s.port p).queue.tail }

theorem copiesMade_iff (p : PortId) (s : State) : s.copiesMade ↔ s.portServed p ∧ s.portServed p.opposite := by
  cases p
  · exact Iff.rfl
  · exact And.comm

/-- Leaving reports never set MGMT-OVERRUN (R170). -/
theorem afterLeaving_overrun (r : PendingReport) (s : State) (h : (afterLeaving r s).reports.overrun = true) :
    s.reports.overrun = true := by
  obtain ⟨body, toFore, toAft⟩ := r
  cases body with
  | state copied all =>
    unfold afterLeaving at h
    cases all <;> cases held : s.reports.held <;> simp_all [enlistState]
  | reply _ _ _ _ => exact h
  | fault _ _ => exact h

theorem copyOne_overrun (p : PortId) (s t : State) (h : copyOne p s = some t) (set : t.reports.overrun = true) :
    s.reports.overrun = true := by
  unfold copyOne at h
  split at h
  · split at h
    · exact absurd h (by simp)
    · simp only at h
      split at h <;> obtain rfl := Option.some.inj h
      · simpa using afterLeaving_overrun _ _ set
      · simpa using set
  · exact absurd h (by simp)

/-- Copies never set MGMT-OVERRUN (R170). -/
theorem copyReports_overrun (n : Nat) (s : State) (h : (copyReports n s).reports.overrun = true) : s.reports.overrun = true := by
  induction n generalizing s with
  | zero => exact h
  | succ n ih =>
    unfold copyReports at h
    cases hf : copyOne .fore s with
    | some t => exact copyOne_overrun .fore s t hf (ih t (by simpa [hf] using h))
    | none =>
      cases ha : copyOne .aft s with
      | some t => exact copyOne_overrun .aft s t ha (ih t (by simpa [hf, ha] using h))
      | none => simpa [hf, ha] using h

/-- The end of a transmission makes no need: drives and items stand, and MGMT-OVERRUN at most clears (R169, R170). -/
theorem afterNeed_completeSending (p : PortId) (s : State) : afterNeed s (completeSending p s) = completeSending p s := by
  have whole := copyReports_lessReports 16 (freed p s)
  have drive : drives (completeSending p s) = drives s := (congrArg drives whole :).trans (drives_setPort s p _)
  have items : lane1Items (completeSending p s) = lane1Items s := (congrArg lane1Items whole :).trans (lane1Items_setPort s p _)
  unfold afterNeed
  rw [lanesChanged_eq_false drive items fun set => by simpa [freed] using copyReports_overrun 16 _ set]
  rfl

theorem exec_transmissionCompletion (s : State) (p : PortId) (i : StartInputs) (running : s.inReset = false)
    (ordinary : completesRestart p s = false) (sending : (s.port p).isSending = true) :
    exec (.transmissionCompletion p i) s = .next (copyReports 16 (freed p s)) := by
  show execTransmissionCompletion p i s = _
  unfold execTransmissionCompletion
  rw [if_pos ⟨running, sending⟩, ordinary]
  exact (event_running _ s running).trans (congrArg _ (afterNeed_completeSending p s))

theorem exec_transmissionCompletion_idle (s : State) (p : PortId) (i : StartInputs) (idle : (s.port p).isSending = false) :
    exec (.transmissionCompletion p i) s = .next s := by
  show execTransmissionCompletion p i s = _
  unfold execTransmissionCompletion
  rw [if_neg (by simp [idle])]

/-- The hub with the freed place of a port given to a record, and the pending list that is left. -/
def placed (p : PortId) (s : State) (record : FrameRecord) (l : List PendingReport) : State :=
  { s.setPort p { s.port p with tx := .waiting, queue := (s.port p).queue.tail ++ [record] } with
    reports := { s.reports with list := l } }

@[simp] theorem placed_port (p : PortId) (s : State) (record : FrameRecord) (l : List PendingReport) :
    (placed p s record l).port p = { s.port p with tx := .waiting, queue := (s.port p).queue.tail ++ [record] } := by
  cases p <;> rfl

@[simp] theorem placed_port_opposite (p : PortId) (s : State) (record : FrameRecord) (l : List PendingReport) :
    (placed p s record l).port p.opposite = s.port p.opposite := by
  cases p <;> rfl

/-- The record of a report does not depend on the queues, the transmitters and the list. -/
theorem reportRecord_freed (p : PortId) (s : State) (body : ReportBody) : reportRecord (freed p s) body = reportRecord s body := by
  cases p <;> cases body <;> rfl

/-- A full queue that has freed its place is full again. -/
theorem placed_full {p : PortId} {s : State} (record : FrameRecord) (l : List PendingReport) (full : (s.port p).queue.length = 8) :
    ((placed p s record l).port p).queue.length = 8 := by
  simp [full]

/-- The first copy after the end of a transmission goes to the oldest report pending for the port (R16). -/
theorem copyReports_freed {p : PortId} {s : State} {a : List PendingReport} {x : PendingReport} {b : List PendingReport}
    (made : s.copiesMade) (hl : s.reports.list = a ++ x :: b) (ha : ∀ r ∈ a, r.wants p = false)
    (full : (s.port p).queue.length = 8) (hx : x.wants p = true) :
    copyReports 16 (freed p s) = copyReports 15
      (if x.wants p.opposite then placed p s (reportRecord s x.body) (a ++ x.copied p s.reports.overrun :: b)
        else afterLeaving (x.copied p s.reports.overrun) (placed p s (reportRecord s x.body) (a ++ b))) := by
  have done : (x.copied p s.reports.overrun).done = !x.wants p.opposite := by
    cases p <;> cases h : x.wants _ <;> simp_all [PendingReport.done, PendingReport.copied, PendingReport.wants, PortId.opposite]
  have first : copyOne p (freed p s) = some
      (if x.wants p.opposite then placed p s (reportRecord s x.body) (a ++ x.copied p s.reports.overrun :: b)
        else afterLeaving (x.copied p s.reports.overrun) (placed p s (reportRecord s x.body) (a ++ b))) := by
    have one := copyOne_some p (freed p s) a x b (by simp [freed, full]) (by simpa [freed] using hl) ha hx
    simp only [reportRecord_freed] at one
    simp only [freed, State.setPort_reports, State.port_setPort, State.setPort_setPort, done] at one
    refine one.trans ?_
    cases x.wants p.opposite <;> rfl
  have other : copyOne p.opposite (freed p s) = none := by
    rw [copyOne_eq_none]
    have served := ((copiesMade_iff p s).mp made).2
    unfold State.portServed at served ⊢
    simpa [freed] using served
  refine copyReports_first 15 _ _ ?_
  cases p with
  | fore => exact .inl first
  | aft => exact .inr ⟨other, first⟩

/-- With the freed place given away and nothing outstanding for the other port, there is nothing more to copy. -/
theorem placed_copiesMade {p : PortId} {s : State} {record : FrameRecord} {l : List PendingReport} (t : State)
    (fore : t.fore = (placed p s record l).fore) (aft : t.aft = (placed p s record l).aft)
    (full : (s.port p).queue.length = 8)
    (other : (s.port p.opposite).queue.length < 8 → ∀ r ∈ t.reports.list, r.wants p.opposite = false) : t.copiesMade := by
  have ports : ∀ q, t.port q = (placed p s record l).port q := by
    intro q
    cases q
    · exact fore
    · exact aft
  rw [copiesMade_iff p]
  unfold State.portServed
  rw [ports, ports, placed_full record l full, placed_port_opposite]
  exact ⟨fun room => absurd room (by omega), other⟩

/-- What the pending list holds for the other port is served. -/
theorem served_opposite {p : PortId} {s : State} (made : s.copiesMade) (room : (s.port p.opposite).queue.length < 8) :
    ∀ r ∈ s.reports.list, r.wants p.opposite = false :=
  ((copiesMade_iff p s).mp made).2 room

/-- No report is pending for the port: the end of a transmission frees a place, and that is all (R14). -/
theorem freed_still {p : PortId} {s : State} (made : s.copiesMade) (none : ∀ r ∈ s.reports.list, r.wants p = false) :
    copyReports 16 (freed p s) = freed p s := by
  refine copyReports_still 16 _ ?_
  rw [copiesMade_iff p]
  unfold State.portServed
  simp only [freed, State.setPort_reports, State.port_opposite_setPort]
  exact ⟨fun _ => none, served_opposite made⟩

/-- What the oldest report leaves behind when it has no need to hand on (R170). -/
theorem afterLeaving_placed (p : PortId) (s : State) (record : FrameRecord) (l : List PendingReport) (x : PendingReport)
    (held : x.body.isState = true → s.reports.held = false) :
    afterLeaving (x.copied p s.reports.overrun) (placed p s record l) =
      { placed p s record l with reports := { s.reports with
          list := l, overrun := s.reports.overrun && !decide (∃ copied, x.body = .state copied true) } } := by
  have plain : ∀ b : Bool, b = false → placed p s record l = { placed p s record l with reports :=
      { s.reports with list := l, overrun := s.reports.overrun && !b } } := by
    rintro _ rfl
    simp [placed]
  cases body : x.body with
  | state copied all =>
    have after : (x.copied p s.reports.overrun).body = .state true (all && s.reports.overrun) := by
      simp [PendingReport.copied, body]
    rw [afterLeaving_state _ (placed p s record l) _ _ after (held (by simp [body, ReportBody.isState]))]
    refine congrArg (fun rs => { placed p s record l with reports := rs }) ?_
    cases all <;> cases h : s.reports.overrun <;> simp [placed, h]
  | reply _ _ _ _ =>
    refine Eq.trans ?_ (plain _ (by simp))
    simp [afterLeaving, PendingReport.copied, body]
  | fault _ _ =>
    refine Eq.trans ?_ (plain _ (by simp))
    simp [afterLeaving, PendingReport.copied, body]

/-- The freed place goes to the oldest report pending for the port, where no need is handed on (R14, R16, R170). -/
theorem freed_handed {p : PortId} {s : State} {a : List PendingReport} {x : PendingReport} {b : List PendingReport}
    (made : s.copiesMade) (hl : s.reports.list = a ++ x :: b) (ha : ∀ r ∈ a, r.wants p = false)
    (full : (s.port p).queue.length = 8) (hx : x.wants p = true)
    (held : x.body.isState = true → x.wants p.opposite = false → s.reports.held = false) :
    copyReports 16 (freed p s) =
      { s.setPort p { s.port p with
          tx := .waiting, queue := (s.port p).queue.tail ++ [reportRecord s x.body] } with
        reports := { s.reports with
          list := a ++ (if x.wants p.opposite then [x.copied p s.reports.overrun] else []) ++ b
          overrun := s.reports.overrun &&
            (x.wants p.opposite || !(decide (∃ copied, x.body = .state copied true))) } } := by
  rw [copyReports_freed made hl ha full hx]
  have others := fun room => served_opposite made (p := p) room
  rw [hl] at others
  cases wants : x.wants p.opposite with
  | true =>
    rw [if_pos rfl]
    refine (copyReports_still 15 _ ?_).trans ?_
    · refine placed_copiesMade (record := reportRecord s x.body) (l := []) _ rfl rfl full fun room => ?_
      exact absurd (others room x (by simp)) (by simp [wants])
    · refine congrArg (fun rs => { placed p s (reportRecord s x.body) [] with reports := rs }) ?_
      simp
  | false =>
    rw [if_neg (by simp), afterLeaving_placed p s _ _ x (fun isState => held isState wants)]
    refine (copyReports_still 15 _ ?_).trans ?_
    · refine placed_copiesMade (record := reportRecord s x.body) (l := []) _ rfl rfl full fun room r hr => ?_
      have hr : r ∈ a ∨ r ∈ b := List.mem_append.mp hr
      exact others room r (by rcases hr with h | h <;> simp [h])
    · refine congrArg (fun rs => { placed p s (reportRecord s x.body) [] with reports := rs }) ?_
      simp

/-! A STATE report that joins where copies can be made for one port at most. -/

theorem copiedWhere_one (s : State) (r : PendingReport) (p : PortId) (can : canCopy s r p = true)
    (cannot : canCopy s r p.opposite = false) : copiedWhere s r = r.copied p s.reports.overrun := by
  unfold copiedWhere
  cases p <;> simp only [PortId.opposite] at cannot <;> simp [can, cannot]

theorem queued_one (s : State) (r : PendingReport) (p : PortId) (can : canCopy s r p = true)
    (cannot : canCopy s r p.opposite = false) : s.queued (copiesOf s r) =
      s.setPort p { s.port p with queue := (s.port p).queue ++ [reportRecord s r.body] } := by
  unfold State.queued copiesOf
  cases p <;> simp only [PortId.opposite] at cannot <;> simp [can, cannot, State.setPort, State.port]

theorem joined_none (s : State) (l : List PendingReport) (r : PendingReport) (pending : r.done = false)
    (fore : canCopy s r .fore = false) (aft : canCopy s r .aft = false) :
    endsAs l (copiedWhere s r) (s.queued (copiesOf s r)) = s.listing (l ++ [r]) := by
  have same : copiedWhere s r = r := by simp [copiedWhere, fore, aft]
  have still : s.queued (copiesOf s r) = s := by
    unfold State.queued copiesOf
    simp [fore, aft]
  rw [same, still, endsAs, if_neg (by simp [pending])]

/-- A STATE report that leaves the list with a need held makes a new one join, and the hold is cleared (R170). -/
theorem afterLeaving_held (r : PendingReport) (s : State) (copied all : Bool) (h : r.body = .state copied all)
    (held : s.reports.held = true) :
    afterLeaving r s = { s with reports :=
      { list := s.reports.list ++ [newStateReport s.tables.hub], held := false, overrun := s.reports.overrun && !all
        refresh := refreshStart s.tables.hub } } := by
  unfold afterLeaving
  rw [h]
  cases all <;> simp [held, enlistState]

/-- The hub with the freed place given to a STATE report that leaves the list, its hold cleared and its refresh started (R170). -/
def renewed (p : PortId) (s : State) (record : FrameRecord) (l : List PendingReport) (all : Bool) : State :=
  { placed p s record l with reports :=
    { list := l, held := false, overrun := s.reports.overrun && !all, refresh := refreshStart s.tables.hub } }

theorem renewed_port (p : PortId) (s : State) (record : FrameRecord) (l : List PendingReport) (all : Bool) (q : PortId) :
    (renewed p s record l all).port q = (placed p s record l).port q := by
  cases q <;> rfl

theorem renewed_copiesMade {p : PortId} {s : State} {a : List PendingReport} {x : PendingReport} {b : List PendingReport}
    (made : s.copiesMade) (hl : s.reports.list = a ++ x :: b) (full : (s.port p).queue.length = 8) (record : FrameRecord) (all : Bool) :
    (renewed p s record (a ++ b) all).copiesMade := by
  refine placed_copiesMade (record := record) (l := []) _ rfl rfl full fun room r hr => ?_
  have hr : r ∈ a ∨ r ∈ b := List.mem_append.mp hr
  exact served_opposite made room r (by rw [hl]; rcases hr with h | h <;> simp [h])

/-- The freed place goes to the last copy of a STATE report with a need held: a new STATE report joins at once (R16, R170). -/
theorem freed_renewed {p : PortId} {s : State} {a : List PendingReport} {x : PendingReport} {b : List PendingReport}
    {copied all : Bool} (made : s.copiesMade) (hl : s.reports.list = a ++ x :: b) (ha : ∀ r ∈ a, r.wants p = false)
    (full : (s.port p).queue.length = 8) (hx : x.wants p = true) (body : x.body = .state copied all)
    (last : x.wants p.opposite = false) (held : s.reports.held = true) :
    let r := newStateReport s.tables.hub
    let v := renewed p s (reportRecord s x.body) (a ++ b) all
    copyReports 16 (freed p s) = endsAs (a ++ b) (copiedWhere v r) (v.queued (copiesOf v r)) := by
  intro r v
  have after : (x.copied p s.reports.overrun).body = .state true (all && s.reports.overrun) := by
    simp [PendingReport.copied, body]
  rw [copyReports_freed made hl ha full hx, if_neg (by simp [last]),
    afterLeaving_held _ (placed p s (reportRecord s x.body) (a ++ b)) _ _ after held]
  have joins : { placed p s (reportRecord s x.body) (a ++ b) with reports :=
      { list := (placed p s (reportRecord s x.body) (a ++ b)).reports.list ++
          [newStateReport (placed p s (reportRecord s x.body) (a ++ b)).tables.hub]
        held := false
        overrun := (placed p s (reportRecord s x.body) (a ++ b)).reports.overrun && !(all && s.reports.overrun)
        refresh := refreshStart (placed p s (reportRecord s x.body) (a ++ b)).tables.hub } } = v.listing (v.reports.list ++ [r]) := by
    have tables : (placed p s (reportRecord s x.body) (a ++ b)).tables = s.tables := s.setPort_tables p _
    rw [tables]
    refine congrArg (fun rs => { placed p s (reportRecord s x.body) (a ++ b) with reports := rs }) ?_
    cases all <;> cases h : s.reports.overrun <;> simp [placed, v, renewed, r, h]
  refine (congrArg (copyReports 15) joins).trans ?_
  exact copyReports_joined 13 v r (renewed_copiesMade made hl full _ all) (goesTo_done s r fun q => by cases q <;> rfl) fun _ => rfl

theorem opposite_opposite (p : PortId) : p.opposite.opposite = p := by
  cases p <;> rfl

/-- A STATE report that leaves with every copy made under MGMT-OVERRUN, if that is set, leaves it clear (R170). -/
theorem afterLeaving_clears (r : PendingReport) (s : State) (body : r.body = .state true s.reports.overrun)
    (held : s.reports.held = false) : afterLeaving r s = { s with reports := { s.reports with overrun := false } } := by
  rw [afterLeaving_state r s _ _ body held]
  refine congrArg (fun b => { s with reports := { s.reports with overrun := b } }) ?_
  cases s.reports.overrun <;> rfl

/-- A STATE report that joins a hub with one queue full: it waits, or its copy for the other port is made (R16, R170). -/
theorem joins_beside_full (v : State) (p : PortId) (r : PendingReport) (full : (v.port p).queue.length = 8)
    (held : v.reports.held = false) (hr : r = newStateReport v.tables.hub) :
    endsAs v.reports.list (copiedWhere v r) (v.queued (copiesOf v r)) =
      if 8 ≤ (v.port p.opposite).queue.length ∨ r.wants p.opposite = false then v.listing (v.reports.list ++ [r])
      else
        let w := v.setPort p.opposite { v.port p.opposite with
          queue := (v.port p.opposite).queue ++ [reportRecord v (.state false true)] }
        if r.wants p then w.listing (v.reports.list ++ [r.copied p.opposite v.reports.overrun])
        else { w with reports := { w.reports with overrun := false } } := by
  have body : r.body = .state false true := by rw [hr]; rfl
  have cannot : canCopy v r p = false := by simp [canCopy, full]
  by_cases waits : 8 ≤ (v.port p.opposite).queue.length ∨ r.wants p.opposite = false
  · have cannot' : canCopy v r p.opposite = false := by
      rcases waits with h | h
      · simp [canCopy, h]
      · simp [canCopy, h]
    have none := (forall_port_iff p fun q => canCopy v r q = false).mpr ⟨cannot, cannot'⟩
    rw [if_pos waits, joined_none v _ r (goesTo_done v r fun q => by rw [hr]; cases q <;> rfl) (none .fore) (none .aft)]
  · rw [if_neg waits]
    obtain ⟨room, wants⟩ := not_or.mp waits
    have can : canCopy v r p.opposite = true := by
      simp only [canCopy, Bool.and_eq_true, decide_eq_true_eq]
      exact ⟨by simpa using wants, by omega⟩
    have cannot' : canCopy v r p.opposite.opposite = false := by rw [opposite_opposite, cannot]
    rw [copiedWhere_one v r p.opposite can cannot', queued_one v r p.opposite can cannot', body]
    have done : (r.copied p.opposite v.reports.overrun).done = !r.wants p := by
      cases p <;> cases h : r.wants _ <;> simp_all [PendingReport.done, PendingReport.copied, PendingReport.wants, PortId.opposite]
    unfold endsAs
    rw [done]
    cases r.wants p with
    | true => rfl
    | false =>
      have copied : (r.copied p.opposite v.reports.overrun).body = .state true v.reports.overrun := by
        simp [PendingReport.copied, body]
      have same : ∀ x, (v.setPort p.opposite x).listing v.reports.list = v.setPort p.opposite x := by
        intro x
        cases p <;> rfl
      rw [Bool.not_false, if_pos rfl, same]
      exact afterLeaving_clears _ _ (by simpa using copied) (by simpa using held)

/-- Settles O19: the first copy after a completed transmission fills the freed place again, so that only a STATE report with a
need held leaves anything to copy, the new report's frame for the other port. -/
theorem framesAreSentFromTheHead : Obligations.FramesAreSentFromTheHead := by
  unfold Obligations.FramesAreSentFromTheHead
  refine ⟨fun s p running => ⟨fun r rest waiting queue => ?_, fun nothing => ?_⟩, fun s p i running made ordinary => ⟨fun idle => ?_, fun sending => ?_⟩⟩
  · rw [exec_transmitStart s p running]
    simp only [startSending, waiting, queue]
  · rw [exec_transmitStart s p running]
    have same : startSending (s.port p) = s.port p := by
      unfold startSending
      unfold PortState.isSending at nothing
      split <;> simp_all
    rw [same, State.setPort_port]
  · exact exec_transmissionCompletion_idle s p i idle
  · rw [exec_transmissionCompletion s p i running ordinary sending]
    refine ⟨fun none => congrArg _ (freed_still made none), fun a x b hl ha full hx held => congrArg _ (freed_handed made hl ha full hx held), ?_⟩
    intro a x b copied all hl ha full hx body last held goes v
    have new := joins_beside_full (renewed p s (reportRecord s x.body) (a ++ b) all) p (newStateReport s.tables.hub)
      (by rw [renewed_port, placed_full _ _ full]) rfl (congrArg (fun t : Tables => newStateReport t.hub) (s.setPort_tables p _).symm)
    rw [freed_renewed made hl ha full hx body last held]
    refine congrArg _ (new.trans ?_)
    have wants : ∀ q, goes q = (newStateReport s.tables.hub).wants q := fun q => by cases q <;> rfl
    rw [renewed_port, placed_port_opposite, wants, wants]
    refine ite_congr rfl (fun _ => ?_) fun _ => ite_congr rfl (fun goesOn => ?_) fun _ => ?_
    · cases p <;> rfl
    · have rest : (newStateReport s.tables.hub).copied p.opposite (s.reports.overrun && !all) =
          { body := .state true (s.reports.overrun && !all), toFore := decide (p = .fore), toAft := decide (p = .aft) } := by
        cases p <;> simp_all [PendingReport.copied, PendingReport.wants, newStateReport, PortId.opposite]
      refine (congrArg (fun q => State.listing _ (a ++ b ++ [q])) rest).trans ?_
      cases p <;> rfl
    · cases p <;> rfl

end Sys2Proof.Machine
end

section
/-! PROOFS. STATE needs, the refresh timer, the writes of the refresh setting and of the DETECT mask (R161, R168 to R170), and
CLEAR_FAULTS (R162, R163). -/

namespace Sys2Proof.Machine

/-! A request that is served with an ordinary reply. -/

/-- A request that a hub takes and answers: what it made has its STATE need, and the reply is on its way (R168, R173). -/
theorem event_request (s u : State) (r : Requester) (code : Nat) (serve : Ev → Ev × Answer) (status : Status) (data : List Lane)
    (takes : s.takesRequests) (made : u.copiesMade)
    (served : serve (Ev.start s) = ({ st := u, reply := none, faults := [] }, some (status, data))) (ordinary : code ≠ 10) :
    event (requestEvent r code serve) s = .next (answered (afterNeed s u) r code status.code data) := by
  have accepts : acceptsRequest (Ev.start s).st = true := takesRequests_accepts s takes
  have restart : decide (code = 10 ∧ status = .ok) = false := by simp [ordinary]
  rw [event_running _ s takes.running, wholeEvent, requestEvent, if_pos accepts, served]
  simp only [restart]
  refine congrArg _ ((finish_eq s _).trans ?_)
  exact joinReport_reply false false (afterNeed s u) r code status.code data (afterNeed_copiesMade s u made)

/-- A refused request is answered, and that is all (R174). -/
theorem event_refused (s : State) (r : Requester) (code : Nat) (serve : Ev → Ev × Answer) (status : Status)
    (takes : s.takesRequests) (served : serve (Ev.start s) = refuse status (Ev.start s)) (ordinary : code ≠ 10) :
    event (requestEvent r code serve) s = .next (answered s r code status.code []) := by
  rw [event_request s s r code serve status [] takes takes.copied served ordinary, afterNeed_still rfl rfl rfl]

/-! A WRITE to the hub table (R174, R176). -/

theorem laneOf_toNat (n : Nat) : (laneOf n).toNat = n % 4096 := by
  simp [laneOf]

theorem serveWrite_hub (s : State) (field : Lane) (v : BitVec 24) (free : committing s = false) :
    serveWrite (writeLanes 9 0 field v) (Ev.start s) = writeField 9 0 field.toNat v.toNat (Ev.start s) := by
  have value : v.toNat / 4096 % 4096 * 4096 + v.toNat % 4096 = v.toNat := by
    have := v.isLt
    omega
  have address : laneNat (writeLanes 9 0 field v) 0 = 2304 := by
    simp [laneNat, writeLanes, laneOf]
  have whole : laneNat (writeLanes 9 0 field v) 2 * 4096 + laneNat (writeLanes 9 0 field v) 3 = v.toNat := by
    simp [laneNat, writeLanes, laneOf_toNat, value]
  have enough : ¬ (writeLanes 9 0 field v).length < 4 := by simp [writeLanes]
  unfold serveWrite needLanes unlessCommitting
  rw [if_neg enough, address, whole]
  simp only [Ev.start, free]
  rfl

/-- The value checks of a hub field decide what its WRITE does (R176). -/
theorem writeField_hub (s : State) (field v : Nat) (h : field < 23) : writeField 9 0 field v (Ev.start s) =
    match s.tables.hub.writeField field v with
    | some hub => ({ st := hubWritten field { s with tables := { s.tables with hub := hub } }, reply := none, faults := [] },
        some (.ok, []))
    | none => refuse .badValue (Ev.start s) := by
  have address : addressStatus 9 0 field = .ok := by
    have fields : tableFields 9 = 23 := rfl
    have entries : tableEntries 9 = 1 := rfl
    simp [addressStatus, fields, entries, h]
  have checked : s.tables.writeChecked 9 0 field v =
      match s.tables.hub.writeField field v with
      | some hub => (.ok, { s.tables with hub := hub })
      | none => (.badValue, s.tables) := by
    unfold Tables.writeChecked Tables.writeField
    rw [address]
    cases s.tables.hub.writeField field v <;> rfl
  unfold writeField
  simp only [Ev.start]
  rw [checked]
  cases s.tables.hub.writeField field v <;> rfl

/-- A WRITE to a hub field that takes its value, where drives, items and reports stand (R176). -/
theorem event_hubWritten (s u : State) (r : Requester) (field : Lane) (v : BitVec 24) (hub : HubTable) (takes : s.takesRequests)
    (free : committing s = false) (h : field.toNat < 23) (taken : s.tables.hub.writeField field.toNat v.toNat = some hub)
    (effect : hubWritten field.toNat { s with tables := { s.tables with hub := hub } } = u)
    (made : u.copiesMade) (still : afterNeed s u = u) :
    event (requestEvent r 2 (serveWrite (writeLanes 9 0 field v))) s = .next (answered u r 2 0 []) := by
  rw [event_request s u r 2 _ .ok [] takes made ?_ (by decide), still]
  · rfl
  · rw [serveWrite_hub s field v free, writeField_hub s _ _ h, taken]
    simp only [effect]

/-- A WRITE to a hub field whose value is out of range (R176). -/
theorem event_hubRefused (s : State) (r : Requester) (field : Lane) (v : BitVec 24) (takes : s.takesRequests)
    (free : committing s = false) (h : field.toNat < 23) (refused : s.tables.hub.writeField field.toNat v.toNat = none) :
    event (requestEvent r 2 (serveWrite (writeLanes 9 0 field v))) s = .next (answered s r 2 5 []) := by
  refine event_refused s r 2 _ .badValue takes ?_ (by decide)
  rw [serveWrite_hub s field v free, writeField_hub s _ _ h, refused]

/-! STATE needs (R169, R170). -/

theorem bitOf_inj {a b : Bool} : bitOf a = bitOf b ↔ a = b := by
  cases a <;> cases b <;> simp [bitOf]

theorem drives_ne_iff (s t : State) : drives s ≠ drives t ↔ ∃ o : Fin 12, t.outs[o].drive ≠ s.outs[o].drive := by
  rw [← not_iff_not, not_not, not_exists]
  simp only [not_not]
  constructor
  · intro h o
    simpa [drives] using (congrArg (fun v : Vector Bool 12 => v[o]) h).symm
  · intro h
    ext o ho
    simpa [drives] using (h ⟨o, ho⟩).symm

theorem lane1Items_ne_iff (s t : State) : lane1Items s ≠ lane1Items t ↔
    (∃ d : Side, litShown t.flash d ≠ litShown s.flash d ∨ failShown t.flash d ≠ failShown s.flash d) ∨
      ¬(t.flash.hazard.phase = .idle ↔ s.flash.hazard.phase = .idle) ∨ t.supply.ign ≠ s.supply.ign ∨
      t.supply.shed ≠ s.supply.shed ∨ teachShown t ≠ teachShown s ∨ t.faults.lost ≠ s.faults.lost := by
  have sides : ∀ P : Side → Prop, (∃ d, P d) ↔ P .left ∨ P .right :=
    fun P => ⟨fun ⟨d, h⟩ => by cases d <;> tauto, fun h => h.elim (fun h => ⟨_, h⟩) fun h => ⟨_, h⟩⟩
  rw [sides, ← not_iff_not]
  simp only [lane1Items, litShown_eq, failShown_eq, teachShown_eq, FlashSource.active, not_not, not_or, List.cons.injEq, bitOf_inj,
    decide_eq_decide, and_true]
  constructor
  · rintro ⟨a, b, c, d, e, f, g, h, i⟩
    exact ⟨⟨⟨a.symm, d.symm⟩, b.symm, e.symm⟩, (not_iff_not.mp c).symm, f.symm, g.symm, h.symm, i.symm⟩
  · rintro ⟨⟨⟨a, d⟩, b, e⟩, c, f, g, h, i⟩
    exact ⟨a.symm, b.symm, not_iff_not.mpr c.symm, d.symm, e.symm, f.symm, g.symm, h.symm, i.symm⟩

/-- A need arises where content has changed (R169, R170). -/
theorem lanesChanged_iff (s t : State) : lanesChanged s t = true ↔ contentChanged s t := by
  unfold lanesChanged contentChanged
  rw [Bool.or_eq_true, Bool.or_eq_true, decide_eq_true_eq, decide_eq_true_eq, drives_ne_iff, lane1Items_ne_iff, Bool.and_eq_true,
    Bool.not_eq_true']
  simp only [or_assoc]

theorem pendingState_none (l : List PendingReport) (h : ∀ r ∈ l, r.body.isState = false) : pendingState l = none := by
  unfold pendingState
  rw [List.findSome?_eq_none_iff]
  intro r hr
  have := h r hr
  cases hb : r.body <;> simp_all [ReportBody.isState]

/-- The STATE report that is pending shows whether a copy of it was made (R170). -/
theorem pendingState_one (l : List PendingReport) (r : PendingReport) (copied all : Bool) (hr : r ∈ l)
    (only : ∀ q ∈ l, q.body.isState = true → q = r) (body : r.body = .state copied all) : pendingState l = some copied := by
  induction l with
  | nil => exact absurd hr (by simp)
  | cons q qs ih =>
    unfold pendingState
    rw [List.findSome?_cons]
    cases hb : q.body with
    | state c a =>
      have same := only q (by simp) (by rw [hb]; rfl)
      rw [same, body] at hb
      simp only
      exact congrArg some (ReportBody.state.inj hb).1.symm
    | reply _ _ _ _ | fault _ _ =>
      have other : r ≠ q := fun e => by simp [e, hb] at body
      exact ih ((List.mem_cons.mp hr).resolve_left other) fun x hx => only x (List.mem_cons_of_mem q hx)

/-! A need joins a STATE report where none is pending, is met by one with no copy made, and is held for one with a copy made (R170). -/

theorem stateNeed_none (s : State) (h : pendingState s.reports.list = none) : stateNeed s = joinState s := by
  unfold stateNeed
  rw [h]

theorem stateNeed_some (s : State) (copied : Bool) (h : pendingState s.reports.list = some copied) :
    stateNeed s = if copied then { s with reports := { s.reports with held := true } } else s := by
  unfold stateNeed
  rw [h]
  cases copied <;> rfl

/-- A need never sets MGMT-OVERRUN (R170). -/
theorem stateNeed_overrun (s : State) (h : (stateNeed s).reports.overrun = true) : s.reports.overrun = true := by
  unfold stateNeed at h
  split at h
  · exact copyReports_overrun 16 (enlistState s) h
  · exact h
  · exact h

/-! The refresh timer (R170). -/

theorem exec_refreshExpiry (s : State) (running : s.inReset = false) : exec .refreshExpiry s =
    .next (afterNeed s (if s.reports.refresh.isSome then refreshExpired s else s)) :=
  event_running _ s running

theorem afterNeed_refreshExpired (s : State) : afterNeed s (refreshExpired s) = refreshExpired s := by
  have whole : (refreshExpired s).lessReports = s.lessReports := stateNeed_lessReports _
  unfold afterNeed
  rw [lanesChanged_of_lessReports whole fun h =>
    stateNeed_overrun { s with reports := { s.reports with refresh := refreshStart s.tables.hub } } h]
  rfl

/-! The writes. -/

theorem exec_refreshWrite (s : State) (r : Requester) (v : BitVec 24) :
    exec (.refreshWrite r v) s = event (requestEvent r 2 (serveWrite (writeLanes 9 0 2 v))) s := rfl

theorem exec_detectMaskWrite (s : State) (r : Requester) (v : BitVec 24) :
    exec (.detectMaskWrite r v) s = event (requestEvent r 2 (serveWrite (writeLanes 9 0 21 v))) s := rfl

theorem refreshWrite_taken (h : HubTable) (v : Nat) (ok : v = 0 ∨ (100 ≤ v ∧ v ≤ 5000)) :
    h.writeField 2 v = some { h with refresh := v } := by
  unfold HubTable.writeField ranged
  rcases ok with rfl | ok
  · rfl
  · have pos : v ≠ 0 := by omega
    simp [pos, ok]

theorem refreshWrite_refused (h : HubTable) (v : Nat) (pos : v ≠ 0) (bad : v < 100 ∨ 5000 < v) : h.writeField 2 v = none := by
  have out : ¬ (100 ≤ v ∧ v ≤ 5000) := by omega
  unfold HubTable.writeField ranged
  simp only [pos, out, if_false]

theorem detectWrite_eq (h : HubTable) (v : BitVec 24) :
    h.writeField 21 v.toNat = if v.toNat < 1024 then some { h with detect := v.setWidth 10 } else none := by
  have within : (0 ≤ v.toNat ∧ v.toNat ≤ 1023) ↔ v.toNat < 1024 := by omega
  unfold HubTable.writeField ranged
  simp only [within]
  rfl

/-- The flags after a write of the DETECT mask (R161). -/
theorem clearUndetected_eq (v : BitVec 24) (f : FaultState) : clearUndetected (v.setWidth 10) f =
    { f with flags := Vector.ofFn fun c => if v.getLsbD c.val then f.flags[c] else 0 } := by
  refine congrArg (fun x => { f with flags := x }) ?_
  ext c hc
  simp

/-- Settles O52: each part is the rule of its operation, where a write of the hub table makes no need of its own. -/
theorem refreshAndDetectAct : Obligations.RefreshAndDetectAct := by
  unfold Obligations.RefreshAndDetectAct
  refine ⟨reportRecord_state, lanesChanged_iff, fun s made => ⟨fun noState held => ?_, fun r copied all hr only body => ?_⟩,
    fun s running => ⟨fun stopped => ?_, fun runs => ?_⟩, fun s r v takes free => ⟨fun ok => ?_, fun pos bad => ?_, fun ok => ?_, fun bad => ?_⟩⟩
  · rw [stateNeed_none s (pendingState_none _ noState), joinState_sent s made held]
  · exact stateNeed_some s copied (pendingState_one _ r copied all hr only body)
  · rw [exec_refreshExpiry s running, stopped]
    exact congrArg _ (afterNeed_still rfl rfl rfl)
  · rw [exec_refreshExpiry s running, if_pos (Option.isSome_iff_ne_none.mpr runs), afterNeed_refreshExpired]
    rfl
  · have ok : v.toNat = 0 ∨ (100 ≤ v.toNat ∧ v.toNat ≤ 5000) := ok.imp (fun h => by simp [h]) id
    have zero : v.toNat = 0 ↔ v = 0 := ⟨fun h => BitVec.eq_of_toNat_eq h, fun h => by simp [h]⟩
    have timer : (if v.toNat = 0 then none else some v.toNat) = if v = 0 then none else some v.toNat := by simp only [zero]
    refine event_hubWritten s _ r 2 v _ takes free (by decide) (refreshWrite_taken _ _ ok) ?_
      (copiesMade_of_ports (s := s) rfl rfl rfl takes.copied) (afterNeed_still rfl rfl rfl)
    rw [← timer]
    rfl
  · have nonzero : v.toNat ≠ 0 := fun h => pos (BitVec.eq_of_toNat_eq h)
    rw [exec_refreshWrite, event_hubRefused s r 2 v takes free (by decide) (refreshWrite_refused _ _ nonzero bad)]
  · refine event_hubWritten s _ r 21 v _ takes free (by decide) ((detectWrite_eq _ v).trans (if_pos ok)) ?_
      (copiesMade_of_ports (s := s) rfl rfl rfl takes.copied) (afterNeed_still rfl rfl rfl)
    rw [← clearUndetected_eq]
    rfl
  · rw [exec_detectMaskWrite, event_hubRefused s r 21 v takes free (by decide)
      ((detectWrite_eq _ v).trans (if_neg (by omega)))]

/-! The flags whose cause persists (R162). -/

/-- Truths weighted by the powers of two are the bits of a number. -/
theorem ofBits_eq_sum : ∀ {n : Nat} (f : Fin n → Bool), ((List.finRange n).map fun i => bitOf (f i) * 2 ^ i.val).sum = Nat.ofBits f
  | 0, _ => rfl
  | n + 1, f => by
    have first : bitOf (f 0) = (f 0).toNat := by cases f 0 <;> rfl
    have double : (fun i : Fin n => bitOf (f i.succ) * 2 ^ i.succ.val) = fun i => 2 * (bitOf (f i.succ) * 2 ^ i.val) := by
      funext i
      rw [Fin.val_succ, Nat.pow_succ]
      ring
    rw [Nat.ofBits_succ, ← ofBits_eq_sum (f ∘ Fin.succ), List.finRange_succ, List.map_cons, List.sum_cons, List.map_map,
      Fin.val_zero, pow_zero, mul_one, first, ← List.sum_map_mul_left, Nat.add_comm]
    exact congrArg (fun g => (List.map g (List.finRange n)).sum + (f 0).toNat) double

/-- Bit i of the number of twelve truths is truth i. -/
theorem bits12_getLsbD (v : Vector Bool 12) (i : Fin 12) : (BitVec.ofNat 12 (bits12 v)).getLsbD i.val = v[i] := by
  have bits : bits12 v = Nat.ofBits fun j : Fin 12 => v[j] := ofBits_eq_sum _
  rw [bits, BitVec.getLsbD_ofNat, Nat.testBit_ofBits_lt _ _ i.isLt]
  simp

theorem persisting_getLsbD (s : State) (c : FaultClass) (i : Nat) (h : i < 12) :
    (persisting s c).getLsbD i = !causeGone s c i := by
  refine (bits12_getLsbD _ ⟨i, h⟩).trans ?_
  rw [getElem_tabulate_fin]

/-! CLEAR_FAULTS (R162, R163). -/

theorem serveClearFaults_cons (s : State) (lane : Lane) (more : List Lane) (free : committing s = false) :
    serveClearFaults (lane :: more) (Ev.start s) =
      if lane.toNat ≤ 9 ∨ lane.toNat = 15 then
        ({ st := clearFaults lane.toNat s, reply := none, faults := [] }, some (.ok, []))
      else refuse .badValue (Ev.start s) := by
  unfold serveClearFaults needLanes unlessCommitting
  rw [if_neg (by simp)]
  simp only [Ev.start, free]
  rfl

/-- The causes of R162, class by class. -/
theorem causeGone_cases (s : State) (free : committing s = false) :
    (∀ o : Fin 12, causeGone s .overload o.val = decide (s.outs[o].protection = .normal) ∧
      causeGone s .stall o.val = decide (s.outs[o].protection = .normal)) ∧
    (∀ o : Fin 12, causeGone s .openLoad o.val = s.outs[o].openGone) ∧
    (∀ g : Fin 4, causeGone s .sender g.val = decide (s.gauges[g].state ≠ .fault)) ∧
    causeGone s .undervolt 0 = s.supply.uvGone ∧ causeGone s .overvolt 0 = s.supply.ovGone ∧
    (∀ p : PortId, causeGone s .link (portIndex p) = (s.port p).verdictGood ∧
      causeGone s .egress (portIndex p) = (s.port p).offerTaken) ∧
    (∀ p : Fin 8, causeGone s .pod p.val = s.pods[linkPod p].seen) ∧ causeGone s .store 0 = s.store.valid := by
  refine ⟨fun o => ⟨?_, ?_⟩, fun o => ?_, fun g => ?_, rfl, rfl, fun p => ?_, fun p => ?_, ?_⟩
  · exact dif_pos o.isLt
  · exact dif_pos o.isLt
  · exact dif_pos o.isLt
  · exact dif_pos g.isLt
  · cases p <;> exact ⟨rfl, rfl⟩
  · exact dif_pos p.isLt
  · simp [causeGone, free]

/-- Settles O53: the mask of the persisting causes, bit by bit, is the clearing rule. -/
theorem clearFaultsClearsWhatIsGone : Obligations.ClearFaultsClearsWhatIsGone := by
  unfold Obligations.ClearFaultsClearsWhatIsGone
  intro s r lane more takes free
  have fifteen : lane = 15 ↔ lane.toNat = 15 := ⟨fun h => by rw [h]; rfl, fun h => BitVec.eq_of_toNat_eq h⟩
  rw [ne_eq, fifteen]
  refine ⟨?_, fun big notAll => ?_, fun named => ⟨(clearFaults lane.toNat s).faults.flags, ?_, fun c other notAll => ?_, fun c named i hi => ?_,
    causeGone_cases s free⟩⟩
  · exact event_refused s r 7 _ .badReq takes rfl (by decide)
  · refine event_refused s r 7 _ .badValue takes ?_ (by decide)
    rw [serveClearFaults_cons s lane more free, if_neg (by omega)]
  · refine event_request s _ r 7 _ .ok [] takes (copiesMade_of_ports (s := s) rfl rfl rfl takes.copied) ?_ (by decide)
    rw [serveClearFaults_cons s lane more free, if_pos (by omega)]
    rfl
  · simp [clearFaults, notAll, other]
  · simp only [clearFaults, getElem_tabulate_fin]
    rw [if_pos named.symm, BitVec.getLsbD_and, persisting_getLsbD s _ i hi]

end Sys2Proof.Machine
end

section
/-! PROOFS. What the action matrix keeps: a principle for what it may change, and the supply reset (R158, R181). -/

namespace Sys2Proof.Machine

/-! What the changes of the action matrix keep. -/

/-- A property that no change of the action matrix touches: outputs, flasher, the count of open orders, and the flags that a
demand-off clears (R74, R105). -/
structure LinkSafe (P : State → Prop) : Prop where
  loads : ∀ (s : State) outs flash choices, P s → P { s with outs := outs, flash := flash, choices := choices }
  releases : ∀ (s : State) (c : FaultClass) (i : Nat), c = .overload ∨ c = .stall → P s → P (clearUnlatched c i s)

theorem foldl_preserves {α σ : Type} (P : σ → Prop) (f : σ → α → σ) (keeps : ∀ t a, P t → P (f t a)) :
    ∀ (l : List α) (s : σ), P s → P (l.foldl f s)
  | [], _, h => h
  | a :: l, s, h => foldl_preserves P f keeps l (f s a) (keeps s a h)

theorem anyOrder_preserves (P : State → Prop) (acts : List (State → State)) (s : State)
    (counts : ∀ t n, P t → P { t with choices := n }) (keeps : ∀ f ∈ acts, ∀ t, P t → P (f t)) (h : P s) : P (anyOrder acts s) := by
  match acts with
  | [] => exact h
  | [f] => exact keeps f (by simp) s h
  | f :: g :: more => exact runAll_permute_keeps P _ _ _ _ keeps (counts s _ h)

theorem anyOrderEv_preserves (P : Ev → Prop) (acts : List (Ev → Ev)) (e : Ev)
    (counts : ∀ (e : Ev) n, P e → P { e with st := { e.st with choices := n } }) (keeps : ∀ f ∈ acts, ∀ t, P t → P (f t)) (h : P e) :
    P (anyOrderEv acts e) := by
  match acts with
  | [] => exact h
  | [f] => exact keeps f (by simp) e h
  | f :: g :: more => exact runAll_permute_keeps P _ _ _ _ keeps (counts e _ h)

section
variable {P : State → Prop} (safe : LinkSafe P)
include safe

theorem LinkSafe.demandOff (o : Fin 12) (s : State) (h : P s) : P (demandOff o s) :=
  safe.releases _ _ _ (.inr rfl) (safe.releases _ _ _ (.inl rfl) (safe.loads s _ s.flash s.choices h))

theorem LinkSafe.verbOnOutput (o : Fin 12) (v : Resolved) (s : State) (h : P s) : P (verbOnOutput o v s) := by
  have lamp : ∀ releases, P (verbOnLamp o releases v s) := by
    intro releases
    unfold verbOnLamp
    simp only
    split
    · exact safe.demandOff o _ (safe.loads s _ s.flash s.choices h)
    · exact safe.loads s _ s.flash s.choices h
  unfold Machine.verbOnOutput
  split
  · exact h
  · exact h
  · exact lamp _
  · exact lamp _
  · exact lamp _
  · unfold verbOnFan
    simp only
    split
    · exact safe.demandOff o _ (safe.loads s _ s.flash s.choices h)
    · exact safe.loads s _ s.flash s.choices h

theorem LinkSafe.applyOutputVerbs (verbs : Fin 15 → Option Resolved) (s : State) (h : P s) : P (applyOutputVerbs verbs s) := by
  refine foldl_preserves P _ (fun t o ht => ?_) _ s h
  split
  · exact safe.verbOnOutput o _ t ht
  · exact ht

theorem LinkSafe.handContexts (before : Vector Bool 12) (new : FlashState) (s : State) (h : P s) : P (handContexts before new s) := by
  refine foldl_preserves P _ (fun t o ht => ?_) _ _ (safe.loads s _ new s.choices h)
  split
  · exact safe.demandOff o t ht
  · exact ht

theorem LinkSafe.redriven (acts : List (State → State)) (s : State) (keeps : ∀ f ∈ acts, ∀ t, P t → P (f t)) (h : P s) :
    P (if acts.isEmpty then s else redriveAll (anyOrder acts s)) := by
  split
  · exact h
  · refine safe.loads (anyOrder acts s) _ (anyOrder acts s).flash (anyOrder acts s).choices ?_
    exact anyOrder_preserves P acts s (fun t n ht => safe.loads t t.outs t.flash n ht) keeps h

theorem LinkSafe.handVerbs (verbs : Fin 15 → Option Resolved) (s : State) (h : P s) : P (handVerbs verbs s) := by
  refine safe.redriven _ s (fun f hf t ht => ?_) h
  rcases List.mem_append.mp hf with hf | hf <;> split at hf <;> simp only [List.mem_singleton, List.not_mem_nil] at hf <;> subst hf
  · exact safe.applyOutputVerbs verbs t ht
  · exact safe.handContexts _ _ t ht

theorem LinkSafe.matrixEvent (ev : MatrixEvent) (s : State) (h : P s) : P (matrixEvent ev s) := safe.handVerbs _ s h

theorem LinkSafe.evalConds (conds : ∀ (s : State) c, P s → P { s with conds := c }) (affects : OperandKind → Nat → Bool) (s : State)
    (h : P s) : P (evalConds affects s) :=
  foldl_preserves P _ (fun t ev ht => safe.matrixEvent ev t ht) _ _ (conds s _ h)

end

/-- No flag is set beyond these. -/
def State.flagsWithin (B : FaultClass → Nat → Prop) (s : State) : Prop := ∀ c i, s.faults.isSet c i = true → B c i

theorem flagsWithin_safe (B : FaultClass → Nat → Prop) : LinkSafe (State.flagsWithin B) where
  loads _ _ _ _ h := h
  releases s c i _ h d j set := by
    rw [isSet_clearUnlatched, Bool.and_eq_true] at set
    exact h d j set.1

theorem captureAttempt_isSet (c d : FaultClass) (i j value : Nat) (e : Ev) :
    (captureAttempt c i value e).st.faults.isSet d j = e.st.faults.isSet d j := by
  unfold captureAttempt
  split <;> rfl

/-- A raise sets its own flag at most (R160). -/
theorem reportFault_flagsWithin {B : FaultClass → Nat → Prop} (c : FaultClass) (i value : Nat) (e : Ev) (other : c ≠ .pod)
    (own : e.st.tables.hub.detects c = true → B c i) (h : e.st.flagsWithin B) : (reportFault c i value e).st.flagsWithin B := by
  unfold reportFault
  split
  · rename_i raise
    refine (flagsWithin_safe B).matrixEvent _ _ fun d j set => ?_
    simp only [captureAttempt_isSet, Ev.on, noteRaise_other c i _ other, isSet_setFlag] at set
    rcases Bool.or_eq_true _ _ ▸ set with set | set
    · exact h d j set
    · simp only [Bool.and_eq_true, decide_eq_true_eq] at set raise
      obtain ⟨⟨rfl, rfl⟩, _⟩ := set
      exact own raise.1
  · exact h

/-- A report to the fault unit keeps what links, a flag being set, and a capture attempt keep. -/
theorem reportFault_preserves {P : State → Prop} (safe : LinkSafe P) (c : FaultClass) (i value : Nat) (e : Ev) (other : c ≠ .pod)
    (sets : ∀ s : State, P s → P { s with faults := s.faults.setFlag c i })
    (captures : ∀ e : Ev, P e.st → P (captureAttempt c i value e).st) (h : P e.st) : P (reportFault c i value e).st := by
  unfold reportFault
  split
  · refine safe.matrixEvent _ _ (captures _ ?_)
    simp only [Ev.on, noteRaise_other c i _ other]
    exact sets e.st h
  · exact h

/-- What one action establishes and none of the others undoes holds after them, whatever their order. -/
theorem runAll_reaches {σ : Type} (P Q : σ → Prop) {f : σ → σ} : ∀ (acts : List (σ → σ)) (s : σ), f ∈ acts →
    (∀ g ∈ acts, ∀ t, P t → P (g t)) → (∀ g ∈ acts, ∀ t, P t → Q t → Q (g t)) → (∀ t, P t → Q (f t)) → P s → Q (runAll acts s)
  | [], _, mem, _, _, _, _ => absurd mem (by simp)
  | g :: gs, s, mem, keepP, keepQ, reach, h => by
    have restP : ∀ k ∈ gs, ∀ t, P t → P (k t) := fun k hk => keepP k (List.mem_cons_of_mem g hk)
    have restQ : ∀ k ∈ gs, ∀ t, P t → Q t → Q (k t) := fun k hk => keepQ k (List.mem_cons_of_mem g hk)
    have next : P (g s) := keepP g (by simp) s h
    rcases List.mem_cons.mp mem with rfl | mem
    · have both := runAll_keeps (fun t => P t ∧ Q t) gs (f s)
        (fun k hk t ht => ⟨restP k hk t ht.1, restQ k hk t ht.1 ht.2⟩) ⟨next, reach s h⟩
      exact both.2
    · exact runAll_reaches P Q gs (g s) mem restP restQ reach next

theorem anyOrderEv_reaches (P Q : Ev → Prop) {f : Ev → Ev} (acts : List (Ev → Ev)) (e : Ev) (mem : f ∈ acts)
    (counts : ∀ (e : Ev) n, P e → P { e with st := { e.st with choices := n } })
    (keepP : ∀ g ∈ acts, ∀ t, P t → P (g t)) (keepQ : ∀ g ∈ acts, ∀ t, P t → Q t → Q (g t)) (reach : ∀ t, P t → Q (f t)) (h : P e) :
    Q (anyOrderEv acts e) := by
  match acts with
  | [] => exact absurd mem (by simp)
  | [g] =>
    obtain rfl := List.mem_singleton.mp mem
    exact reach e h
  | g :: k :: more =>
    have perm := permute_perm Config.orderChoice e.st.choices (g :: k :: more)
    exact runAll_reaches P Q _ _ (perm.mem_iff.mpr mem) (fun x hx => keepP x (perm.mem_iff.mp hx))
      (fun x hx => keepQ x (perm.mem_iff.mp hx)) reach (counts e _ h)

/-! FAULT reports of an event, counted. -/

theorem runAll_faults_length : ∀ (acts : List (Ev → Ev)) (e : Ev),
    (∀ f ∈ acts, ∀ e, (f e).faults.length ≤ e.faults.length + 1) → (runAll acts e).faults.length ≤ e.faults.length + acts.length
  | [], _, _ => le_refl _
  | f :: fs, e, adds => by
    have first := adds f (by simp) e
    have rest := runAll_faults_length fs (f e) fun g hg => adds g (List.mem_cons_of_mem f hg)
    have : (runAll (f :: fs) e).faults.length ≤ (f e).faults.length + fs.length := by simpa [runAll] using rest
    rw [List.length_cons]
    omega

theorem anyOrderEv_faults_length (acts : List (Ev → Ev)) (e : Ev) (adds : ∀ f ∈ acts, ∀ e, (f e).faults.length ≤ e.faults.length + 1) :
    (anyOrderEv acts e).faults.length ≤ e.faults.length + acts.length := by
  match acts with
  | [] => exact le_refl _
  | [f] => exact adds f (by simp) e
  | f :: g :: more =>
    have perm := permute_perm Config.orderChoice e.st.choices (f :: g :: more)
    have bound := runAll_faults_length _ { e with st := { e.st with choices := e.st.choices + (more.length + 2) } }
      fun k hk => adds k (perm.mem_iff.mp hk)
    rw [perm.length_eq] at bound
    exact bound

theorem reportFault_faults_length (c : FaultClass) (i value : Nat) (e : Ev) :
    (reportFault c i value e).faults.length ≤ e.faults.length + 1 := by
  unfold reportFault
  split
  · simp only [Ev.on]
    unfold captureAttempt
    split <;> simp
  · omega

/-! The capture attempt of a raise, whatever links it wakes (R165). -/

theorem reportFault_captured (c : FaultClass) (i value : Nat) (e : Ev) (other : c ≠ .pod) :
    ((reportFault c i value e).st.faults.capture, (reportFault c i value e).st.faults.lost) = captured e.st c i value := by
  unfold reportFault
  split
  · rename_i raise
    simp only [Bool.and_eq_true, Bool.not_eq_true'] at raise
    obtain ⟨capture, lost⟩ := capture_of_lessLinks (matrixEvent_lessLinks (.fault c) (captureAttempt c i value
      (e.on fun s => noteRaise c i { s with faults := s.faults.setFlag c i })).st)
    simp only [Ev.on] at capture lost ⊢
    rw [capture, lost]
    simp only [noteRaise_other c i _ other]
    unfold captureAttempt captured freeSlot
    rw [raise.1, raise.2]
    simp only [FaultState.setFlag, Bool.false_eq_true, Bool.true_eq_false, or_self, if_false]
    by_cases h0 : e.st.faults.capture[0] = none
    · simp only [h0, if_true]
      rfl
    · by_cases h1 : e.st.faults.capture[1] = none
      · simp only [h0, h1, if_true, if_false]
        rfl
      · simp only [h0, h1, if_false]
  · rename_i ignored
    unfold captured
    rw [if_pos]
    cases hd : e.st.tables.hub.detects c <;> simp_all

/-- A set flag of a class that no demand-off clears is safe from links. -/
theorem isSet_safe (c : FaultClass) (i : Nat) (other : c ≠ .overload ∧ c ≠ .stall) :
    LinkSafe fun s => s.faults.isSet c i = true where
  loads _ _ _ _ h := h
  releases s d j hd h := by
    have apart : c ≠ d := by rcases hd with rfl | rfl <;> tauto
    simp [isSet_clearUnlatched, apart, h]

theorem capture_safe (slot : Fin 2) (x : Option CaptureRecord) : LinkSafe fun s => s.faults.capture[slot] = x where
  loads _ _ _ _ h := h
  releases s d j _ h := by rwa [clearUnlatched_faults_capture]

theorem tables_safe (t : Tables) : LinkSafe fun s => s.tables = t where
  loads _ _ _ _ h := h
  releases s d j _ h := by rwa [clearUnlatched_tables]

theorem LinkSafe.and {P Q : State → Prop} (p : LinkSafe P) (q : LinkSafe Q) : LinkSafe fun s => P s ∧ Q s where
  loads s o f n h := ⟨p.loads s o f n h.1, q.loads s o f n h.2⟩
  releases s c i hc h := ⟨p.releases s c i hc h.1, q.releases s c i hc h.2⟩

/-- A flag that is set stays set at a report to the fault unit. -/
theorem reportFault_keeps_isSet (c d : FaultClass) (i j value : Nat) (e : Ev) (hd : d ≠ .pod) (other : c ≠ .overload ∧ c ≠ .stall)
    (h : e.st.faults.isSet c i = true) : (reportFault d j value e).st.faults.isSet c i = true :=
  reportFault_preserves (isSet_safe c i other) d j value e hd (fun s hs => by simp only [isSet_setFlag, hs, Bool.true_or])
    (fun e he => by rw [captureAttempt_isSet]; exact he) h

theorem reportFault_keeps_tables (c : FaultClass) (i value : Nat) (e : Ev) (h : c ≠ .pod) :
    (reportFault c i value e).st.tables = e.st.tables :=
  (congrArg State.tables (reportFault_lessLoads c i value e h) :)

end Sys2Proof.Machine
end

section
/-! PROOFS. The supply reset: every report of it is copied at once, and only STORE, UNDERVOLT and OVERVOLT can be raised (R18,
R158, R181). -/

namespace Sys2Proof.Machine

/-! Reports that join where nothing is pending and both queues have room. -/

theorem joins_empty (s : State) (r : PendingReport) (list : s.reports.list = []) (held : s.reports.held = false)
    (overrun : s.reports.overrun = false) (room : ∀ p, (s.port p).queue.length < 8) (pending : r.done = false) :
    copyReports 16 (s.listing (s.reports.list ++ [r])) =
      s.queued fun p => if r.wants p then [reportRecord s r.body] else [] := by
  have made : s.copiesMade := by
    constructor <;> exact fun _ x hx => absurd hx (by simp [list])
  have can : ∀ p, canCopy s r p = r.wants p := fun p => by simp [canCopy, room p]
  have copies : copiesOf s r = fun p => if r.wants p then [reportRecord s r.body] else [] := by
    funext p
    simp only [copiesOf, can]
  have done : (copiedWhere s r).done = true := (done_iff _).mpr fun p => by simp [copiedWhere_wants, can]
  rw [copyReports_joined 14 s r made pending (fun _ => held), endsAs, if_pos done, copies, list]
  have same : ∀ more, (s.queued more).listing [] = s.queued more := fun more => by
    rw [← list]
    rfl
  rw [same]
  generalize copiedWhere s r = q
  cases body : q.body with
  | reply _ _ _ _ => simp only [afterLeaving, body]
  | fault _ _ => simp only [afterLeaving, body]
  | state copied all =>
    refine (afterLeaving_state q (s.queued fun p => if r.wants p then [reportRecord s r.body] else []) copied all body held).trans ?_
    have clear : (s.reports.overrun && !all) = s.reports.overrun := by simp [overrun]
    exact congrArg (fun b => { (s.queued fun p => if r.wants p then [reportRecord s r.body] else []) with
      reports := { s.reports with overrun := b } }) clear

/-- Every report so far is copied: nothing is pending, the refresh timer runs, and the queues of the report port begin with
`first` and hold at most `n` records, the other none. -/
structure State.allCopied (first : FrameRecord) (n : Nat) (s : State) : Prop where
  reports : s.reports = { list := [], held := false, overrun := false, refresh := refreshStart s.tables.hub }
  room : ∀ p, (s.port p).queue.length ≤ n
  aside : ∀ p, goesTo s p = false → (s.port p).queue = []
  head : ∀ p, goesTo s p = true → (s.port p).queue.head? = some first

theorem allCopied_mono {first : FrameRecord} {n m : Nat} {s : State} (h : s.allCopied first n) (le : n ≤ m) : s.allCopied first m :=
  ⟨h.reports, fun p => (h.room p).trans le, h.aside, h.head⟩

theorem allCopied_joins {first : FrameRecord} {n : Nat} {s : State} (r : PendingReport) (wants : ∀ p, r.wants p = goesTo s p)
    (h : s.allCopied first n) (le : n < 8) : (copyReports 16 (s.listing (s.reports.list ++ [r]))).allCopied first (n + 1) := by
  have reports := h.reports
  rw [joins_empty s r (by rw [reports]) (by rw [reports]) (by rw [reports]) (fun p => (h.room p).trans_lt le) (goesTo_done s r wants)]
  constructor
  · exact reports
  · intro p
    have := h.room p
    rw [queued_port]
    simp only [List.length_append]
    split <;> simp <;> omega
  · intro p aside
    rw [queued_port, h.aside p aside]
    have other : r.wants p = false := (wants p).trans aside
    simp [other]
  · intro p goes
    rw [queued_port, List.head?_append, h.head p goes]
    rfl

theorem joinReport_fault_allCopied {first : FrameRecord} {n : Nat} {s : State} (slot : Fin 2) (r : CaptureRecord)
    (h : s.allCopied first n) (le : n < 8) : (joinReport (faultReport s.tables.hub slot r) s).allCopied first (n + 1) :=
  allCopied_joins (faultReport s.tables.hub slot r) (fun p => by cases p <;> rfl) h le

theorem stateNeed_allCopied {first : FrameRecord} {n : Nat} {s : State} (h : s.allCopied first n) (le : n < 8) :
    (stateNeed s).allCopied first (n + 1) := by
  have reports := h.reports
  have none : pendingState s.reports.list = Option.none := by rw [reports]; rfl
  have enlisted : enlistState s = s.listing (s.reports.list ++ [newStateReport s.tables.hub]) := by
    refine congrArg (fun rs => { s with reports := rs }) ?_
    rw [reports]
  rw [stateNeed_none s none, joinState, enlisted]
  exact allCopied_joins (newStateReport s.tables.hub) (fun p => by cases p <;> rfl) h le

theorem afterNeed_allCopied {first : FrameRecord} {n : Nat} {s : State} (before : State) (h : s.allCopied first n) (le : n < 8) :
    (afterNeed before s).allCopied first (n + 1) := by
  unfold afterNeed
  split
  · exact stateNeed_allCopied h le
  · exact allCopied_mono h (by omega)

theorem faults_allCopied {first : FrameRecord} : ∀ (l : List (Fin 2 × CaptureRecord)) (n : Nat) (s : State), s.allCopied first n →
    n + l.length ≤ 8 →
    (l.foldl (fun t x => joinReport (faultReport t.tables.hub x.1 x.2) t) s).allCopied first (n + l.length)
  | [], _, _, h, _ => h
  | x :: l, n, s, h, le => by
    rw [List.length_cons] at le ⊢
    have next := faults_allCopied l (n + 1) _ (joinReport_fault_allCopied x.1 x.2 h (by omega)) (by omega)
    rwa [show n + (l.length + 1) = n + 1 + l.length by omega]

/-- The end of an event without a reply (R168). -/
theorem finish_allCopied {first : FrameRecord} {n : Nat} (before : State) (e : Ev) (h : e.st.allCopied first n)
    (reply : e.reply = none) (le : n + 1 + e.faults.length ≤ 8) :
    (finish before e).allCopied first (n + 1 + e.faults.length) := by
  rw [finish_eq, reply]
  exact faults_allCopied e.faults (n + 1) _ (afterNeed_allCopied before h (by omega)) le

/-! The start-up state and its STATE report. -/

/-- The hub as it starts, with its refresh timer running (R158, R170). -/
def started (i : StartInputs) (s : State) : State :=
  { startState i s with reports := { list := [], held := false, overrun := false, refresh := refreshStart (loadedTables s.store).hub } }

/-- The first record of a start: the STATE report of a hub in which nothing is driven (R169). -/
def startRecord (i : StartInputs) (s : State) : FrameRecord :=
  { frame := { kind := .report, hops := (loadedTables s.store).hub.originHops, source := nodeOf i.straps, target := 15, tag := 0,
               cooked := false, lanes := [0, 0, 4095, 4095, 4095, 4095] }, note := .report }

theorem started_record (i : StartInputs) (s : State) (copied all : Bool) :
    reportRecord (started i s) (.state copied all) = startRecord i s := by
  have dark : ∀ o : Fin 12, (started i s).outs[o].drive = false := fun o => by simp [started, startState, OutLive.reset]
  have parked : ∀ g : Fin 4, (started i s).gauges[g].state = .waiting := fun g => by simp [started, startState, GaugeLive.reset]
  have lanes : stateLanes (started i s) = [0, 0, 4095, 4095, 4095, 4095] := by
    have first : lane0 (started i s) = 0 := by
      rw [lane0_eq]
      simp only [dark]
      decide
    have second : lane1 (started i s) = 0 := by
      have items : lane1Items (started i s) = [0, 0, 0, 0, 0, 0, 0, 0, 0] := rfl
      have overrun : (started i s).reports.overrun = false := rfl
      unfold lane1
      rw [items, overrun]
      decide
    have needle : ∀ (e : GaugeEntry) (g : Fin 4), shownPosition e (started i s).gauges[g] = 4095 := fun e g => by
      unfold shownPosition
      rw [parked]
      rfl
    unfold stateLanes
    rw [first, second]
    simp only [needle]
    rfl
  simp only [reportRecord, lanes]
  rfl

theorem joinState_start (i : StartInputs) (s : State) : joinState (startState i s) =
    (started i s).queued fun p => if goesTo (started i s) p then [startRecord i s] else [] := by
  have wants : ∀ p, (newStateReport (loadedTables s.store).hub).wants p = goesTo (started i s) p := fun p => by cases p <;> rfl
  refine (joins_empty (started i s) (newStateReport (loadedTables s.store).hub) rfl rfl rfl (fun p => ?_)
    (goesTo_done (started i s) _ wants)).trans ?_
  · cases p <;> exact Nat.zero_lt_succ 7
  · have record := started_record i s false true
    refine congrArg (started i s).queued (funext fun p => ?_)
    rw [wants p]
    exact congrArg (fun x => if goesTo (started i s) p then [x] else []) record

theorem joinState_start_allCopied (i : StartInputs) (s : State) : (joinState (startState i s)).allCopied (startRecord i s) 1 := by
  have empty : ∀ p, ((started i s).port p).queue = [] := fun p => by cases p <;> rfl
  rw [joinState_start]
  constructor
  · rfl
  · intro p
    rw [queued_port, empty]
    simp only [List.nil_append]
    split <;> simp
  · intro p aside
    have aside : goesTo (started i s) p = false := aside
    rw [queued_port, empty, aside]
    rfl
  · intro p goes
    have goes : goesTo (started i s) p = true := goes
    rw [queued_port, empty, goes]
    rfl

/-! The hand-on of Vs (R148). -/

/-- The hub as the reports of a Vs update find it (R139, R150, R151). -/
def vsHeld (s : State) : State :=
  let s1 := { s with supply := monitorAtVs s.tables.hub s.supply }
  let s2 := if s1.supply.uvGone then clearUnlatched .undervolt 0 s1 else s1
  reformDuties (if s1.supply.ovGone then clearUnlatched .overvolt 0 s2 else s2)

/-- The reports and the conditions of a Vs update. -/
def vsActions (s : State) : List (Ev → Ev) :=
  (if s.supply.vs < s.tables.hub.uv then [reportFault .undervolt 0 s.supply.vs] else []) ++
    (if s.tables.hub.ov < s.supply.vs then [reportFault .overvolt 0 s.supply.vs] else []) ++
    (if condsConcerned s affectsSupply then [Ev.on (evalConds affectsSupply)] else [])

theorem handOnVs_eq (e : Ev) : handOnVs e = anyOrderEv (vsActions e.st) { e with st := vsHeld e.st } := rfl

theorem mem_vsActions {s : State} {f : Ev → Ev} (h : f ∈ vsActions s) :
    (s.supply.vs < s.tables.hub.uv ∧ f = reportFault .undervolt 0 s.supply.vs) ∨
      (s.tables.hub.ov < s.supply.vs ∧ f = reportFault .overvolt 0 s.supply.vs) ∨ f = Ev.on (evalConds affectsSupply) := by
  unfold vsActions at h
  rcases List.mem_append.mp h with h | h
  · rcases List.mem_append.mp h with h | h <;> split at h <;> simp only [List.mem_singleton, List.not_mem_nil] at h
    · exact .inl ⟨‹_›, h⟩
    · exact .inr (.inl ⟨‹_›, h⟩)
  · split at h <;> simp only [List.mem_singleton, List.not_mem_nil] at h
    exact .inr (.inr h)

theorem vsActions_length (s : State) : (vsActions s).length ≤ 3 := by
  unfold vsActions
  simp only [List.length_append]
  split <;> split <;> split <;> simp

theorem vsHeld_lessLoads (s : State) :
    (vsHeld s).lessLoads = (reformDuties { s with supply := monitorAtVs s.tables.hub s.supply }).lessLoads := by
  have clear : ∀ (b : Bool) (c : FaultClass) (t : State), (if b then clearUnlatched c 0 t else t).lessLoads = t.lessLoads := by
    intro b c t
    cases b
    · rfl
    · exact clearUnlatched_lessLoads c 0 t
  have duties : ∀ t u : State, t.lessLoads = u.lessLoads → (reformDuties t).lessLoads = (reformDuties u).lessLoads := fun t u h =>
    (congrArg reformDuties h :)
  unfold vsHeld
  exact duties _ _ ((clear _ _ _).trans (clear _ _ _))

/-- The hub after a Vs update, links, flags and conditions apart: the monitor's own part and the duties (R139, R148). -/
def vsView (s : State) : State := (reformDuties { s with supply := monitorAtVs s.tables.hub s.supply }).lessLoads.lessConds

theorem vsView_of_lessLoads {s t : State} (h : s.lessLoads = t.lessLoads) : vsView s = vsView t := (congrArg vsView h :)

theorem vsView_of_lessReports {s t : State} (h : s.lessReports = t.lessReports) : (vsView s).lessReports = (vsView t).lessReports :=
  (congrArg vsView h :)

theorem handOnVs_view (e : Ev) : (handOnVs e).st.lessLoads.lessConds = vsView e.st := by
  rw [handOnVs_eq, anyOrderEv_keeps (fun t => t.lessLoads.lessConds) _ _ (fun _ _ => rfl)]
  · exact congrArg State.lessConds (vsHeld_lessLoads e.st)
  · intro f hf t
    rcases mem_vsActions hf with ⟨_, rfl⟩ | ⟨_, rfl⟩ | rfl
    · exact congrArg State.lessConds (reportFault_lessLoads _ _ _ _ (by decide))
    · exact congrArg State.lessConds (reportFault_lessLoads _ _ _ _ (by decide))
    · exact evalConds_lessLoads _ _

theorem handOnVs_faults_length (e : Ev) : (handOnVs e).faults.length ≤ e.faults.length + 3 := by
  rw [handOnVs_eq]
  refine (anyOrderEv_faults_length _ _ fun f hf t => ?_).trans (Nat.add_le_add_left (vsActions_length e.st) _)
  rcases mem_vsActions hf with ⟨_, rfl⟩ | ⟨_, rfl⟩ | rfl
  · exact reportFault_faults_length _ _ _ _
  · exact reportFault_faults_length _ _ _ _
  · exact Nat.le_succ _

/-- What links, the clearing of a flag, the conditions, the reports of the two classes and new duties keep, the hand-on of Vs
keeps. -/
theorem handOnVs_preserves {P : State → Prop} (safe : LinkSafe P) (e : Ev) (conds : ∀ (s : State) c, P s → P { s with conds := c })
    (held : ∀ s, P s → P (vsHeld s))
    (low : ∀ t : Ev, e.st.supply.vs < e.st.tables.hub.uv → P t.st → P (reportFault .undervolt 0 e.st.supply.vs t).st)
    (high : ∀ t : Ev, e.st.tables.hub.ov < e.st.supply.vs → P t.st → P (reportFault .overvolt 0 e.st.supply.vs t).st) (h : P e.st) :
    P (handOnVs e).st := by
  rw [handOnVs_eq]
  refine anyOrderEv_preserves (fun t : Ev => P t.st) _ _ (fun t n ht => safe.loads t.st t.st.outs t.st.flash n ht) (fun f hf t ht => ?_)
    (held _ h)
  rcases mem_vsActions hf with ⟨v, rfl⟩ | ⟨v, rfl⟩ | rfl
  · exact low t v ht
  · exact high t v ht
  · exact safe.evalConds conds _ _ ht

theorem clearIf_isSet {b : Bool} {d : FaultClass} {t : State} {c : FaultClass} {i : Nat}
    (h : (if b = true then clearUnlatched d 0 t else t).faults.isSet c i = true) : t.faults.isSet c i = true := by
  cases b
  · exact h
  · rw [if_pos rfl, isSet_clearUnlatched, Bool.and_eq_true] at h
    exact h.1

/-- What a Vs update finds of a flag was set before: it clears, and does not set (R150, R151). -/
theorem vsHeld_isSet (s : State) (c : FaultClass) (i : Nat) (h : (vsHeld s).faults.isSet c i = true) : s.faults.isSet c i = true := by
  let x := monitorAtVs s.tables.hub s.supply
  have h1 := clearIf_isSet (b := x.ovGone) (d := .overvolt)
    (t := if x.uvGone then clearUnlatched .undervolt 0 { s with supply := x } else { s with supply := x }) h
  exact clearIf_isSet (t := { s with supply := x }) h1

theorem clearIf_keeps {b : Bool} {d : FaultClass} {t : State} (P : FaultState → Prop) (h : P t.faults)
    (clear : P (t.faults.clearFlag d 0)) : P (if b = true then clearUnlatched d 0 t else t).faults := by
  cases b
  · exact h
  · unfold clearUnlatched
    split
    · split
      · exact h
      · exact clear
    · exact h

/-- A Vs update leaves the flags of the other classes and the capture slots (R150, R151). -/
theorem vsHeld_keeps (s : State) (P : FaultState → Prop) (h : P s.faults)
    (clear : ∀ f d, d = .undervolt ∨ d = .overvolt → P f → P (f.clearFlag d 0)) : P (vsHeld s).faults := by
  let x := monitorAtVs s.tables.hub s.supply
  have low : P (if x.uvGone = true then clearUnlatched .undervolt 0 { s with supply := x } else { s with supply := x }).faults :=
    clearIf_keeps P h (clear _ _ (.inl rfl) h)
  exact clearIf_keeps (b := x.ovGone) (d := .overvolt) P low (clear _ _ (.inr rfl) low)

/-! The first events of a start (R158, R181). -/

/-- The hub with its STATE report sent, and STORE reported where the marker is invalid (R181). -/
def storeChecked (i : StartInputs) (s : State) : Ev :=
  if s.store.valid then Ev.start (joinState (startState i s)) else reportFault .store 0 0 (Ev.start (joinState (startState i s)))

theorem storeChecked_lessLoads (i : StartInputs) (s : State) :
    (storeChecked i s).st.lessLoads = (joinState (startState i s)).lessLoads := by
  unfold storeChecked
  split
  · rfl
  · exact reportFault_lessLoads _ _ _ _ (by decide)

theorem storeChecked_faults_length (i : StartInputs) (s : State) : (storeChecked i s).faults.length ≤ 1 := by
  unfold storeChecked
  split
  · exact Nat.zero_le 1
  · exact reportFault_faults_length .store 0 0 (Ev.start (joinState (startState i s)))

theorem storeChecked_reply (i : StartInputs) (s : State) : (storeChecked i s).reply = none := by
  unfold storeChecked
  split
  · rfl
  · exact reportFault_reply _ _ _ _

theorem handOnVs_reply (e : Ev) : (handOnVs e).reply = e.reply := by
  rw [handOnVs_eq]
  refine anyOrderEv_preserves (fun t : Ev => t.reply = e.reply) _ _ (fun _ _ h => h) (fun f hf t ht => ?_) rfl
  rcases mem_vsActions hf with ⟨_, rfl⟩ | ⟨_, rfl⟩ | rfl
  · rw [reportFault_reply, ht]
  · rw [reportFault_reply, ht]
  · exact ht

/-- The hub of a start with its Vs handed on, links and conditions apart. -/
theorem resetEvent_view (i : StartInputs) (s : State) :
    (handOnVs (storeChecked i s)).st.lessLoads.lessConds = vsView (joinState (startState i s)) :=
  (handOnVs_view _).trans (vsView_of_lessLoads (storeChecked_lessLoads i s))

/-- The hub that a supply reset leaves, but for reports, links, conditions and flags. -/
theorem supplyReset_view (i : StartInputs) (s : State) :
    (supplyReset i s).lessLoads.lessConds.lessReports = (vsView (startState i s)).lessReports := by
  have whole : (supplyReset i s).lessReports = (handOnVs (storeChecked i s)).st.lessReports := finish_lessReports _ _
  exact (congrArg (fun t : State => t.lessLoads.lessConds) whole :).trans ((congrArg State.lessReports (resetEvent_view i s)).trans
    (vsView_of_lessReports (joinState_lessReports _)))

theorem allCopied_of_view {first : FrameRecord} {n : Nat} {s t : State} (view : t.lessLoads.lessConds = vsView s)
    (h : s.allCopied first n) : t.allCopied first n := by
  have port : ∀ p, t.port p = s.port p := fun p => by
    cases p
    · exact (congrArg State.fore view :)
    · exact (congrArg State.aft view :)
  have reports : t.reports = s.reports := (congrArg State.reports view :)
  have tables : t.tables = s.tables := (congrArg State.tables view :)
  have goes : ∀ p, goesTo t p = goesTo s p := fun p => by
    unfold goesTo
    rw [tables]
  constructor
  · rw [reports, tables]
    exact h.reports
  all_goals
    intro p
    rw [port]
  · exact h.room p
  · rw [goes]
    exact h.aside p
  · rw [goes]
    exact h.head p

/-- Every report of a supply reset is copied at once, the STATE report first (R16, R170). -/
theorem supplyReset_allCopied (i : StartInputs) (s : State) : (supplyReset i s).allCopied (startRecord i s) 8 := by
  have few : (handOnVs (storeChecked i s)).faults.length ≤ 4 :=
    (handOnVs_faults_length _).trans (Nat.add_le_add_right (storeChecked_faults_length i s) 3)
  have done := finish_allCopied (joinState (startState i s)) (handOnVs (storeChecked i s))
    (allCopied_of_view (resetEvent_view i s) (joinState_start_allCopied i s)) ((handOnVs_reply _).trans (storeChecked_reply i s)) (by omega)
  exact allCopied_mono done (by omega)

/-! The flags of a start. -/

theorem storeChecked_tables (i : StartInputs) (s : State) : (storeChecked i s).st.tables = loadedTables s.store :=
  (congrArg State.tables (storeChecked_lessLoads i s) :).trans (congrArg State.tables (joinState_lessReports (startState i s)) :)

theorem storeChecked_vs (i : StartInputs) (s : State) : (storeChecked i s).st.supply.vs = clampSupply i.supply :=
  (congrArg (fun t : State => t.supply.vs) (storeChecked_lessLoads i s) :).trans
    (congrArg (fun t : State => t.supply.vs) (joinState_lessReports (startState i s)) :)

theorem joinState_start_faults (i : StartInputs) (s : State) : (joinState (startState i s)).faults = FaultState.reset :=
  (congrArg State.faults (joinState_lessReports (startState i s)) :)

theorem reset_isSet (c : FaultClass) (k : Nat) : FaultState.reset.isSet c k = false := by
  simp [FaultState.reset, FaultState.isSet]

theorem supplyReset_faults (i : StartInputs) (s : State) :
    (supplyReset i s).faults = (handOnVs (storeChecked i s)).st.faults :=
  (congrArg State.faults (finish_lessReports (joinState (startState i s)) (handOnVs (storeChecked i s))) :)

/-- The flags that a start can raise (R150, R151, R181). -/
def startFlag (i : StartInputs) (s : State) (c : FaultClass) (k : Nat) : Prop :=
  k = 0 ∧ (loadedTables s.store).hub.detects c = true ∧
    ((c = .store ∧ s.store.valid = false) ∨ (c = .undervolt ∧ clampSupply i.supply < (loadedTables s.store).hub.uv) ∨
      (c = .overvolt ∧ (loadedTables s.store).hub.ov < clampSupply i.supply))

theorem storeChecked_flags (i : StartInputs) (s : State) : (storeChecked i s).st.flagsWithin (startFlag i s) := by
  have clear : (joinState (startState i s)).flagsWithin (startFlag i s) := fun c k set => by
    rw [joinState_start_faults, reset_isSet] at set
    exact absurd set (by simp)
  have tables : (joinState (startState i s)).tables = loadedTables s.store :=
    (congrArg State.tables (joinState_lessReports (startState i s)) :)
  unfold storeChecked
  by_cases valid : s.store.valid = true
  · rw [if_pos valid]
    exact clear
  · rw [if_neg valid]
    refine reportFault_flagsWithin .store 0 0 (Ev.start (joinState (startState i s))) (by decide) (fun detects => ?_) clear
    exact ⟨rfl, tables ▸ detects, .inl ⟨rfl, by simpa using valid⟩⟩

/-- Nothing else is raised by a start. -/
theorem supplyReset_flags (i : StartInputs) (s : State) : (supplyReset i s).flagsWithin (startFlag i s) := by
  have event := handOnVs_preserves ((tables_safe (loadedTables s.store)).and (flagsWithin_safe (startFlag i s))) (storeChecked i s)
    (fun _ _ h => h) (fun t h => ⟨(congrArg State.tables (vsHeld_lessLoads t) :).trans h.1, fun c k set => h.2 c k (vsHeld_isSet t c k set)⟩)
    (fun t v h => ⟨(reportFault_keeps_tables _ _ _ _ (by decide)).trans h.1,
      reportFault_flagsWithin _ _ _ _ (by decide) (fun detects => ⟨rfl, h.1 ▸ detects, .inr (.inl ⟨rfl, ?_⟩)⟩) h.2⟩)
    (fun t v h => ⟨(reportFault_keeps_tables _ _ _ _ (by decide)).trans h.1,
      reportFault_flagsWithin _ _ _ _ (by decide) (fun detects => ⟨rfl, h.1 ▸ detects, .inr (.inr ⟨rfl, ?_⟩)⟩) h.2⟩)
    ⟨storeChecked_tables i s, storeChecked_flags i s⟩
  · intro c k set
    rw [supplyReset_faults] at set
    exact event.2 c k set
  · rw [storeChecked_tables, storeChecked_vs] at v
    exact v
  · rw [storeChecked_tables, storeChecked_vs] at v
    exact v

/-- A voltage that is out of range is reported in the first Vs update (R150, R151). -/
theorem supplyReset_reports (i : StartInputs) (s : State) (c : FaultClass) (detects : (loadedTables s.store).hub.detects c = true)
    (out : (c = .undervolt ∧ clampSupply i.supply < (loadedTables s.store).hub.uv) ∨
      (c = .overvolt ∧ (loadedTables s.store).hub.ov < clampSupply i.supply)) :
    (supplyReset i s).faults.isSet c 0 = true := by
  have kind : c ≠ .pod ∧ c ≠ .overload ∧ c ≠ .stall := by rcases out with ⟨rfl, _⟩ | ⟨rfl, _⟩ <;> decide
  have mem : reportFault c 0 (clampSupply i.supply) ∈ vsActions (storeChecked i s).st := by
    unfold vsActions
    rw [storeChecked_tables, storeChecked_vs]
    rcases out with ⟨rfl, v⟩ | ⟨rfl, v⟩ <;> simp [v]
  rw [supplyReset_faults, handOnVs_eq]
  refine anyOrderEv_reaches (fun t => t.st.tables = loadedTables s.store) (fun t => t.st.faults.isSet c 0 = true) _ _ mem
    (fun _ _ h => h) (fun f hf t ht => ?_) (fun f hf t _ ht => ?_) (fun t ht => ?_) ?_
  · rcases mem_vsActions hf with ⟨_, rfl⟩ | ⟨_, rfl⟩ | rfl
    · exact (reportFault_keeps_tables _ _ _ _ (by decide)).trans ht
    · exact (reportFault_keeps_tables _ _ _ _ (by decide)).trans ht
    · exact (tables_safe _).evalConds (fun _ _ h => h) _ _ ht
  · rcases mem_vsActions hf with ⟨_, rfl⟩ | ⟨_, rfl⟩ | rfl
    · exact reportFault_keeps_isSet _ _ _ _ _ _ (by decide) kind.2 ht
    · exact reportFault_keeps_isSet _ _ _ _ _ _ (by decide) kind.2 ht
    · exact (isSet_safe c 0 kind.2).evalConds (fun _ _ h => h) _ _ ht
  · rw [reportFault_sets c 0 _ t (by decide) kind, ht, detects, Bool.or_true]
  · exact (congrArg State.tables (vsHeld_lessLoads _) :).trans (storeChecked_tables i s)

/-- The record of the STORE raise of a start (R165, R181). -/
def storeRecord (i : StartInputs) : CaptureRecord := { cls := .store, index := 0, value := 0, vs := clampSupply i.supply, uptime := 0 }

/-- A start with an invalid marker raises STORE, which takes the first capture slot (R165, R181). -/
theorem supplyReset_store (i : StartInputs) (s : State) (invalid : s.store.valid = false) :
    (supplyReset i s).faults.isSet .store 0 = true ∧ (supplyReset i s).faults.capture[(0 : Fin 2)] = some (storeRecord i) := by
  let e := Ev.start (joinState (startState i s))
  have faults : e.st.faults = FaultState.reset := joinState_start_faults i s
  have defaults : loadedTables s.store = Tables.default := by simp [loadedTables, invalid]
  have detects : e.st.tables.hub.detects .store = true := by
    have tables : e.st.tables = loadedTables s.store := (congrArg State.tables (joinState_lessReports (startState i s)) :)
    rw [tables, defaults]
    decide
  have first : storeChecked i s = reportFault .store 0 0 e := by
    unfold storeChecked
    rw [invalid]
    rfl
  have set : (storeChecked i s).st.faults.isSet .store 0 = true := by
    rw [first, reportFault_sets _ _ _ _ (by decide) (by decide), detects, Bool.or_true]
  have held : (storeChecked i s).st.faults.capture[(0 : Fin 2)] = some (storeRecord i) := by
    have captured := congrArg (fun x => x.1[(0 : Fin 2)]) (reportFault_captured .store 0 0 e (by decide))
    have vs : e.st.supply.vs = clampSupply i.supply := (congrArg (fun t : State => t.supply.vs) (joinState_lessReports (startState i s)) :)
    rw [first]
    refine captured.trans ?_
    unfold Machine.captured
    rw [detects, faults, reset_isSet, if_neg (by decide), if_pos (by rfl)]
    simp [recordOf, storeRecord, vs, faults, FaultState.reset]
  have keeps : ∀ (t : Ev) (d : FaultClass), d ≠ .pod →
      t.st.faults.isSet .store 0 = true ∧ t.st.faults.capture[(0 : Fin 2)] = some (storeRecord i) →
      (reportFault d 0 (storeChecked i s).st.supply.vs t).st.faults.isSet .store 0 = true ∧
        (reportFault d 0 (storeChecked i s).st.supply.vs t).st.faults.capture[(0 : Fin 2)] = some (storeRecord i) := fun t d hd h =>
    ⟨reportFault_keeps_isSet _ _ _ _ _ _ hd (by decide) h.1, reportFault_preserves (capture_safe 0 (some (storeRecord i))) _ _ _ _ hd
      (fun _ h => h) (fun e he => captureAttempt_held _ _ _ _ _ _ he) h.2⟩
  have event := handOnVs_preserves ((isSet_safe .store 0 (by decide)).and (capture_safe 0 (some (storeRecord i)))) (storeChecked i s)
    (fun _ _ h => h) ?_ (fun t v h => ?_) (fun t v h => ?_) ⟨set, held⟩
  · rw [supplyReset_faults]
    exact event
  · intro t h
    refine vsHeld_keeps t (fun f => f.isSet .store 0 = true ∧ f.capture[(0 : Fin 2)] = some (storeRecord i)) h fun f d hd hf => ?_
    have apart : FaultClass.store ≠ d := by rcases hd with rfl | rfl <;> decide
    exact ⟨by simp [isSet_clearFlag, apart, hf.1], hf.2⟩
  · exact keeps t .undervolt (by decide) h
  · exact keeps t .overvolt (by decide) h

/-! The two ways into a supply reset. -/

theorem exec_restartCompleted (s : State) (p : PortId) (i : StartInputs) (running : s.inReset = false)
    (sending : (s.port p).isSending = true) (restarting : s.mgmt.service = .restarting)
    (head : ((s.port p).queue.head?.map fun r => r.note) = some FrameNote.restartReply) :
    exec (.transmissionCompletion p i) s = .next (supplyReset i s) := by
  show execTransmissionCompletion p i s = _
  unfold execTransmissionCompletion
  rw [if_pos ⟨running, sending⟩, (completesRestart_iff p s).mpr ⟨restarting, head⟩]
  rfl

theorem exec_resetEnd (s : State) (i : StartInputs) (held : s.inReset = true) (risen : 5000 < i.supply) :
    exec (.resetEnd i) s = .next (supplyReset i s) := by
  show execResetEnd i s = _
  unfold execResetEnd
  rw [if_pos ⟨held, risen⟩]

/-- A channel without a reading has no duty (R139). -/
theorem formDuty_reset (e : GaugeEntry) (vs : Nat) : formDuty e false vs GaugeLive.reset = GaugeLive.reset := by
  unfold formDuty
  cases drivePosition e GaugeLive.reset <;> rfl

/-- The parts of a hub that a Vs update leaves, beside links, conditions and reports. -/
theorem fields_of_vsView {t x : State} (h : t.lessLoads.lessConds.lessReports = (vsView x).lessReports) :
    (t.inReset = x.inReset ∧ t.node = x.node ∧ t.store = x.store ∧ t.tables = x.tables) ∧
      (t.slots = x.slots ∧ t.pods = x.pods ∧ t.inputs = x.inputs ∧ t.mgmt = x.mgmt ∧ t.faults.uptime = x.faults.uptime) ∧
      t.supply = monitorAtVs x.tables.hub x.supply ∧
      (∀ g : Fin 4, t.gauges[g] = formDuty x.tables.gauges[g] x.supply.ign (monitorAtVs x.tables.hub x.supply).vs x.gauges[g]) ∧
      ∀ p, (t.port p).rx = (x.port p).rx ∧ (t.port p).tx = (x.port p).tx := by
  have gauges : t.gauges = tabulate fun g =>
      formDuty x.tables.gauges[g] x.supply.ign (monitorAtVs x.tables.hub x.supply).vs x.gauges[g] := (congrArg State.gauges h :)
  refine ⟨⟨(congrArg State.inReset h :), (congrArg State.node h :), (congrArg State.store h :), (congrArg State.tables h :)⟩,
    ⟨(congrArg State.slots h :), (congrArg State.pods h :), (congrArg State.inputs h :), (congrArg State.mgmt h :),
      (congrArg (fun u : State => u.faults.uptime) h :)⟩, (congrArg State.supply h :), fun g => by rw [gauges, getElem_tabulate_fin],
    fun p => ?_⟩
  cases p
  · exact ⟨(congrArg (fun u : State => u.fore.rx) h :), (congrArg (fun u : State => u.fore.tx) h :)⟩
  · exact ⟨(congrArg (fun u : State => u.aft.rx) h :), (congrArg (fun u : State => u.aft.tx) h :)⟩

theorem goesTo_iff (s : State) (p : PortId) : goesTo s p = true ↔
    (s.tables.hub.reportPort = .both ∨ (p = .fore ∧ s.tables.hub.reportPort = .fore) ∨ (p = .aft ∧ s.tables.hub.reportPort = .aft)) := by
  unfold goesTo
  cases p <;> cases s.tables.hub.reportPort <;> simp

/-- Settles O4: the events of a start change flags, links and conditions beside the start-up state, and each report is copied as
it joins. -/
theorem supplyResetStartsTheHub : Obligations.SupplyResetStartsTheHub := by
  unfold Obligations.SupplyResetStartsTheHub
  intro i s
  refine ⟨fun p running sending restarting head => exec_restartCompleted s p i running sending restarting head,
    fun held risen => exec_resetEnd s i held risen, ?_⟩
  obtain ⟨⟨inReset, node, store, tables⟩, ⟨slots, pods, inputs, mgmt, uptime⟩, supply, gauges, ports⟩ :=
    fields_of_vsView (supplyReset_view i s)
  have copied := supplyReset_allCopied i s
  have flags := supplyReset_flags i s
  have raised := supplyReset_reports i s
  have stored := supplyReset_store i s
  generalize supplyReset i s = t at *
  have hub : t.tables = loadedTables s.store := tables
  have vs : t.supply.vs = clampSupply i.supply := congrArg SupplyState.vs supply
  intro _
  refine ⟨inReset, node, store, hub, slots, fun p => ?_, fun k => ?_, vs, congrArg SupplyState.shed supply, congrArg SupplyState.ign supply, uptime, fun g => ?_, fun c k set => ?_,
    fun c detects out => ?_, copied.reports, fun p aside => ?_, mgmt, fun p => ?_, fun invalid => ?_, fun p goes => ?_⟩
  · rw [pods]
    simp [startState, PodLive.reset]
  · rw [inputs, hub]
    simp only [startState, getElem_tabulate_fin]
    rfl
  · rw [gauges g]
    simp only [startState]
    refine (congrArg _ (by simp)).trans (formDuty_reset _ _)
  · obtain ⟨zero, detects, cause⟩ := flags c k set
    rw [hub, vs]
    exact ⟨zero, detects, cause⟩
  · rw [hub] at detects out
    rw [vs] at out
    exact raised c detects out
  · refine copied.aside p ?_
    rw [← Bool.not_eq_true, goesTo_iff]
    rcases aside with ⟨rfl, port⟩ | ⟨rfl, port⟩ <;> replace port : t.tables.hub.reportPort = _ := port <;> simp [port]
  · obtain ⟨rx, tx⟩ := ports p
    rw [rx, tx]
    cases p <;> exact ⟨rfl, rfl⟩
  · exact stored invalid
  · rw [copied.head p ((goesTo_iff t p).mpr goes), hub, node]
    rfl

end Sys2Proof.Machine
end

section
/-! PROOFS. What resolved verbs and flash contexts make of one output and its flags (R80 to R83, R104, R105, R121 to R124). -/

namespace Sys2Proof.Machine

/-! One output and the two flags that its demand-off clears. -/

/-- An output with its OVERLOAD and STALL flags. -/
def outView (o : Fin 12) (s : State) : OutLive × Bool × Bool :=
  (s.outs[o], s.faults.isSet .overload o.val, s.faults.isSet .stall o.val)

/-- An output and its flags after a demand-off, if there was one (R104, R105). -/
def offView (h : HubTable) (off : Bool) (x : OutLive × Bool × Bool) : OutLive × Bool × Bool :=
  (releasedIf off x.1, x.2.1 && (h.latches .overload || !off), x.2.2 && (h.latches .stall || !off))

theorem offView_false (h : HubTable) (x : OutLive × Bool × Bool) : offView h false x = x := by
  simp [offView]

theorem outs_modified_self (s : State) (o : Fin 12) (f : OutLive → OutLive) :
    outView o { s with outs := modifyAt s.outs o f } = (f s.outs[o], (outView o s).2) := by
  simp only [outView, getElem_modifyAt_self]

theorem outs_modified_other (s : State) (o q : Fin 12) (f : OutLive → OutLive) (h : o ≠ q) :
    outView o { s with outs := modifyAt s.outs q f } = outView o s := by
  simp [outView, getElem_modifyAt_ne _ _ _ _ h]

theorem demandOff_outs (o : Fin 12) (s : State) : (demandOff o s).outs = modifyAt s.outs o released := by
  simp [demandOff]

theorem demandOff_isSet (o : Fin 12) (s : State) (c : FaultClass) (i : Nat) : (demandOff o s).faults.isSet c i =
    (s.faults.isSet c i && !(decide ((c = .overload ∨ c = .stall) ∧ i = o.val) && !s.tables.hub.latches c)) := by
  unfold demandOff
  rw [isSet_clearUnlatched, isSet_clearUnlatched, clearUnlatched_tables]
  cases c <;> simp

/-- A demand-off releases its output and clears its unlatched flags (R104, R105). -/
theorem demandOff_view (o : Fin 12) (s : State) : outView o (demandOff o s) = offView s.tables.hub true (outView o s) := by
  simp only [outView, offView, demandOff_outs, getElem_modifyAt_self, demandOff_isSet, releasedIf_true]
  simp

theorem demandOff_view_other (o q : Fin 12) (s : State) (h : o ≠ q) : outView o (demandOff q s) = outView o s := by
  have apart : o.val ≠ q.val := fun e => h (Fin.ext e)
  simp [outView, demandOff_outs, demandOff_isSet, getElem_modifyAt_ne _ _ _ _ h, apart]

@[simp] theorem demandOff_flash (o : Fin 12) (s : State) : (demandOff o s).flash = s.flash := by
  simp [demandOff]

@[simp] theorem demandOff_tables (o : Fin 12) (s : State) : (demandOff o s).tables = s.tables := by
  simp [demandOff]

@[simp] theorem demandOff_supply (o : Fin 12) (s : State) : (demandOff o s).supply = s.supply := by
  simp [demandOff]

/-! A verb on one output. -/

theorem demand_eq (v : Resolved) (held : Bool) : v.demand held = demandByVerb held (some v) := by
  cases v with
  | level n => simp [Resolved.demand, demandByVerb, Nat.one_le_iff_ne_zero]
  | _ => rfl

theorem fan_eq (v : Resolved) (level memory : Nat) :
    (v.fanLevel level memory, v.fanMemory memory) = fanByVerb level memory (some v) := by
  cases v with
  | level n => by_cases h : n = 0 <;> simp [Resolved.fanLevel, Resolved.fanMemory, fanByVerb, h]
  | toggle => by_cases h : level = 0 <;> simp [Resolved.fanLevel, Resolved.fanMemory, fanByVerb, h]
  | _ => rfl

theorem domainAllows_eq (e : LoadEntry) (ign : Bool) : domainAllows e ign = (decide (e.domain = .always) || ign) := by
  unfold domainAllows
  cases e.domain <;> simp

theorem isShed_eq (e : LoadEntry) (level : Nat) :
    isShed e level = (decide (1 ≤ e.shedClass) && decide (4 - e.shedClass ≤ level)) := by
  unfold isShed
  congr 1
  rw [decide_eq_decide]
  omega

theorem effectiveLevel_eq (t : Tables) (e : LoadEntry) (ign : Bool) (shed level : Nat) :
    effectiveLevel t.hub e ign shed level = effectiveOf t e ign shed level := by
  unfold effectiveLevel effectiveOf
  rw [domainAllows_eq, isShed_eq]
  simp

/-- The demand of an output after a verb, and whether that is its demand-off (R80, R81, R83, R104). -/
def verbed (t : Tables) (flash : FlashState) (supply : SupplyState) (e : LoadEntry) (v : Option Resolved) (x : OutLive) :
    OutLive × Bool :=
  let demand := demandByVerb x.demand v
  let fan := fanByVerb x.fanLevel x.fanMemory v
  match e.kind with
  | .unused => (x, false)
  | .indicator => (x, false)
  | .lamp => ({ x with demand := demand }, x.demand && !demand)
  | .stop => ({ x with demand := demand }, x.demand && !demand)
  | .stopturn => ({ x with demand := demand }, x.demand && !demand && !flash.context e.side)
  | .fan =>
    ({ x with
        fanLevel := fan.1
        fanMemory := fan.2
        effective := if fan.1 = x.fanLevel then x.effective else effectiveOf t e supply.ign supply.shed fan.1 },
      decide (0 < x.fanLevel) && decide (fan.1 = 0))

theorem verbed_none (t : Tables) (flash : FlashState) (supply : SupplyState) (e : LoadEntry) (x : OutLive) :
    verbed t flash supply e none x = (x, false) := by
  unfold verbed
  cases e.kind <;> simp only [demandByVerb, fanByVerb, if_true, Bool.and_not_self, Bool.false_and]
  refine Prod.ext rfl ?_
  by_cases still : x.fanLevel = 0 <;> simp [still]

/-- What a verb makes of its own output (R80, R81, R83, R104, R105). -/
theorem verbOnOutput_view (o : Fin 12) (v : Resolved) (s : State) : outView o (verbOnOutput o v s) =
    let y := verbed s.tables s.flash s.supply s.tables.loads[o] (some v) s.outs[o]
    offView s.tables.hub y.2 (y.1, (outView o s).2) := by
  have lamp : ∀ releases : Bool, outView o (verbOnLamp o releases v s) =
      offView s.tables.hub (s.outs[o].demand && !demandByVerb s.outs[o].demand (some v) && releases)
        ({ s.outs[o] with demand := demandByVerb s.outs[o].demand (some v) }, (outView o s).2) := by
    intro releases
    unfold verbOnLamp
    rw [← demand_eq]
    simp only
    split
    · rename_i off
      rw [off, demandOff_view, outs_modified_self]
    · rename_i off
      rw [Bool.not_eq_true] at off
      rw [off, offView_false, outs_modified_self]
  unfold verbOnOutput verbed
  split <;> rename_i kind <;> simp only [kind]
  · exact (offView_false _ _).symm
  · exact (offView_false _ _).symm
  · simpa using lamp true
  · simpa using lamp true
  · exact lamp _
  · unfold verbOnFan
    rw [← fan_eq, ← effectiveLevel_eq]
    simp only
    split
    · rename_i off
      rw [demandOff_view, outs_modified_self, ← Bool.decide_and, decide_eq_true off]
    · rename_i off
      rw [outs_modified_self, ← Bool.decide_and, decide_eq_false off, offView_false]

theorem verbOnOutput_view_other (o q : Fin 12) (v : Resolved) (s : State) (h : o ≠ q) :
    outView o (verbOnOutput q v s) = outView o s := by
  unfold verbOnOutput verbOnLamp verbOnFan
  split <;> (try rfl) <;> simp only <;> split <;>
    simp only [demandOff_view_other _ _ _ h, outs_modified_other _ _ _ _ h]

theorem verbOnOutput_context (o : Fin 12) (v : Resolved) (s : State) :
    (verbOnOutput o v s).tables = s.tables ∧ (verbOnOutput o v s).flash = s.flash ∧ (verbOnOutput o v s).supply = s.supply := by
  have loads := verbOnOutput_lessLoads o v s
  refine ⟨(congrArg State.tables loads :), ?_, (congrArg State.supply loads :)⟩
  unfold verbOnOutput verbOnLamp verbOnFan
  split <;> (try rfl) <;> simp only <;> split <;> simp

/-! The twelve outputs in turn. -/

/-- A fold over the outputs whose steps touch their own output alone makes of each what its own step makes of it. -/
theorem foldl_outputs {f : State → Fin 12 → State} {γ : Type} (context : State → γ) (keeps : ∀ t o, context (f t o) = context t)
    (other : ∀ t o q, o ≠ q → outView o (f t q) = outView o t) (g : γ → Fin 12 → OutLive × Bool × Bool → OutLive × Bool × Bool)
    (own : ∀ t o, outView o (f t o) = g (context t) o (outView o t)) (o : Fin 12) : ∀ (l : List (Fin 12)) (s : State), l.Nodup →
      outView o (l.foldl f s) = if o ∈ l then g (context s) o (outView o s) else outView o s
  | [], _, _ => by simp
  | q :: l, s, nodup => by
    obtain ⟨apart, nodup⟩ := List.nodup_cons.mp nodup
    rw [List.foldl_cons, foldl_outputs context keeps other g own o l _ nodup, keeps]
    by_cases h : o = q
    · subst h
      rw [if_neg apart, own, if_pos (by simp)]
    · rw [other s o q h]
      simp [h]

/-- Tables, flasher and supply, which a verb on an output leaves alone. -/
def verbContext (s : State) : Tables × FlashState × SupplyState := (s.tables, s.flash, s.supply)

theorem applyOutputVerbs_context (verbs : Fin 15 → Option Resolved) (s : State) :
    verbContext (applyOutputVerbs verbs s) = verbContext s := by
  refine foldl_keeps verbContext _ (fun t o => ?_) _ s
  split
  · obtain ⟨tables, flash, supply⟩ := verbOnOutput_context o ‹_› t
    simp only [verbContext, tables, flash, supply]
  · rfl

/-- The verbs on the outputs: each output is moved by its own (R78, R80, R81, R83). -/
theorem applyOutputVerbs_view (verbs : Fin 15 → Option Resolved) (s : State) (o : Fin 12) :
    outView o (applyOutputVerbs verbs s) =
      let y := verbed s.tables s.flash s.supply s.tables.loads[o] (verbs (outputTarget o)) s.outs[o]
      offView s.tables.hub y.2 (y.1, (outView o s).2) := by
  refine (foldl_outputs verbContext (fun t q => ?_) (fun t q r h => ?_)
    (fun c q x =>
      let y := verbed c.1 c.2.1 c.2.2 c.1.loads[q] (verbs (outputTarget q)) x.1
      offView c.1.hub y.2 (y.1, x.2)) (fun t q => ?_) o _ s (List.nodup_finRange 12)).trans ?_
  · split
    · obtain ⟨tables, flash, supply⟩ := verbOnOutput_context q ‹_› t
      simp only [verbContext, tables, flash, supply]
    · rfl
  · split
    · exact verbOnOutput_view_other q r _ t h
    · rfl
  · cases hv : verbs (outputTarget q) with
    | some v => exact verbOnOutput_view q v t
    | none =>
      have still := verbed_none t.tables t.flash t.supply t.tables.loads[q] t.outs[q]
      exact ((congrArg (fun y : OutLive × Bool => offView t.tables.hub y.2 (y.1, (outView q t).2)) still).trans (offView_false _ _)).symm
  · rw [if_pos (List.mem_finRange o)]
    rfl

/-! The contexts handed over by the flasher (R121, R123, R124). -/

theorem handContexts_flash (before : Vector Bool 12) (new : FlashState) (s : State) : (handContexts before new s).flash = new := by
  unfold handContexts
  simp only
  rw [foldl_keeps State.flash]
  intro t o
  split
  · exact demandOff_flash o t
  · rfl

/-- An output after the contexts are handed over: its gap, and its demand-off where the context has ended (R121, R123, R124). -/
theorem handContexts_view (before : Vector Bool 12) (new : FlashState) (s : State) (o : Fin 12) :
    outView o (handContexts before new s) =
      offView s.tables.hub (contextReleases s.tables.loads[o] s.flash new s.outs[o])
        ({ s.outs[o] with gap := gapAfter s.tables s.tables.loads[o] before[o] s.flash new s.outs[o] }, (outView o s).2) := by
  unfold handContexts
  simp only
  refine (foldl_outputs State.tables (fun t q => ?_) (fun t q r h => ?_)
    (fun c q x => offView c.hub (contextReleases s.tables.loads[q] s.flash new s.outs[q]) x) (fun t q => ?_) o _ _
    (List.nodup_finRange 12)).trans ?_
  · split
    · exact demandOff_tables q t
    · rfl
  · split
    · exact demandOff_view_other q r t h
    · rfl
  · split
    · rename_i off
      rw [off, demandOff_view]
    · rename_i off
      rw [Bool.not_eq_true] at off
      rw [off, offView_false]
  · rw [if_pos (List.mem_finRange o)]
    simp only [outView, getElem_tabulate_fin]

theorem redriveAll_view (s : State) (o : Fin 12) : outView o (redriveAll s) =
    (redrive s.tables.loads[o] s.flash s.supply.ign s.supply.shed s.outs[o], (outView o s).2) := by
  simp only [outView, redriveAll, getElem_tabulate_fin]

/-! The demands after the verbs of one event (R78 to R82). -/

/-- The demand, the fan level and its memory of an output. -/
def demandView (o : Fin 12) (s : State) : Bool × Nat × Nat := (s.outs[o].demand, s.outs[o].fanLevel, s.outs[o].fanMemory)

/-- The same after a verb, by the kind of the load (R80, R81, R83). -/
def demandMoved (kind : LoadKind) (v : Option Resolved) (x : Bool × Nat × Nat) : Bool × Nat × Nat :=
  match kind with
  | .unused => x
  | .indicator => x
  | .lamp => (demandByVerb x.1 v, x.2)
  | .stop => (demandByVerb x.1 v, x.2)
  | .stopturn => (demandByVerb x.1 v, x.2)
  | .fan => (x.1, fanByVerb x.2.1 x.2.2 v)

theorem demandMoved_none (kind : LoadKind) (x : Bool × Nat × Nat) : demandMoved kind none x = x := by
  cases kind <;> rfl

theorem releasedIf_demand (off : Bool) (x : OutLive) : ((releasedIf off x).demand, (releasedIf off x).fanLevel, (releasedIf off x).fanMemory) =
    (x.demand, x.fanLevel, x.fanMemory) := by
  cases off <;> rfl

theorem redrive_demand (e : LoadEntry) (flash : FlashState) (ign : Bool) (shed : Nat) (x : OutLive) :
    ((redrive e flash ign shed x).demand, (redrive e flash ign shed x).fanLevel, (redrive e flash ign shed x).fanMemory) =
      (x.demand, x.fanLevel, x.fanMemory) := by
  unfold redrive
  split
  · split
    · split <;> rfl
    · rfl
  · split <;> rfl

theorem demandView_eq (o : Fin 12) (s : State) : demandView o s =
    ((outView o s).1.demand, (outView o s).1.fanLevel, (outView o s).1.fanMemory) := rfl

theorem applyOutputVerbs_demand (verbs : Fin 15 → Option Resolved) (s : State) (o : Fin 12) :
    demandView o (applyOutputVerbs verbs s) = demandMoved s.tables.loads[o].kind (verbs (outputTarget o)) (demandView o s) := by
  rw [demandView_eq, applyOutputVerbs_view]
  simp only [offView, releasedIf_demand]
  unfold verbed demandMoved demandView
  cases s.tables.loads[o].kind <;> rfl

theorem applyFlashVerbs_demand (before : Vector Bool 12) (verbs : Fin 15 → Option Resolved) (s : State) (o : Fin 12) :
    demandView o (applyFlashVerbs before verbs s) = demandView o s := by
  unfold applyFlashVerbs
  rw [demandView_eq, handContexts_view]
  simp only [offView, releasedIf_demand]
  rfl

theorem redriveAll_demand (s : State) (o : Fin 12) : demandView o (redriveAll s) = demandView o s := by
  rw [demandView_eq, redriveAll_view]
  exact redrive_demand _ _ _ _ _

theorem demandAfter_demand (v : Option Resolved) (x : FlashSource) : (demandAfter v x).demand = demandByVerb x.demand v := by
  unfold demandAfter
  cases v with
  | none => rfl
  | some r => exact demand_eq r x.demand

theorem applyFlashVerbs_source (before : Vector Bool 12) (verbs : Fin 15 → Option Resolved) (s : State) (i : SourceId) :
    ((applyFlashVerbs before verbs s).flash.source i).demand = demandByVerb (s.flash.source i).demand (verbs (sourceTarget i)) := by
  unfold applyFlashVerbs
  rw [handContexts_flash]
  obtain ⟨hazard, left, right⟩ := settleFlash_demands s.tables s.faults s.supply.ign
    { left := demandAfter (verbs 12) s.flash.left
      right := demandAfter (verbs 13) s.flash.right
      hazard := demandAfter (verbs 14) s.flash.hazard }
  cases i with
  | left => exact left.trans (demandAfter_demand _ _)
  | right => exact right.trans (demandAfter_demand _ _)
  | hazard => exact hazard.trans (demandAfter_demand _ _)

/-- Two actions of one event come in one order or the other, with the count of open orders raised. -/
theorem anyOrder_pair (f g : State → State) (s : State) : ∃ n,
    anyOrder [f, g] s = g (f { s with choices := n }) ∨ anyOrder [f, g] s = f (g { s with choices := n }) := by
  refine ⟨s.choices + 2, ?_⟩
  have order := permute_perm Config.orderChoice s.choices [f, g]
  rcases List.perm_pair.mp order with h | h
  · exact .inl (by simp [anyOrder, h, runAll])
  · exact .inr (by simp [anyOrder, h, runAll])

/-- Every demand after the verbs of one event, whichever owner is handed its verbs first (R78 to R82). -/
structure movedBy (verbs : Fin 15 → Option Resolved) (s t : State) : Prop where
  outputs : ∀ o : Fin 12, demandView o t = demandMoved s.tables.loads[o].kind (verbs (outputTarget o)) (demandView o s)
  sources : ∀ i : SourceId, (t.flash.source i).demand = demandByVerb (s.flash.source i).demand (verbs (sourceTarget i))

theorem handVerbs_moved (verbs : Fin 15 → Option Resolved) (s : State) : movedBy verbs s (handVerbs verbs s) := by
  have outputsFlash : ∀ t, (applyOutputVerbs verbs t).flash = t.flash := fun t =>
    congrArg (fun c => c.2.1) (applyOutputVerbs_context verbs t)
  have outputsTables : ∀ t, (applyOutputVerbs verbs t).tables = t.tables := fun t =>
    congrArg (fun c => c.1) (applyOutputVerbs_context verbs t)
  have flashTables : ∀ b t, (applyFlashVerbs b verbs t).tables = t.tables := fun b t =>
    (congrArg State.tables (applyFlashVerbs_lessLoads b verbs t) :)
  have silentOutputs : ((List.finRange 12).any fun o => (verbs (outputTarget o)).isSome) = false → ∀ o, verbs (outputTarget o) = none := by
    intro h o
    simpa using List.any_eq_false.mp h o (List.mem_finRange o)
  have silentSources : ((verbs 12).isSome || (verbs 13).isSome || (verbs 14).isSome) = false → ∀ i, verbs (sourceTarget i) = none := by
    intro h i
    simp only [Bool.or_eq_false_iff, Option.isSome_eq_false_iff, Option.isNone_iff_eq_none] at h
    obtain ⟨⟨left, right⟩, hazard⟩ := h
    cases i
    · exact left
    · exact right
    · exact hazard
  unfold handVerbs
  simp only
  cases toOutputs : (List.finRange 12).any fun o => (verbs (outputTarget o)).isSome <;>
    cases toFlasher : (verbs 12).isSome || (verbs 13).isSome || (verbs 14).isSome
  · exact ⟨fun o => by rw [silentOutputs toOutputs o, demandMoved_none]; rfl, fun i => by rw [silentSources toFlasher i]; rfl⟩
  · refine ⟨fun o => ?_, fun i => applyFlashVerbs_source _ verbs s i⟩
    rw [silentOutputs toOutputs o, demandMoved_none]
    exact (redriveAll_demand _ o).trans (applyFlashVerbs_demand _ verbs s o)
  · refine ⟨fun o => (redriveAll_demand _ o).trans (applyOutputVerbs_demand verbs s o), fun i => ?_⟩
    rw [silentSources toFlasher i]
    exact congrArg (fun f : FlashState => (f.source i).demand) (outputsFlash s)
  · obtain ⟨n, order⟩ := anyOrder_pair (applyOutputVerbs verbs) (applyFlashVerbs (drives s) verbs) s
    have both : movedBy verbs s (anyOrder [applyOutputVerbs verbs, applyFlashVerbs (drives s) verbs] s) := by
      rcases order with h | h <;> rw [h]
      · refine ⟨fun o => ?_, fun i => ?_⟩
        · rw [applyFlashVerbs_demand, applyOutputVerbs_demand]
          rfl
        · rw [applyFlashVerbs_source, outputsFlash]
      · refine ⟨fun o => ?_, fun i => ?_⟩
        · rw [applyOutputVerbs_demand, applyFlashVerbs_demand, flashTables]
          rfl
        · rw [outputsFlash, applyFlashVerbs_source]
    exact ⟨fun o => (redriveAll_demand _ o).trans (both.outputs o), both.sources⟩

end Sys2Proof.Machine
end

section
/-! PROOFS. A relay offer beside the delivery of its frame (R15, R20): what the offer makes, and what it leaves to the delivery,
whichever of the two comes first. -/

namespace Sys2Proof.Machine

/-! The blocks of the hub, beside ports, reports and what links may change. -/

/-- The hub with its ports, its reports and what links may change left out. -/
def State.blocks (s : State) : State := { s.lessReports.lessLoads with fore := PortState.reset, aft := PortState.reset }

theorem blocks_of_lessLoads {s t : State} (h : t.lessLoads = s.lessLoads) : t.blocks = s.blocks := (congrArg State.blocks h :)

theorem blocks_of_lessReports {s t : State} (h : t.lessReports = s.lessReports) : t.blocks = s.blocks := (congrArg State.blocks h :)

@[simp] theorem setPort_blocks (s : State) (p : PortId) (x : PortState) : (s.setPort p x).blocks = s.blocks := by
  cases p <;> rfl

@[simp] theorem clearUnlatched_blocks (c : FaultClass) (i : Nat) (s : State) : (clearUnlatched c i s).blocks = s.blocks :=
  blocks_of_lessLoads (clearUnlatched_lessLoads c i s)

@[simp] theorem goodVerdict_blocks (p : PortId) (s : State) : (goodVerdict p s).blocks = s.blocks := by
  simp [goodVerdict]

@[simp] theorem offerMade_blocks (p : PortId) (f : Frame) (s : State) : (offerMade p f s).blocks = s.blocks := by
  unfold offerMade relayTaken
  split <;> simp

@[simp] theorem finish_blocks (before : State) (e : Ev) : (finish before e).blocks = e.st.blocks :=
  blocks_of_lessReports (finish_lessReports before e)

theorem matrixEvent_blocks (ev : MatrixEvent) (s : State) : (matrixEvent ev s).blocks = s.blocks :=
  blocks_of_lessLoads (matrixEvent_lessLoads ev s)

/-- The parts of two hubs with the same blocks agree. -/
theorem fields_of_blocks {s t : State} (h : t.blocks = s.blocks) :
    (t.inReset = s.inReset ∧ t.node = s.node ∧ t.tables = s.tables ∧ t.slots = s.slots ∧ t.pods = s.pods ∧ t.inputs = s.inputs) ∧
      t.conds = s.conds ∧ t.gauges = s.gauges ∧ t.supply = s.supply ∧ t.mgmt = s.mgmt ∧ t.store = s.store ∧
      t.faults.uptime = s.faults.uptime :=
  ⟨⟨(congrArg State.inReset h :), (congrArg State.node h :), (congrArg State.tables h :), (congrArg State.slots h :),
    (congrArg State.pods h :), (congrArg State.inputs h :)⟩, (congrArg State.conds h :), (congrArg State.gauges h :),
    (congrArg State.supply h :), (congrArg State.mgmt h :), (congrArg State.store h :),
    (congrArg (fun u : State => u.faults.uptime) h :)⟩

theorem tables_of_blocks {s t : State} (h : t.blocks = s.blocks) : t.tables = s.tables := (congrArg State.tables h :)

/-! What a relay offer makes of the hub. -/

theorem offerRelay_blocks (p : PortId) (f : Frame) (e : Ev) : (offerRelay p.opposite (relayed f) e).st.blocks = e.st.blocks := by
  rw [offerRelay_made]
  split
  · exact offerMade_blocks p f e.st
  · rw [blocks_of_lessLoads (reportFault_lessLoads .egress (portIndex p.opposite) 0 (e.on (offerMade p f)) (by decide))]
    exact offerMade_blocks p f e.st

/-- The port to which a frame is offered: its queue, with the record behind it where there is room, and the mark of the offer. -/
theorem offerMade_port (p : PortId) (f : Frame) (s : State) :
    (offerMade p f s).port p.opposite = { s.port p.opposite with
      queue := (s.port p.opposite).queue ++
        if offerHasRoom s p then [{ frame := { f with hops := f.hops - 1 }, note := .relay }] else []
      offerTaken := decide (offerHasRoom s p) } := by
  unfold offerMade relayTaken
  by_cases room : offerHasRoom s p
  · rw [if_pos room, clearUnlatched_port, State.port_setPort, if_pos room, decide_eq_true room]
  · rw [if_neg room, State.port_setPort, if_neg room, decide_eq_false room, List.append_nil]

theorem offerRelay_port (p : PortId) (f : Frame) (e : Ev) :
    (offerRelay p.opposite (relayed f) e).st.port p.opposite = (offerMade p f e.st).port p.opposite := by
  rw [offerRelay_made]
  split
  · rfl
  · have loads := reportFault_lessLoads .egress (portIndex p.opposite) 0 (e.on (offerMade p f)) (by decide)
    cases p
    · exact (congrArg State.aft loads :)
    · exact (congrArg State.fore loads :)

theorem offerMade_isSet (p : PortId) (f : Frame) (s : State) (c : FaultClass) (i : Nat) (other : c ≠ .egress) :
    (offerMade p f s).faults.isSet c i = s.faults.isSet c i := by
  unfold offerMade relayTaken
  split
  · simp [isSet_clearUnlatched, other]
  · simp

theorem offerMade_egress (p : PortId) (f : Frame) (s : State) :
    (offerMade p f s).faults.isSet .egress (portIndex p.opposite) =
      (s.faults.isSet .egress (portIndex p.opposite) && (s.tables.hub.latches .egress || !decide (offerHasRoom s p))) := by
  unfold offerMade relayTaken
  by_cases room : offerHasRoom s p
  · rw [if_pos room, isSet_clearUnlatched, decide_eq_true room]
    simp
  · rw [if_neg room, decide_eq_false room]
    simp

@[simp] theorem offerMade_capture (p : PortId) (f : Frame) (s : State) : (offerMade p f s).faults.capture = s.faults.capture ∧
    (offerMade p f s).faults.lost = s.faults.lost := by
  unfold offerMade relayTaken
  split <;> simp

@[simp] theorem offerMade_outs (p : PortId) (f : Frame) (s : State) : (offerMade p f s).outs = s.outs := by
  unfold offerMade relayTaken
  split <;> simp

@[simp] theorem offerMade_flash (p : PortId) (f : Frame) (s : State) : (offerMade p f s).flash = s.flash := by
  unfold offerMade relayTaken
  split <;> simp

@[simp] theorem offerMade_tables (p : PortId) (f : Frame) (s : State) : (offerMade p f s).tables = s.tables :=
  tables_of_blocks (offerMade_blocks p f s)

/-- The EGRESS flag after an offer (R15, R160). -/
theorem offerRelay_egress (p : PortId) (f : Frame) (e : Ev) :
    (offerRelay p.opposite (relayed f) e).st.faults.isSet .egress (portIndex p.opposite) =
      if offerHasRoom e.st p then e.st.faults.isSet .egress (portIndex p.opposite) && e.st.tables.hub.latches .egress
      else e.st.faults.isSet .egress (portIndex p.opposite) || e.st.tables.hub.detects .egress := by
  have egress := offerMade_egress p f e.st
  rw [offerRelay_made]
  by_cases room : offerHasRoom e.st p
  · rw [if_pos room, if_pos room]
    refine egress.trans ?_
    rw [decide_eq_true room]
    simp
  · rw [if_neg room, if_neg room, reportFault_sets _ _ _ _ (portIndex_lt _) (by decide)]
    simp only [Ev.on, offerMade_tables]
    rw [egress, decide_eq_false room]
    simp

/-- A flag of another class stands at a report that links may hear of, OVERLOAD and STALL apart. -/
theorem reportFault_other_isSet (c d : FaultClass) (i j value : Nat) (e : Ev) (hd : d ≠ .pod) (apart : c ≠ d)
    (other : c ≠ .overload ∧ c ≠ .stall) : (reportFault d j value e).st.faults.isSet c i = e.st.faults.isSet c i := by
  unfold reportFault
  split
  · simp only [Ev.on, isSet_of_lessLinks (matrixEvent_lessLinks _ _) c i other, captureAttempt_isSet, noteRaise_other d j _ hd,
      isSet_setFlag, apart]
    simp
  · rfl

theorem offerRelay_other_isSet (p : PortId) (f : Frame) (e : Ev) (c : FaultClass) (i : Nat)
    (other : c ≠ .egress ∧ c ≠ .overload ∧ c ≠ .stall) :
    (offerRelay p.opposite (relayed f) e).st.faults.isSet c i = e.st.faults.isSet c i := by
  rw [offerRelay_made]
  split
  · exact offerMade_isSet p f e.st c i other.1
  · rw [reportFault_other_isSet _ _ _ _ _ _ (by decide) other.1 other.2]
    exact offerMade_isSet p f e.st c i other.1

/-- The capture attempt reads the flag, the mask, the slots and what its record holds. -/
theorem captured_congr {s t : State} (c : FaultClass) (i value : Nat) (flag : t.faults.isSet c i = s.faults.isSet c i)
    (tables : t.tables = s.tables) (capture : t.faults.capture = s.faults.capture) (lost : t.faults.lost = s.faults.lost)
    (vs : t.supply.vs = s.supply.vs) (uptime : t.faults.uptime = s.faults.uptime) : captured t c i value = captured s c i value := by
  unfold captured recordOf
  rw [flag, tables, vs, uptime]
  simp only [capture, lost]

/-- The capture slots and LOST after an offer (R15, R165). -/
theorem offerRelay_captured (p : PortId) (f : Frame) (e : Ev) :
    ((offerRelay p.opposite (relayed f) e).st.faults.capture, (offerRelay p.opposite (relayed f) e).st.faults.lost) =
      offerCaptures e.st p true := by
  obtain ⟨capture, lost⟩ := offerMade_capture p f e.st
  rw [offerRelay_made]
  unfold offerCaptures
  by_cases room : offerHasRoom e.st p
  · rw [if_pos room, if_neg (by simp [room])]
    exact Prod.ext capture lost
  · rw [if_neg room, if_pos ⟨rfl, room⟩, reportFault_captured _ _ _ _ (by decide)]
    obtain ⟨_, _, _, supply, _, _, uptime⟩ := fields_of_blocks (offerMade_blocks p f e.st)
    refine captured_congr .egress _ 0 ?_ (offerMade_tables p f e.st) capture lost (congrArg SupplyState.vs supply) uptime
    exact (offerMade_egress p f e.st).trans (by simp [room])

/-- No link acts on the offer (R15, R78). -/
def quietAt (p : PortId) (s : State) : Prop := offerRaises s p true = true → wakesMatrix s (.fault .egress) = false

/-- An offer on which no link acts leaves outputs, flasher and the other flags alone. -/
theorem offerRelay_quiet (p : PortId) (f : Frame) (e : Ev) (quiet : quietAt p e.st) :
    (offerRelay p.opposite (relayed f) e).st.outs = e.st.outs ∧ (offerRelay p.opposite (relayed f) e).st.flash = e.st.flash ∧
      ∀ c i, c ≠ .egress → (offerRelay p.opposite (relayed f) e).st.faults.isSet c i = e.st.faults.isSet c i := by
  rw [offerRelay_made]
  by_cases room : offerHasRoom e.st p
  · rw [if_pos room]
    exact ⟨offerMade_outs p f e.st, offerMade_flash p f e.st, fun c i h => offerMade_isSet p f e.st c i h⟩
  · rw [if_neg room]
    by_cases raise : offerRaises e.st p true = true
    · have asleep := quiet raise
      have awake : wakesMatrix (e.on (offerMade p f)).st (.fault .egress) = false :=
        (wakesMatrix_of_tables (offerMade_tables p f e.st) _).trans asleep
      unfold offerRaises at raise
      simp only [Bool.and_eq_true, Bool.not_eq_true'] at raise
      obtain ⟨⟨_, clear⟩, detects⟩ := raise
      have clear : (e.on (offerMade p f)).st.faults.isSet .egress (portIndex p.opposite) = false :=
        (offerMade_egress p f e.st).trans (by simp [clear])
      have detects : (e.on (offerMade p f)).st.tables.hub.detects .egress = true :=
        (congrArg (fun t : Tables => t.hub.detects .egress) (offerMade_tables p f e.st)).trans detects
      rw [reportFault_alone .egress (portIndex p.opposite) 0 _ clear detects awake (by decide)]
      refine ⟨offerMade_outs p f e.st, offerMade_flash p f e.st, fun c i h => ?_⟩
      refine Eq.trans ?_ (offerMade_isSet p f e.st c i h)
      refine (isSet_setFlag (e.on (offerMade p f)).st.faults .egress c (portIndex p.opposite) i).trans ?_
      simp [h, Ev.on]
    · rw [reportFault_ignored]
      · exact ⟨offerMade_outs p f e.st, offerMade_flash p f e.st, fun c i h => offerMade_isSet p f e.st c i h⟩
      · unfold offerRaises at raise
        have flag : (e.on (offerMade p f)).st.faults.isSet .egress (portIndex p.opposite) =
            e.st.faults.isSet .egress (portIndex p.opposite) := (offerMade_egress p f e.st).trans (by simp [room])
        have detects : (e.on (offerMade p f)).st.tables.hub.detects .egress = e.st.tables.hub.detects .egress :=
          congrArg (fun t : Tables => t.hub.detects .egress) (offerMade_tables p f e.st)
        rw [flag, detects]
        simp only [room, decide_false, Bool.true_and, Bool.not_false] at raise
        cases h : e.st.faults.isSet .egress (portIndex p.opposite) <;> simp_all

/-! The offer and the delivery of one frame, in either order. -/

/-- The event with the count of open orders at `n`. -/
def Ev.counted (n : Nat) (e : Ev) : Ev := { e with st := { e.st with choices := n } }

theorem anyOrderEv_pair (f g : Ev → Ev) (e : Ev) : ∃ n,
    anyOrderEv [f, g] e = g (f (e.counted n)) ∨ anyOrderEv [f, g] e = f (g (e.counted n)) := by
  refine ⟨e.st.choices + 2, ?_⟩
  have order := permute_perm Config.orderChoice e.st.choices [f, g]
  rcases List.perm_pair.mp order with h | h
  · exact .inl (by simp [anyOrderEv, h, runAll, Ev.counted])
  · exact .inr (by simp [anyOrderEv, h, runAll, Ev.counted])

/-- A frame's relay offer, if it is made, and its delivery (R20). -/
def offerAndFeed (p : PortId) (f : Frame) (offered : Bool) (g : Ev → Ev) (e : Ev) : Ev :=
  anyOrderEv ((if offered then [offerRelay p.opposite (relayed f)] else []) ++ [g]) e

theorem offerAndFeed_both (p : PortId) (f : Frame) (g : Ev → Ev) (e : Ev) : ∃ n,
    offerAndFeed p f true g e = g (offerRelay p.opposite (relayed f) (e.counted n)) ∨
      offerAndFeed p f true g e = offerRelay p.opposite (relayed f) (g (e.counted n)) :=
  anyOrderEv_pair (offerRelay p.opposite (relayed f)) g e

/-- What an offer reads of the hub, and what it changes there: the queue and the mark of the port to which the frame is offered, the
EGRESS flag and the tables. -/
structure State.sameOffer (p : PortId) (s t : State) : Prop where
  queue : (t.port p.opposite).queue = (s.port p.opposite).queue
  taken : (t.port p.opposite).offerTaken = (s.port p.opposite).offerTaken
  flag : t.faults.isSet .egress (portIndex p.opposite) = s.faults.isSet .egress (portIndex p.opposite)
  tables : t.tables = s.tables

theorem sameOffer_trans {p : PortId} {s t u : State} (h : s.sameOffer p t) (h' : t.sameOffer p u) : s.sameOffer p u :=
  ⟨h'.queue.trans h.queue, h'.taken.trans h.taken, h'.flag.trans h.flag, h'.tables.trans h.tables⟩

theorem goodVerdict_sameOffer (p : PortId) (s : State) : s.sameOffer p (goodVerdict p s) :=
  ⟨by rw [goodVerdict_port_opposite], by rw [goodVerdict_port_opposite], goodVerdict_isSet p s _ _ (by decide), goodVerdict_tables p s⟩

theorem quietAt_of_sameOffer {p : PortId} {s t : State} (h : s.sameOffer p t) (quiet : quietAt p s) : quietAt p t := by
  intro raise
  rw [wakesMatrix_of_tables h.tables]
  refine quiet ?_
  unfold offerRaises offerHasRoom at raise ⊢
  rw [h.queue, h.flag, h.tables] at raise
  exact raise

/-- What an event whose frame was offered, or not, shows of the offer (R15, R160). -/
structure State.shows (p : PortId) (f : Frame) (offered : Bool) (s t : State) : Prop where
  queue : (t.port p.opposite).queue = (s.port p.opposite).queue ++
    if offered = true ∧ offerHasRoom s p then [{ frame := { f with hops := f.hops - 1 }, note := .relay }] else []
  shown : offerShows s t p offered

theorem shows_nothing {p : PortId} {s t : State} (f : Frame) (h : s.sameOffer p t) : s.shows p f false t := by
  constructor
  · simp [h.queue]
  · exact ⟨by simp [h.taken], by simp [h.flag]⟩

theorem shows_offer {p : PortId} {s : State} (f : Frame) {e : Ev} (h : s.sameOffer p e.st) :
    s.shows p f true (offerRelay p.opposite (relayed f) e).st := by
  have port := (offerRelay_port p f e).trans (offerMade_port p f e.st)
  have room : offerHasRoom e.st p ↔ offerHasRoom s p := by
    unfold offerHasRoom
    rw [h.queue]
  constructor
  · rw [port]
    simp only [h.queue, room, true_and]
  · refine ⟨?_, ?_⟩
    · rw [port]
      simp only [room, if_true]
    · rw [offerRelay_egress, h.flag, h.tables]
      simp only [room, Bool.true_eq_false, if_false]

theorem shows_of_sameOffer {p : PortId} {f : Frame} {offered : Bool} {s t u : State} (h : s.shows p f offered t) (same : t.sameOffer p u) :
    s.shows p f offered u := by
  obtain ⟨taken, flag⟩ := h.shown
  exact ⟨same.queue.trans h.queue, same.taken.trans taken, same.flag.trans flag⟩

/-- A delivery leaves the offer alone. -/
def FeedKeepsOffer (p : PortId) (g : Ev → Ev) : Prop := ∀ e : Ev, e.st.sameOffer p (g e).st

/-- The offer shows in the same way whichever comes first. -/
theorem offerAndFeed_shows {p : PortId} {g : Ev → Ev} (keeps : FeedKeepsOffer p g) (f : Frame) (offered : Bool) (s : State) (e : Ev)
    (h : s.sameOffer p e.st) : s.shows p f offered (offerAndFeed p f offered g e).st := by
  cases offered with
  | false => exact shows_nothing f (sameOffer_trans h (keeps e))
  | true =>
    obtain ⟨n, order⟩ := offerAndFeed_both p f g e
    have counted : s.sameOffer p (e.counted n).st := ⟨h.queue, h.taken, h.flag, h.tables⟩
    rcases order with order | order <;> rw [order]
    · exact shows_of_sameOffer (shows_offer f counted) (keeps _)
    · exact shows_offer f (sameOffer_trans counted (keeps _))

/-- The capture slots and LOST stand at a delivery under these tables, and what a capture record holds. -/
def FeedKeepsCaptures (tables : Tables) (g : Ev → Ev) : Prop := ∀ e : Ev, e.st.tables = tables → (g e).st.faults.capture = e.st.faults.capture ∧
  (g e).st.faults.lost = e.st.faults.lost ∧ (g e).st.supply.vs = e.st.supply.vs ∧ (g e).st.faults.uptime = e.st.faults.uptime

theorem offerCaptures_congr {p : PortId} {s t : State} (h : s.sameOffer p t) (capture : t.faults.capture = s.faults.capture)
    (lost : t.faults.lost = s.faults.lost) (vs : t.supply.vs = s.supply.vs) (uptime : t.faults.uptime = s.faults.uptime)
    (offered : Bool) : offerCaptures t p offered = offerCaptures s p offered := by
  unfold offerCaptures offerHasRoom
  rw [h.queue, captured_congr .egress _ 0 h.flag h.tables capture lost vs uptime, capture, lost]

/-- The capture attempt of the offer is the same whichever comes first. -/
theorem offerAndFeed_captures {p : PortId} {g : Ev → Ev} (keeps : FeedKeepsOffer p g) (f : Frame)
    (offered : Bool) (s : State) (holds : FeedKeepsCaptures s.tables g) (e : Ev) (h : s.sameOffer p e.st) (capture : e.st.faults.capture = s.faults.capture)
    (lost : e.st.faults.lost = s.faults.lost) (vs : e.st.supply.vs = s.supply.vs) (uptime : e.st.faults.uptime = s.faults.uptime) :
    ((offerAndFeed p f offered g e).st.faults.capture, (offerAndFeed p f offered g e).st.faults.lost) = offerCaptures s p offered := by
  cases offered with
  | false =>
    obtain ⟨capture', lost', _, _⟩ := holds e h.tables
    exact Prod.ext (capture'.trans capture) (lost'.trans lost)
  | true =>
    obtain ⟨n, order⟩ := offerAndFeed_both p f g e
    have counted : s.sameOffer p (e.counted n).st := ⟨h.queue, h.taken, h.flag, h.tables⟩
    rcases order with order | order <;> rw [order]
    · obtain ⟨capture', lost', _, _⟩ := holds (offerRelay p.opposite (relayed f) (e.counted n))
        ((tables_of_blocks (offerRelay_blocks p f _)).trans h.tables)
      rw [capture', lost', offerRelay_captured]
      exact offerCaptures_congr counted capture lost vs uptime true
    · obtain ⟨capture', lost', vs', uptime'⟩ := holds (e.counted n) h.tables
      rw [offerRelay_captured]
      exact offerCaptures_congr (sameOffer_trans counted (keeps _)) (capture'.trans capture) (lost'.trans lost) (vs'.trans vs)
        (uptime'.trans uptime) true

/-- What a delivery makes, where the offer leaves alone what it is made of and what it makes. -/
theorem offerAndFeed_feeds {p : PortId} {g : Ev → Ev} (f : Frame) (offered : Bool) (Before Fed After : Ev → Prop) (e : Ev)
    (counts : ∀ n, Before e → Before (e.counted n)) (feeds : ∀ e, Before e → Fed e)
    (offer : offered = true → ∀ e, Before e → Fed (offerRelay p.opposite (relayed f) e)) (feed : ∀ e, Fed e → After (g e))
    (late : offered = true → ∀ e, Before e → After (g e) → After (offerRelay p.opposite (relayed f) (g e))) (h : Before e) :
    After (offerAndFeed p f offered g e) := by
  cases offered with
  | false => exact feed e (feeds e h)
  | true =>
    obtain ⟨n, order⟩ := offerAndFeed_both p f g e
    have start := counts n h
    rcases order with order | order <;> rw [order]
    · exact feed _ (offer rfl _ start)
    · exact late rfl _ start (feed _ (feeds _ start))

/-! The frame boundary of an offered and delivered frame. -/

/-- The reports of an event take their places behind the relay frame (log 8). -/
theorem finish_queue (before : State) (e : Ev) (p : PortId) : ∃ reports, (∀ r ∈ reports, r.note ≠ FrameNote.relay) ∧
    ((finish before e).port p).queue = (e.st.port p).queue ++ reports := by
  obtain ⟨l, notes, port, _⟩ := finish_reportsPut before e p
  exact ⟨l, notes, by rw [port]⟩

theorem finish_faults_eq (before : State) (e : Ev) : (finish before e).faults = e.st.faults :=
  (congrArg State.faults (finish_lessReports before e) :)

theorem finish_offerTaken (before : State) (e : Ev) (p : PortId) : ((finish before e).port p).offerTaken = (e.st.port p).offerTaken := by
  have whole := finish_lessReports before e
  cases p
  · exact (congrArg (fun t : State => t.fore.offerTaken) whole :)
  · exact (congrArg (fun t : State => t.aft.offerTaken) whole :)

/-- What the end of an event shows of its offer. -/
theorem finish_shows {p : PortId} {f : Frame} {offered : Bool} {s : State} (before : State) (e : Ev) (h : s.shows p f offered e.st) :
    (∃ reports, (∀ r ∈ reports, r.note ≠ FrameNote.relay) ∧ ((finish before e).port p.opposite).queue = (s.port p.opposite).queue ++
      (if offered = true ∧ offerHasRoom s p then { frame := { f with hops := f.hops - 1 }, note := .relay } :: reports else reports)) ∧
      offerShows s (finish before e) p offered := by
  obtain ⟨reports, notes, queue⟩ := finish_queue before e p.opposite
  obtain ⟨taken, flag⟩ := h.shown
  refine ⟨⟨reports, notes, ?_⟩, (finish_offerTaken before e _).trans taken, (congrArg (fun x : FaultState => x.isSet .egress _)
    (finish_faults_eq before e)).trans flag⟩
  rw [queue, h.queue, List.append_assoc]
  split <;> rfl

theorem goodVerdict_outs (p : PortId) (s : State) : (goodVerdict p s).outs = s.outs ∧ (goodVerdict p s).flash = s.flash ∧
    (goodVerdict p s).faults.capture = s.faults.capture ∧ (goodVerdict p s).faults.lost = s.faults.lost := by
  simp [goodVerdict]

end Sys2Proof.Machine
end

section
/-! PROOFS. STATE frames through a POD feed (R20, R30, R56, R75 to R82). -/

namespace Sys2Proof.Machine

/-! A frame that its entry delivers. -/

/-- A frame that an entry feeds to a block, not consumed there, is offered and delivered (R20, R28). -/
theorem arrival_fed {s : State} {p : PortId} {f : Frame} {e : MatchEntry} {g : Ev → Ev} (decided : decidedBy s p f e)
    (keeps : consumed s.node e.feed f = false) (feed : feedAction s.node e.feed f (leavesAs s.tables e f) = [g]) :
    arrival p f { st := goodVerdict p s, reply := none, faults := [] } =
      offerAndFeed p (leavesAs s.tables e f) (decide (e.disposition ≠ .drop ∧ f.hops ≠ 0)) g
        { st := goodVerdict p s, reply := none, faults := [] } := by
  unfold arrival offerAndFeed
  rw [arrivalActions_decided (goodVerdict p s) (by simp) (by simp) decided, feed, keeps]
  congr 2
  by_cases h : e.disposition = .drop ∨ f.hops = 0
  · rw [if_pos (by tauto), if_neg (by simp only [decide_eq_true_eq]; tauto)]
  · rw [if_neg (by simp only [Bool.false_eq_true, false_or]; exact h), if_pos (by simp only [decide_eq_true_eq]; tauto)]

/-! The demands after an event of the action matrix. -/

/-- What verbs make of switched outputs and fans (R80, R81, R83). -/
theorem moved_outputs {verbs : Fin 15 → Option Resolved} {s t : State} (h : movedBy verbs s t) :
    (∀ o : Fin 12, s.tables.loads[o].kind.switched = true → t.outs[o].demand = demandByVerb s.outs[o].demand (verbs (outputTarget o))) ∧
      ∀ o : Fin 12, s.tables.loads[o].kind = .fan → (t.outs[o].fanLevel, t.outs[o].fanMemory) =
        fanByVerb s.outs[o].fanLevel s.outs[o].fanMemory (verbs (outputTarget o)) := by
  refine ⟨fun o kind => ?_, fun o kind => ?_⟩
  · have view := h.outputs o
    unfold demandMoved demandView at view
    cases hk : s.tables.loads[o].kind with
    | lamp | stop | stopturn =>
      rw [hk] at view
      exact congrArg (fun x => x.1) view
    | unused | indicator | fan =>
      rw [hk] at kind
      exact absurd kind (by decide)
  · have view := h.outputs o
    unfold demandMoved demandView at view
    rw [kind] at view
    exact congrArg (fun x => x.2) view

theorem demandsFollow_of_moved {s t : State} {ev : MatrixEvent} (h : movedBy (resolvedVerbs (firingSet s ev)) s t) :
    demandsFollow s t ev :=
  ⟨(moved_outputs h).1, (moved_outputs h).2, h.sources⟩

/-- The demands follow an event that nothing links (R78). -/
theorem moved_by_nothing {s : State} {ev : MatrixEvent} (asleep : wakesMatrix s ev = false) :
    movedBy (resolvedVerbs (firingSet s ev)) s s := by
  have moved := handVerbs_moved (resolvedVerbs (firingSet s ev)) s
  rwa [show handVerbs (resolvedVerbs (firingSet s ev)) s = s from matrixEvent_asleep s ev asleep] at moved

/-- A switch event without an edge matches no link (R75). -/
theorem noEdge_asleep (s : State) (pod : Fin 9) : wakesMatrix s (.switch pod 0 0) = false := by
  unfold wakesMatrix
  rw [← Bool.not_eq_true, anyOf_iff]
  rintro ⟨i, h⟩
  simp only [Bool.and_eq_true, LinkEntry.matchesEvent] at h
  obtain ⟨_, _, agrees⟩ := h
  unfold LinkEdge.agrees at agrees
  split at agrees <;> simp at agrees

theorem switchEvent_moved (pod : Fin 9) (rise fall : BitVec 12) (s : State) :
    movedBy (resolvedVerbs (firingSet s (.switch pod rise fall))) s (switchEvent pod rise fall s) := by
  unfold switchEvent
  split
  · rename_i still
    obtain ⟨rfl, rfl⟩ := still
    exact moved_by_nothing (noEdge_asleep s pod)
  · exact handVerbs_moved _ s

/-- What verbs move is read from tables, conditions, outputs and flasher alone. -/
theorem movedBy_congr {verbs : Fin 15 → Option Resolved} {s u t v : State} (h : movedBy verbs s t) (tables : u.tables = s.tables)
    (outs : u.outs = s.outs) (flash : u.flash = s.flash) (outs' : v.outs = t.outs) (flash' : v.flash = t.flash) : movedBy verbs u v := by
  constructor
  · intro o
    have := h.outputs o
    unfold demandView at this ⊢
    rw [outs', tables, outs]
    exact this
  · intro i
    rw [flash', flash]
    exact h.sources i

theorem firingSet_congr {s u : State} (tables : u.tables = s.tables) (conds : u.conds = s.conds) (ev : MatrixEvent) :
    firingSet u ev = firingSet s ev := by
  unfold firingSet
  rw [tables, conds]

/-! The update of a pod (R56). -/

/-- A pod with its update (R30, R56). -/
def podUpdated (s : State) (pod : Fin 8) (bits : Lane) : State :=
  let x : PodLive :=
    { bits := bits, known := true, seen := true
      timer := if s.tables.podTimeouts[pod] = 0 then none else some (s.tables.podTimeouts[pod] * 100) }
  { s with pods := s.pods.set pod.val x }

theorem updatePod_eq (pod : Fin 8) (bits : Lane) (s : State) : updatePod pod bits s =
    switchEvent (linkPod pod) (podRises s.pods[linkPod pod] bits) (podFalls s.pods[linkPod pod] bits)
      (clearUnlatched .pod pod.val (podUpdated s pod bits)) := rfl

theorem switchEvent_blocks (pod : Fin 9) (rise fall : BitVec 12) (s : State) : (switchEvent pod rise fall s).blocks = s.blocks := by
  unfold switchEvent
  split
  · rfl
  · exact matrixEvent_blocks _ s

theorem updatePod_blocks (pod : Fin 8) (bits : Lane) (s : State) : (updatePod pod bits s).blocks = (podUpdated s pod bits).blocks := by
  rw [updatePod_eq, switchEvent_blocks, clearUnlatched_blocks]

theorem updatePod_isSet (pod : Fin 8) (bits : Lane) (s : State) (c : FaultClass) (i : Nat) (other : c ≠ .overload ∧ c ≠ .stall) :
    (updatePod pod bits s).faults.isSet c i =
      (s.faults.isSet c i && !(decide (c = .pod) && decide (i = pod.val) && !s.tables.hub.latches .pod)) := by
  rw [updatePod_eq, isSet_of_lessLinks (switchEvent_lessLinks _ _ _ _) c i other, isSet_clearUnlatched]
  rfl

theorem updatePod_ports (pod : Fin 8) (bits : Lane) (s : State) (q : PortId) : (updatePod pod bits s).port q = s.port q := by
  have links := updatePod_links pod bits s
  cases q
  · exact congrArg (fun x => x.2.2.1) links
  · exact congrArg (fun x => x.2.2.2.1) links

theorem updatePod_keepsOffer (p : PortId) (pod : Fin 8) (bits : Lane) : FeedKeepsOffer p (Ev.on (updatePod pod bits)) := by
  intro e
  refine ⟨?_, ?_, ?_, ?_⟩
  · exact congrArg PortState.queue (updatePod_ports pod bits e.st _)
  · exact congrArg PortState.offerTaken (updatePod_ports pod bits e.st _)
  · exact (updatePod_isSet pod bits e.st _ _ (by decide)).trans (by simp)
  · exact (congrArg State.tables (updatePod_blocks pod bits e.st) :)

theorem updatePod_keepsCaptures (tables : Tables) (pod : Fin 8) (bits : Lane) : FeedKeepsCaptures tables (Ev.on (updatePod pod bits)) := by
  intro e _
  obtain ⟨capture, lost⟩ := capture_of_lessLinks (switchEvent_lessLinks (linkPod pod) (podRises e.st.pods[linkPod pod] bits)
    (podFalls e.st.pods[linkPod pod] bits) (clearUnlatched .pod pod.val (podUpdated e.st pod bits)))
  have blocks := updatePod_blocks pod bits e.st
  exact ⟨capture.trans (by simp [podUpdated]), lost.trans (by simp [podUpdated]), (congrArg (fun t : State => t.supply.vs) blocks :),
    (congrArg (fun t : State => t.faults.uptime) blocks :)⟩

theorem updatePod_moved (pod : Fin 8) (bits : Lane) (s : State) :
    movedBy (resolvedVerbs (firingSet s (.switch (linkPod pod) (podRises s.pods[linkPod pod] bits) (podFalls s.pods[linkPod pod] bits)))) s
      (updatePod pod bits s) := by
  let u := clearUnlatched .pod pod.val (podUpdated s pod bits)
  have tables : s.tables = u.tables := by simp [u, podUpdated]
  have conds : s.conds = u.conds := by simp [u, podUpdated]
  have outs : s.outs = u.outs := by simp [u, podUpdated]
  have flash : s.flash = u.flash := by simp [u, podUpdated]
  rw [updatePod_eq, firingSet_congr tables conds]
  exact movedBy_congr (switchEvent_moved _ _ _ u) tables outs flash rfl rfl

/-- The frame boundary of a frame that its entry delivers (R10, R20). -/
theorem exec_frameBoundary_fed {s : State} {p : PortId} {f : Frame} {e : MatchEntry} {g : Ev → Ev} (running : s.inReset = false)
    (arriving : s.arriving p = some f) (decided : decidedBy s p f e) (keeps : consumed s.node e.feed f = false)
    (feed : feedAction s.node e.feed f (leavesAs s.tables e f) = [g]) :
    exec (.frameBoundary p) s = .next (finish s (offerAndFeed p (leavesAs s.tables e f) (decide (e.disposition ≠ .drop ∧ f.hops ≠ 0)) g
      { st := goodVerdict p s, reply := none, faults := [] })) := by
  rw [exec_frameBoundary_good s p f running arriving, arrival_fed decided keeps feed]

/-- Settles O23: the offer and the update of the pod touch different parts, so that their open order shows in neither. -/
theorem stateFramesUpdateThePod : Obligations.StateFramesUpdateThePod := by
  unfold Obligations.StateFramesUpdateThePod
  intro s p f e pod bits running arriving decided feed kind lanes offered
  let g := Ev.on (updatePod pod bits)
  let start : Ev := { st := goodVerdict p s, reply := none, faults := [] }
  have same : leavesAs s.tables e f = f := leavesAs_cases _ _ _ (by rw [kind]; decide)
  have fed : feedAction s.node e.feed f (leavesAs s.tables e f) = [g] := by
    unfold feedAction
    rw [feed, kind, lanes]
    rfl
  have keeps : consumed s.node e.feed f = false := by simp [consumed, feed]
  have run := exec_frameBoundary_fed running arriving decided keeps fed
  rw [same] at run
  have verdict := goodVerdict_sameOffer p s
  obtain ⟨outs, flash, capture, lost⟩ := goodVerdict_outs p s
  have blocks := goodVerdict_blocks p s
  obtain ⟨_, _, _, supply, _, _, uptime⟩ := fields_of_blocks blocks
  have shows := offerAndFeed_shows (updatePod_keepsOffer p pod bits) f offered s start verdict
  have captures := offerAndFeed_captures (updatePod_keepsOffer p pod bits) f offered s (updatePod_keepsCaptures s.tables pod bits) start verdict
    capture lost (congrArg SupplyState.vs supply) uptime
  have made : (offerAndFeed p f offered g start).st.blocks = (podUpdated s pod bits).blocks ∧
      (offerAndFeed p f offered g start).st.faults.isSet .pod pod.val = (s.faults.isSet .pod pod.val && s.tables.hub.latches .pod) := by
    let fed : Ev → Prop := fun e => e.st.blocks = s.blocks ∧ e.st.faults.isSet .pod pod.val = s.faults.isSet .pod pod.val
    refine offerAndFeed_feeds f offered fed fed (fun e => e.st.blocks = (podUpdated s pod bits).blocks ∧ e.st.faults.isSet .pod pod.val = _)
      start (fun n h => h) (fun e h => h) (fun _ e h => ?_) (fun e h => ?_) (fun _ e _ h => ?_) ⟨blocks, goodVerdict_isSet p s _ _ (by decide)⟩
    · exact ⟨(offerRelay_blocks p f e).trans h.1, (offerRelay_other_isSet p f e _ _ (by decide)).trans h.2⟩
    · refine ⟨(updatePod_blocks pod bits e.st).trans (congrArg (fun t => (podUpdated t pod bits).blocks) h.1 :), ?_⟩
      refine (updatePod_isSet pod bits e.st _ _ (by decide)).trans ?_
      rw [h.2, tables_of_blocks h.1]
      simp
    · exact ⟨(offerRelay_blocks p f _).trans h.1, (offerRelay_other_isSet p f _ _ _ (by decide)).trans h.2⟩
  obtain ⟨made, flag⟩ := made
  have whole := (finish_blocks s (offerAndFeed p f offered g start)).trans made
  obtain ⟨⟨_, _, tables, slots, pods, inputs⟩, conds, gauges, supply', mgmt, store, _⟩ := fields_of_blocks whole
  obtain ⟨queue, shown⟩ := finish_shows s _ shows
  have faults := finish_faults_eq s (offerAndFeed p f offered g start)
  refine ⟨_, run, pods, ?_, tables, slots, inputs, conds, gauges, supply', mgmt, store, queue, shown, ?_, fun quiet => ?_⟩
  · exact (congrArg (fun x : FaultState => x.isSet .pod pod.val) faults).trans flag
  · exact (congrArg (fun x : FaultState => (x.capture, x.lost)) faults).trans captures
  · intro old rise fall
    refine demandsFollow_of_moved ?_
    have still : offered = true → quietAt p s := fun on raise => quiet (by rw [on]; exact raise)
    have outs' : (finish s (offerAndFeed p f offered g start)).outs = (offerAndFeed p f offered g start).st.outs :=
      (congrArg State.outs (finish_lessReports s (offerAndFeed p f offered g start)) :)
    have flash' : (finish s (offerAndFeed p f offered g start)).flash = (offerAndFeed p f offered g start).st.flash :=
      (congrArg State.flash (finish_lessReports s (offerAndFeed p f offered g start)) :)
    refine movedBy_congr ?_ rfl rfl rfl outs' flash'
    refine offerAndFeed_feeds f offered
      (fun e => e.st.blocks = s.blocks ∧ s.sameOffer p e.st ∧ e.st.outs = s.outs ∧ e.st.flash = s.flash)
      (fun e => e.st.blocks = s.blocks ∧ e.st.outs = s.outs ∧ e.st.flash = s.flash)
      (fun e => movedBy (resolvedVerbs (firingSet s (.switch (linkPod pod) rise fall))) s e.st) start
      (fun n h => ⟨h.1, ⟨h.2.1.queue, h.2.1.taken, h.2.1.flag, h.2.1.tables⟩, h.2.2⟩) (fun e h => ⟨h.1, h.2.2⟩) (fun on e h => ?_)
      (fun e h => ?_) (fun on e h moved => ?_) ⟨blocks, verdict, outs, flash⟩
    · obtain ⟨blocks, same, outs, flash⟩ := h
      obtain ⟨outs', flash', _⟩ := offerRelay_quiet p f e (quietAt_of_sameOffer same (still on))
      exact ⟨(offerRelay_blocks p f e).trans blocks, outs'.trans outs, flash'.trans flash⟩
    · obtain ⟨blocks, outs, flash⟩ := h
      obtain ⟨⟨_, _, tables, _, pods, _⟩, conds, _⟩ := fields_of_blocks blocks
      have moved := updatePod_moved pod bits e.st
      rw [pods, firingSet_congr tables conds] at moved
      exact movedBy_congr moved tables.symm outs.symm flash.symm rfl rfl
    · obtain ⟨_, same, _⟩ := h
      have after := sameOffer_trans same (updatePod_keepsOffer p pod bits e)
      obtain ⟨outs', flash', _⟩ := offerRelay_quiet p f (g e) (quietAt_of_sameOffer after (still on))
      exact movedBy_congr moved rfl rfl rfl outs' flash'

end Sys2Proof.Machine
end

section
/-! PROOFS. The drive of an output after the verbs of one owner (R92 to R99, R121 to R125). -/

namespace Sys2Proof.Machine

/-! The drive recomputed, kind by kind (R92, R93, R96, R97, R99, R122, R125). -/

theorem redrive_unused (e : LoadEntry) (flash : FlashState) (ign : Bool) (shed : Nat) (x : OutLive) (h : e.kind = .unused) :
    redrive e flash ign shed x = drivenAs false 0 0 x := by
  unfold redrive wantsDrive requested drivenAs driveOff
  simp [h]

theorem redrive_fan (e : LoadEntry) (flash : FlashState) (ign : Bool) (shed : Nat) (x : OutLive) (duty : Nat) (h : e.kind = .fan) :
    { redrive e flash ign shed x with duty := duty } = { drivenAs (decide (0 < x.actual)) 0 e.mask x with duty := duty } := by
  unfold redrive wantsDrive requested drivenAs driveOff driveOn softStarts windowWait
  by_cases turns : 0 < x.actual <;> by_cases normal : x.protection = .normal <;> by_cases drive : x.drive = true <;>
    simp [h, turns, normal, drive]

/-- A flashed output driven as its side's light, or its brake part outside a context, says (R97, R122, R125). -/
def flashedDrive (after : FlashState) (ign : Bool) (e : LoadEntry) (y : OutLive) : OutLive :=
  let wanted :=
    if e.kind = .indicator then after.lit e.side
    else if after.context e.side then after.lit e.side && y.gap.isNone
    else y.demand && (decide (e.domain = .always) || ign)
  let flashed := e.kind = .stopturn ∧ after.context e.side = true
  if flashed ∧ wanted = true ∧ y.protection = .normal ∧ y.drive = true then { y with duty := 100, softStart := none }
  else drivenAs wanted (if e.kind = .stopturn ∧ ¬ flashed then e.ramp else 0) e.mask y

theorem redrive_indicator (e : LoadEntry) (flash : FlashState) (ign : Bool) (shed : Nat) (x : OutLive) (h : e.kind = .indicator) :
    redrive e flash ign shed x = flashedDrive flash ign e x := by
  unfold redrive wantsDrive requested flashedDrive drivenAs driveOff driveOn softStarts windowWait
  cases lit : flash.lit e.side <;> by_cases normal : x.protection = .normal <;> by_cases drive : x.drive = true <;>
    simp [h, normal, drive]

theorem redrive_stopturn (e : LoadEntry) (flash : FlashState) (ign : Bool) (shed : Nat) (x : OutLive) (h : e.kind = .stopturn) :
    redrive e flash ign shed x = flashedDrive flash ign e x := by
  have wants : requested e flash ign shed x =
      if flash.context e.side then flash.lit e.side && x.gap.isNone else x.demand && (decide (e.domain = .always) || ign) := by
    unfold requested
    rw [h, domainAllows_eq]
  unfold redrive wantsDrive flashedDrive drivenAs driveOff driveOn softStarts windowWait rampDuty
  rw [wants]
  by_cases context : flash.context e.side = true
  · simp only [context, if_true]
    generalize (flash.lit e.side && x.gap.isNone) = wanted
    cases wanted <;> by_cases normal : x.protection = .normal <;> by_cases drive : x.drive = true <;>
      simp [h, normal, drive]
  · rw [Bool.not_eq_true] at context
    simp only [context, Bool.false_eq_true, if_false]
    generalize (x.demand && (decide (e.domain = .always) || ign)) = wanted
    cases wanted <;> by_cases normal : x.protection = .normal <;> by_cases drive : x.drive = true <;>
      by_cases ramp : e.ramp = 0 <;> simp [h, normal, drive, ramp, Nat.pos_iff_ne_zero]

theorem gapLength_eq (t : Tables) (after : FlashState) (d : Side) : gapLength t after d = gapTime t after d := by
  unfold gapLength gapTime FlashSource.active
  by_cases h : after.hazard.phase = .idle <;> cases d <;> simp [h, Tables.profileOf, Side.sourceId]

/-- An output after the contexts are handed over and its drive recomputed, in the words of R121 to R125. -/
theorem flashedOutput_eq (t : Tables) (before after : FlashState) (ign : Bool) (e : LoadEntry) (x : OutLive)
    (h : e.kind = .indicator ∨ e.kind = .stopturn) : flashedOutput t before after ign e x =
      flashedDrive after ign e (releasedIf (contextReleases e before after x)
        { x with gap := gapAfter t e x.drive before after x }) := by
  have ends : contextReleases e before after x =
      (before.context e.side && !after.context e.side && (decide (e.kind = .indicator) || !x.demand)) := by
    unfold contextReleases
    rcases h with h | h <;> simp [h]
  have gap : gapAfter t e x.drive before after x =
      if e.kind ≠ .stopturn then x.gap
      else if !before.context e.side && after.context e.side then
        (if x.drive = true ∧ gapTime t after e.side ≠ 0 then some (gapTime t after e.side) else none)
      else if before.context e.side && !after.context e.side then none else x.gap := by
    unfold gapAfter
    rw [gapLength_eq]
    simp
  rw [ends, gap]
  unfold flashedOutput flashedDrive
  simp only
  generalize (before.context e.side && !after.context e.side && (decide (e.kind = .indicator) || !x.demand)) = off
  cases off <;> rfl

/-- Where no context has changed, a flashed output is driven as it stands. -/
theorem flashedOutput_same (t : Tables) (flash : FlashState) (ign : Bool) (e : LoadEntry) (x : OutLive)
    (h : e.kind = .indicator ∨ e.kind = .stopturn) : flashedOutput t flash flash ign e x = flashedDrive flash ign e x := by
  have ends : contextReleases e flash flash x = false := by simp [contextReleases]
  have gap : gapAfter t e x.drive flash flash x = x.gap := by simp [gapAfter]
  rw [flashedOutput_eq t flash flash ign e x h, ends, gap]
  rfl

theorem redrive_drive (e : LoadEntry) (flash : FlashState) (ign : Bool) (shed : Nat) (x : OutLive) :
    (redrive e flash ign shed x).drive = wantsDrive e flash ign shed x ∧ (redrive e flash ign shed x).gap = x.gap ∧
      (redrive e flash ign shed x).protection = x.protection := by
  unfold redrive
  cases wants : wantsDrive e flash ign shed x
  · by_cases drive : x.drive = true <;> simp [drive, driveOff]
  · by_cases drive : x.drive = true
    · by_cases flashed : e.kind = .stopturn ∧ flash.context e.side = true <;> simp [drive, flashed]
    · simp [drive, driveOn]

end Sys2Proof.Machine
end

section
/-! PROOFS. An ORDER for this hub: its verb on one output, or on one flash source (R84 to R86). -/

namespace Sys2Proof.Machine

/-! What an output and its flags become (R80 to R83, R96 to R99, R104, R105, R121 to R124). -/

/-- Hubs with the same tables, supply, outputs, flasher, and flags of the outputs. -/
structure State.sameLoads (s t : State) : Prop where
  tables : t.tables = s.tables
  supply : t.supply = s.supply
  outs : t.outs = s.outs
  flash : t.flash = s.flash
  flags : ∀ c i, c = FaultClass.overload ∨ c = FaultClass.stall → t.faults.isSet c i = s.faults.isSet c i

theorem sameLoads_trans {s t u : State} (h : s.sameLoads t) (h' : t.sameLoads u) : s.sameLoads u :=
  ⟨h'.tables.trans h.tables, h'.supply.trans h.supply, h'.outs.trans h.outs, h'.flash.trans h.flash,
    fun c i hc => (h'.flags c i hc).trans (h.flags c i hc)⟩

theorem sameLoads_symm {s t : State} (h : s.sameLoads t) : t.sameLoads s :=
  ⟨h.tables.symm, h.supply.symm, h.outs.symm, h.flash.symm, fun c i hc => (h.flags c i hc).symm⟩

/-- How an output follows its verbs is read from what the loads are made of. -/
theorem outputFollows_congr {s t u v : State} {verb : Fin 15 → Option Resolved} {o : Fin 12} (before : s.sameLoads u) (after : t.sameLoads v)
    (h : outputFollows s t verb o) : outputFollows u v verb o := by
  have overload : ∀ i, u.faults.isSet .overload i = s.faults.isSet .overload i := fun i => before.flags _ i (.inl rfl)
  have stall : ∀ i, u.faults.isSet .stall i = s.faults.isSet .stall i := fun i => before.flags _ i (.inr rfl)
  have overload' : ∀ i, v.faults.isSet .overload i = t.faults.isSet .overload i := fun i => after.flags _ i (.inl rfl)
  have stall' : ∀ i, v.faults.isSet .stall i = t.faults.isSet .stall i := fun i => after.flags _ i (.inr rfl)
  unfold outputFollows at h ⊢
  simp only [List.forall_mem_cons, List.not_mem_nil, false_imp_iff, implies_true, and_true, before.tables, before.supply, before.outs,
    before.flash, after.outs, after.flash, overload, stall, overload', stall'] at h ⊢
  exact h

/-- The flags of an output after a demand-off, if there was one (R105). -/
theorem flags_of_view {s t : State} {o : Fin 12} {off : Bool} {x : OutLive}
    (h : outView o t = offView s.tables.hub off (x, (outView o s).2)) : ∀ c ∈ [FaultClass.overload, FaultClass.stall],
      t.faults.isSet c o.val = (s.faults.isSet c o.val && (s.tables.hub.latches c || !off)) := by
  have overload := congrArg (fun y => y.2.1) h
  have stall := congrArg (fun y => y.2.2) h
  intro c hc
  simp only [List.mem_cons, List.not_mem_nil, or_false] at hc
  rcases hc with rfl | rfl
  · exact overload
  · exact stall

theorem releasedIf_kept (off : Bool) (x : OutLive) : (releasedIf off x).demand = x.demand ∧ (releasedIf off x).actual = x.actual ∧
    (releasedIf off x).gap = x.gap := by
  cases off <;> exact ⟨rfl, rfl, rfl⟩

/-- An output and its flags once the drives are computed, from what was made of them before. -/
theorem driven_of_view {s u : State} {o : Fin 12} {off : Bool} {x : OutLive} (tables : u.tables = s.tables) (supply : u.supply = s.supply)
    (h : outView o u = offView s.tables.hub off (x, (outView o s).2)) :
    (redriveAll u).outs[o] = redrive s.tables.loads[o] u.flash s.supply.ign s.supply.shed (releasedIf off x) ∧
      ∀ c ∈ [FaultClass.overload, FaultClass.stall],
        (redriveAll u).faults.isSet c o.val = (s.faults.isSet c o.val && (s.tables.hub.latches c || !off)) := by
  refine ⟨?_, fun c hc => flags_of_view h c hc⟩
  have out : u.outs[o] = releasedIf off x := congrArg (fun y => y.1) h
  have driven := congrArg (fun y => y.1) (redriveAll_view u o)
  rw [tables, supply] at driven
  exact driven.trans (congrArg (redrive s.tables.loads[o] u.flash s.supply.ign s.supply.shed) out)

theorem verbOutputs_flash (verbs : Fin 15 → Option Resolved) (s : State) : (applyOutputVerbs verbs s).flash = s.flash :=
  congrArg (fun c => c.2.1) (applyOutputVerbs_context verbs s)

/-- The drive of a STOPTURN output is as its values say (R93, R96). -/
theorem redrive_stopturn_drive (e : LoadEntry) (flash : FlashState) (ign : Bool) (shed : Nat) (x : OutLive) (h : e.kind = .stopturn) :
    (redrive e flash ign shed x).demand = x.demand ∧
      (redrive e flash ign shed x).drive = ((if flash.context e.side then flash.lit e.side && (redrive e flash ign shed x).gap.isNone
        else x.demand && (decide (e.domain = .always) || ign)) && decide ((redrive e flash ign shed x).protection = .normal)) := by
  obtain ⟨drive, gap, protection⟩ := redrive_drive e flash ign shed x
  refine ⟨congrArg (fun y => y.1) (redrive_demand e flash ign shed x), ?_⟩
  rw [drive, gap, protection]
  unfold wantsDrive requested
  rw [h, domainAllows_eq]

/-- An output whose own verb has moved it, with no verb for the flasher, follows it. -/
theorem verbOutputs_follow (verbs : Fin 15 → Option Resolved) (s : State) (o : Fin 12) :
    outputFollows s (redriveAll (applyOutputVerbs verbs s)) verbs o := by
  have context := applyOutputVerbs_context verbs s
  have flash : (redriveAll (applyOutputVerbs verbs s)).flash = s.flash := verbOutputs_flash verbs s
  obtain ⟨out, flags⟩ := driven_of_view (congrArg (fun c => c.1) context) (congrArg (fun c => c.2.2) context)
    (applyOutputVerbs_view verbs s o)
  rw [verbOutputs_flash] at out
  unfold verbed at out flags
  unfold outputFollows
  simp only [flash, Bool.and_not_self, Bool.false_and, Bool.or_false]
  cases kind : s.tables.loads[o].kind <;> simp only [kind] at out flags ⊢
  case unused => exact ⟨out.trans (redrive_unused _ _ _ _ _ kind), flags⟩
  case lamp => exact ⟨by rw [out, redrive_lamp _ _ _ _ _ (.inl kind), domainAllows_eq, isShed_eq, (releasedIf_kept _ _).1], flags⟩
  case stop => exact ⟨by rw [out, redrive_lamp _ _ _ _ _ (.inr kind), domainAllows_eq, isShed_eq, (releasedIf_kept _ _).1], flags⟩
  case fan => exact ⟨by rw [out, redrive_fan _ _ _ _ _ _ kind, (releasedIf_kept _ _).2.1], flags⟩
  case indicator => exact ⟨by rw [out, redrive_indicator _ _ _ _ _ kind, flashedOutput_same _ _ _ _ _ (.inl kind)]; rfl, flags⟩
  case stopturn =>
    obtain ⟨demand, drive⟩ := redrive_stopturn_drive s.tables.loads[o] s.flash s.supply.ign s.supply.shed _ kind
    rw [← out, (releasedIf_kept _ _).1] at demand drive
    exact ⟨fun _ => ⟨by rw [out, redrive_stopturn _ _ _ _ _ kind, flashedOutput_same _ _ _ _ _ (.inr kind)], flags⟩, demand, drive⟩

/-- Contexts are handed over to flashed outputs alone (R121, R123). -/
theorem handedOver_unflashed (t : Tables) (e : LoadEntry) (drive : Bool) (before after : FlashState) (x : OutLive)
    (h : e.kind ≠ .indicator ∧ e.kind ≠ .stopturn) :
    contextReleases e before after x = false ∧ gapAfter t e drive before after x = x.gap := by
  obtain ⟨indicator, stopturn⟩ := h
  exact ⟨by simp [contextReleases, indicator, stopturn], by simp [gapAfter, stopturn]⟩

theorem contextReleases_indicator (e : LoadEntry) (before after : FlashState) (x : OutLive) (h : e.kind = .indicator) :
    contextReleases e before after x = (before.context e.side && !after.context e.side) := by
  simp [contextReleases, h]

theorem contextReleases_stopturn (e : LoadEntry) (before after : FlashState) (x : OutLive) (h : e.kind = .stopturn) :
    contextReleases e before after x = (before.context e.side && !after.context e.side && !x.demand) := by
  simp [contextReleases, h]

/-- An output that the verbs on flash sources reach, with no verb of its own, follows its side (R121 to R125). -/
theorem verbSources_follow (verbs : Fin 15 → Option Resolved) (s : State) (o : Fin 12) (silent : verbs (outputTarget o) = none) :
    outputFollows s (redriveAll (applyFlashVerbs (drives s) verbs s)) verbs o := by
  have loads := applyFlashVerbs_lessLoads (drives s) verbs s
  have tables : (applyFlashVerbs (drives s) verbs s).tables = s.tables := (congrArg State.tables loads :)
  have supply : (applyFlashVerbs (drives s) verbs s).supply = s.supply := (congrArg State.supply loads :)
  have flash : (redriveAll (applyFlashVerbs (drives s) verbs s)).flash = (applyFlashVerbs (drives s) verbs s).flash := rfl
  have view : outView o (applyFlashVerbs (drives s) verbs s) = offView s.tables.hub
      (contextReleases s.tables.loads[o] s.flash (applyFlashVerbs (drives s) verbs s).flash s.outs[o])
      ({ s.outs[o] with gap := gapAfter s.tables s.tables.loads[o] s.outs[o].drive s.flash (applyFlashVerbs (drives s) verbs s).flash s.outs[o] },
        (outView o s).2) := by
    have view := handContexts_view (drives s) (applyFlashVerbs (drives s) verbs s).flash s o
    rw [show (drives s)[o] = s.outs[o].drive from getElem_tabulate_fin _ o] at view
    refine Eq.trans ?_ view
    unfold applyFlashVerbs
    rw [handContexts_flash]
  obtain ⟨out, flags⟩ := driven_of_view tables supply view
  have nothing : (decide (0 < s.outs[o].fanLevel) && decide (s.outs[o].fanLevel = 0)) = false := by
    cases h : s.outs[o].fanLevel <;> simp
  unfold outputFollows
  simp only [flash, silent, demandByVerb, fanByVerb, Bool.and_not_self, Bool.false_and, Bool.false_or, if_true, nothing]
  generalize (applyFlashVerbs (drives s) verbs s).flash = after at out flags ⊢
  by_cases flashed : s.tables.loads[o].kind = .indicator ∨ s.tables.loads[o].kind = .stopturn
  · have same := flashedOutput_eq s.tables s.flash after s.supply.ign s.tables.loads[o] s.outs[o] flashed
    rcases flashed with kind | kind
    · rw [kind]
      rw [contextReleases_indicator _ _ _ _ kind] at flags
      exact ⟨out.trans ((redrive_indicator _ _ _ _ _ kind).trans same.symm), flags⟩
    · obtain ⟨demand, drive⟩ := redrive_stopturn_drive s.tables.loads[o] after s.supply.ign s.supply.shed _ kind
      rw [← out, (releasedIf_kept _ _).1] at demand drive
      rw [contextReleases_stopturn _ _ _ _ kind] at flags
      rw [kind]
      exact ⟨fun _ => ⟨out.trans ((redrive_stopturn _ _ _ _ _ kind).trans same.symm), flags⟩, demand, drive⟩
  · rw [not_or] at flashed
    obtain ⟨none, gap⟩ := handedOver_unflashed s.tables s.tables.loads[o] s.outs[o].drive s.flash after s.outs[o] flashed
    rw [none, gap, releasedIf_false] at out
    rw [none] at flags
    cases kind : s.tables.loads[o].kind
    case unused => exact ⟨out.trans (redrive_unused _ _ _ _ _ kind), flags⟩
    case lamp => exact ⟨by rw [out, redrive_lamp _ _ _ _ _ (.inl kind), domainAllows_eq, isShed_eq]; rfl, flags⟩
    case stop => exact ⟨by rw [out, redrive_lamp _ _ _ _ _ (.inr kind), domainAllows_eq, isShed_eq]; rfl, flags⟩
    case fan => exact ⟨by rw [out, redrive_fan _ _ _ _ _ _ kind]; rfl, flags⟩
    case indicator => exact absurd kind flashed.1
    case stopturn => exact absurd kind flashed.2

/-- The sources after a settle run as their demands, IGN and HAZARD say (R114, R119, R120). -/
theorem verbSources_settled (verbs : Fin 15 → Option Resolved) (s : State) :
    sourcesSettled (redriveAll (applyFlashVerbs (drives s) verbs s)) := by
  have loads := applyFlashVerbs_lessLoads (drives s) verbs s
  have supply : (redriveAll (applyFlashVerbs (drives s) verbs s)).supply = s.supply := (congrArg State.supply loads :)
  have flash : (redriveAll (applyFlashVerbs (drives s) verbs s)).flash = settleFlash s.tables s.faults s.supply.ign _ :=
    handContexts_flash (drives s) _ s
  unfold sourcesSettled
  rw [flash, supply]
  constructor
  · simp only [settleFlash, turn_runs, turn_demand]
  · intro d
    cases d <;> simp only [settleFlash, FlashState.side, turn_runs, turn_demand]

/-! The verb of an ORDER, handed to its target alone (R84 to R86). -/

theorem onlyVerb_same (target : Fin 15) (v : Resolved) : onlyVerb target v target = some v := if_pos rfl

theorem onlyVerb_other {target t : Fin 15} (v : Resolved) (h : t ≠ target) : onlyVerb target v t = none := if_neg h

theorem handVerbs_onlyOutput (o : Fin 12) (v : Resolved) (s : State) :
    handVerbs (onlyVerb (outputTarget o) v) s = redriveAll (applyOutputVerbs (onlyVerb (outputTarget o) v) s) := by
  have toOutputs : ((List.finRange 12).any fun q => (onlyVerb (outputTarget o) v (outputTarget q)).isSome) = true :=
    List.any_eq_true.mpr ⟨o, List.mem_finRange o, by simp [onlyVerb_same]⟩
  have quiet : ∀ t : Fin 15, 12 ≤ t.val → onlyVerb (outputTarget o) v t = none := fun t ht =>
    onlyVerb_other v (fun e => by rw [e] at ht; exact absurd o.isLt (Nat.not_lt.mpr ht))
  unfold handVerbs
  simp only
  rw [toOutputs, quiet 12 (by decide), quiet 13 (by decide), quiet 14 (by decide)]
  rfl

theorem outputTarget_ne_sourceTarget (q : Fin 12) (i : SourceId) : outputTarget q ≠ sourceTarget i := fun e => by
  have value := congrArg Fin.val e
  have := q.isLt
  cases i <;> simp only [outputTarget, sourceTarget] at value <;> omega

theorem handVerbs_onlySource (i : SourceId) (v : Resolved) (s : State) : handVerbs (onlyVerb (sourceTarget i) v) s =
    redriveAll (applyFlashVerbs (drives s) (onlyVerb (sourceTarget i) v) s) := by
  have toOutputs : ((List.finRange 12).any fun q => (onlyVerb (sourceTarget i) v (outputTarget q)).isSome) = false :=
    List.any_eq_false.mpr fun q _ => by rw [onlyVerb_other v (outputTarget_ne_sourceTarget q i)]; simp
  unfold handVerbs
  simp only
  rw [toOutputs]
  cases i <;> rfl

end Sys2Proof.Machine
end

section
/-! PROOFS. ORDER frames (R32, R84 to R86): the relay offer alone, and the offer beside the ORDER obeyed. -/

namespace Sys2Proof.Machine

/-! The count of open orders, on which nothing turns. -/

/-- The hub with the count of open orders at `n`. -/
def State.recounted (n : Nat) (s : State) : State := { s with choices := n }

@[simp] theorem recounted_port (n : Nat) (s : State) (p : PortId) : (s.recounted n).port p = s.port p := by
  cases p <;> rfl

theorem setPort_recounted (n : Nat) (s : State) (p : PortId) (x : PortState) : (s.recounted n).setPort p x = (s.setPort p x).recounted n := by
  cases p <;> rfl

theorem afterLeaving_recounted (n : Nat) (r : PendingReport) (s : State) :
    afterLeaving r (s.recounted n) = (afterLeaving r s).recounted n := by
  obtain ⟨body, toFore, toAft⟩ := r
  cases body with
  | state copied all =>
    unfold afterLeaving
    cases all <;> cases held : s.reports.held <;> simp [State.recounted, held] <;> rfl
  | reply _ _ _ _ => rfl
  | fault _ _ => rfl

theorem reportRecord_recounted (n : Nat) (s : State) (body : ReportBody) : reportRecord (s.recounted n) body = reportRecord s body := by
  cases body <;> rfl

theorem copyOne_recounted (n : Nat) (p : PortId) (s : State) : copyOne p (s.recounted n) = (copyOne p s).map (State.recounted n) := by
  have reports : (s.recounted n).reports = s.reports := rfl
  unfold copyOne
  rw [recounted_port, reports]
  split
  · cases splitAtWanting p s.reports.list with
    | none => rfl
    | some x =>
      obtain ⟨a, r, b⟩ := x
      simp only [reportRecord_recounted, setPort_recounted]
      generalize s.setPort p _ = t
      split
      · exact congrArg some (afterLeaving_recounted n (r.copied p s.reports.overrun) (t.listing (a ++ b)))
      · rfl
  · rfl

theorem copyReports_recounted (n : Nat) : ∀ (fuel : Nat) (s : State), copyReports fuel (s.recounted n) = (copyReports fuel s).recounted n
  | 0, _ => rfl
  | fuel + 1, s => by
    unfold copyReports
    rw [copyOne_recounted, copyOne_recounted]
    cases copyOne .fore s with
    | some t => exact copyReports_recounted n fuel t
    | none =>
      cases copyOne .aft s with
      | some t => exact copyReports_recounted n fuel t
      | none => rfl

theorem stateNeed_recounted (n : Nat) (s : State) : stateNeed (s.recounted n) = (stateNeed s).recounted n := by
  have pending : pendingState (s.recounted n).reports.list = pendingState s.reports.list := rfl
  cases h : pendingState s.reports.list with
  | none =>
    rw [stateNeed_none _ (pending.trans h), stateNeed_none _ h]
    exact copyReports_recounted n 16 (enlistState s)
  | some copied =>
    rw [stateNeed_some _ copied (pending.trans h), stateNeed_some _ copied h]
    cases copied <;> rfl

theorem afterNeed_recounted (n : Nat) (s u : State) : afterNeed s (u.recounted n) = (afterNeed s u).recounted n := by
  have same : lanesChanged s (u.recounted n) = lanesChanged s u := rfl
  unfold afterNeed
  rw [same]
  cases lanesChanged s u
  · rfl
  · exact stateNeed_recounted n u

theorem faultSent_recounted (n : Nat) (slot : Fin 2) (r : CaptureRecord) (s : State) :
    faultSent slot r (s.recounted n) = (faultSent slot r s).recounted n := by
  have left : ∀ p, leftFor (s.recounted n) p = leftFor s p := fun p => by
    unfold leftFor
    rw [recounted_port]
    rfl
  unfold faultSent
  rw [left, left]
  cases leftFor s .fore || leftFor s .aft <;> rfl

theorem raisedAlone_recounted (n : Nat) (s u : State) (c : FaultClass) (i value : Nat) :
    raisedAlone s (u.recounted n) c i value id = (raisedAlone s u c i value id).recounted n := by
  have need : afterNeed s (flagRaised (u.recounted n) c i value) = (afterNeed s (flagRaised u c i value)).recounted n :=
    afterNeed_recounted n s (flagRaised u c i value)
  have free : freeSlot (u.recounted n).faults = freeSlot u.faults := rfl
  rw [raisedAlone_eq, raisedAlone_eq, need, free]
  cases freeSlot u.faults with
  | none => rfl
  | some slot => exact faultSent_recounted n slot _ _

theorem clearUnlatched_recounted (n : Nat) (c : FaultClass) (i : Nat) (s : State) :
    clearUnlatched c i (s.recounted n) = (clearUnlatched c i s).recounted n := by
  have latches : (s.recounted n).tables.hub.latches c = s.tables.hub.latches c := rfl
  unfold clearUnlatched
  rw [latches]
  cases s.tables.hub.latches c <;> rfl

theorem offerMade_recounted (n : Nat) (p : PortId) (f : Frame) (s : State) :
    offerMade p f (s.recounted n) = (offerMade p f s).recounted n := by
  unfold offerMade offerHasRoom relayTaken
  rw [recounted_port, setPort_recounted, setPort_recounted]
  split
  · exact clearUnlatched_recounted n _ _ _
  · rfl

/-! The relay offer alone (R11, R15). -/

/-- What an event whose only act is a relay offer, if it is made, leaves of the hub as the verdict left it. -/
def offeredAlone (s : State) (p : PortId) (f : Frame) (offered : Bool) (v : State) : State :=
  let u := if offered then offerMade p f v else v
  if offerRaises s p offered then raisedAlone s u .egress (portIndex p.opposite) 0 id else u

theorem finish_offered {s v : State} (p : PortId) (f : Frame) (offered : Bool) (good : s.portsAndFlags v) (same : s.sameOffer p v)
    (made : s.copiesMade → v.copiesMade)
    (alone : offerRaises s p offered = true → wakesMatrix s (.fault .egress) = false ∧ s.copiesMade) :
    finish s (if offered then offerRelay p.opposite (relayed f) { st := v, reply := none, faults := [] }
      else { st := v, reply := none, faults := [] }) = offeredAlone s p f offered v := by
  cases offered with
  | false => exact afterNeed_portsAndFlags good
  | true =>
    have need := afterNeed_portsAndFlags (portsAndFlags_trans good (portsAndFlags_offerMade p f v))
    have room : offerHasRoom v p ↔ offerHasRoom s p := by
      unfold offerHasRoom
      rw [same.queue]
    have egress := offerMade_egress p f v
    have tables := (offerMade_tables p f v).trans same.tables
    simp only [if_true, offerRelay_made, offeredAlone]
    by_cases h : offerHasRoom v p
    · rw [if_pos h, if_neg (by simp [offerRaises, room.mp h])]
      exact need
    · rw [if_neg h]
      rw [same.flag, decide_eq_false h, Bool.not_false, Bool.or_true, Bool.and_true] at egress
      by_cases raise : offerRaises s p true = true
      · rw [if_pos raise]
        obtain ⟨asleep, copies⟩ := alone raise
        unfold offerRaises at raise
        simp only [Bool.and_eq_true, Bool.not_eq_true'] at raise
        obtain ⟨⟨_, clear⟩, detects⟩ := raise
        refine finish_raised s (offerMade p f v) .egress (portIndex p.opposite) 0 none ?_ (egress.trans clear)
          ((congrArg (fun t : Tables => t.hub.detects .egress) tables).trans detects)
          ((wakesMatrix_of_tables tables _).trans asleep) (by decide)
        rw [offerMade_full f h]
        exact onward_copiesMade (setPort_receiver_onward _ p.opposite _ rfl rfl) (made copies)
      · rw [if_neg raise]
        refine (finish_ignored s (offerMade p f v) .egress (portIndex p.opposite) 0 ?_).trans need
        rw [egress, tables]
        simpa [offerRaises, mt room.mpr h, or_iff_not_imp_left] using raise

theorem offeredAlone_recounted (n : Nat) (s : State) (p : PortId) (f : Frame) (offered : Bool) (v : State) :
    offeredAlone s p f offered (v.recounted n) = (offeredAlone s p f offered v).recounted n := by
  unfold offeredAlone
  cases offered <;> simp only [Bool.false_eq_true, if_false, if_true, offerMade_recounted, raisedAlone_recounted] <;> split <;> rfl

/-! What an offer makes of the hub, but for what links may change and for the flags. -/

theorem offerMade_lessLoads (p : PortId) (f : Frame) (s : State) :
    (offerMade p f s).lessLoads = (s.lessLoads).setPort p.opposite { s.port p.opposite with
      queue := (s.port p.opposite).queue ++
        if offerHasRoom s p then [{ frame := { f with hops := f.hops - 1 }, note := .relay }] else []
      offerTaken := decide (offerHasRoom s p) } := by
  unfold offerMade relayTaken
  by_cases room : offerHasRoom s p
  · rw [if_pos room, clearUnlatched_lessLoads, if_pos room, decide_eq_true room]
    cases p <;> rfl
  · rw [if_neg room, if_neg room, decide_eq_false room, List.append_nil]
    cases p <;> rfl

theorem offerMade_lessLoads_congr (p : PortId) (f : Frame) {s t : State} (h : t.lessLoads = s.lessLoads) :
    (offerMade p f t).lessLoads = (offerMade p f s).lessLoads := by
  have port : t.port p.opposite = s.port p.opposite := by
    cases p
    · exact (congrArg State.aft h :)
    · exact (congrArg State.fore h :)
  have room : offerHasRoom t p ↔ offerHasRoom s p := by
    unfold offerHasRoom
    rw [port]
  rw [offerMade_lessLoads, offerMade_lessLoads]
  simp only [room, port, h]

theorem offerRelay_lessLoads (p : PortId) (f : Frame) (e : Ev) :
    (offerRelay p.opposite (relayed f) e).st.lessLoads = (offerMade p f e.st).lessLoads := by
  rw [offerRelay_made]
  split
  · rfl
  · exact reportFault_lessLoads .egress (portIndex p.opposite) 0 (e.on (offerMade p f)) (by decide)

/-- An offer on which no link acts leaves the loads alone. -/
theorem offerRelay_sameLoads (p : PortId) (f : Frame) (e : Ev) (quiet : quietAt p e.st) :
    e.st.sameLoads (offerRelay p.opposite (relayed f) e).st := by
  obtain ⟨outs, flash, flags⟩ := offerRelay_quiet p f e quiet
  obtain ⟨⟨_, _, tables, _⟩, _, _, supply, _⟩ := fields_of_blocks (offerRelay_blocks p f e)
  exact ⟨tables, supply, outs, flash, fun c i hc => flags c i (by rcases hc with rfl | rfl <;> decide)⟩

theorem goodVerdict_sameLoads (p : PortId) (s : State) : s.sameLoads (goodVerdict p s) := by
  obtain ⟨outs, flash, _⟩ := goodVerdict_outs p s
  obtain ⟨⟨_, _, tables, _⟩, _, _, supply, _⟩ := fields_of_blocks (goodVerdict_blocks p s)
  exact ⟨tables, supply, outs, flash, fun c i hc => goodVerdict_isSet p s c i (by rcases hc with rfl | rfl <;> decide)⟩

theorem finish_sameLoads (before : State) (e : Ev) : e.st.sameLoads (finish before e) := by
  have whole := finish_lessReports before e
  have faults := finish_faults_eq before e
  exact ⟨(congrArg State.tables whole :), (congrArg State.supply whole :), (congrArg State.outs whole :), (congrArg State.flash whole :),
    fun c i _ => by rw [faults]⟩

/-! The ORDER itself (R84 to R86). -/

theorem orderEvent_obeyed {tag : BitVec 4} {lane : Lane} {v : Resolved} {s : State} (target : Fin 15) (names : tag.toNat = target.val)
    (verb : orderVerb lane = some v) (allowed : orderAllowed s.tables target = true) :
    orderEvent tag lane s = handVerbs (onlyVerb target v) s := by
  have named : orderTarget tag = some target := by
    unfold orderTarget
    rw [dif_pos (by rw [names]; exact target.isLt)]
    exact congrArg some (Fin.ext names)
  unfold orderEvent
  rw [named, verb]
  exact if_pos allowed

/-- The cases in which an ORDER is ignored (R84, R85). -/
def orderIgnored (s : State) (tag : BitVec 4) (lane : Lane) : Prop :=
  tag = 15 ∨ orderVerb lane = none ∨ (∃ o : Fin 12, tag.toNat = o.val ∧ s.tables.loads[o].ordersAllowed = false) ∨
    (12 ≤ tag.toNat ∧ s.tables.hub.ordersToFlasher = false)

theorem orderEvent_ignored {s t : State} {tag : BitVec 4} {lane : Lane} (ignored : orderIgnored s tag lane) (tables : t.tables = s.tables) :
    orderEvent tag lane t = t := by
  unfold orderEvent
  split
  · rename_i target v named verb
    unfold orderTarget at named
    split at named
    · rename_i below
      obtain rfl := Option.some.inj named
      refine if_neg ?_
      rw [tables]
      unfold orderAllowed
      simp only [orderIgnored, verb, reduceCtorEq, false_or] at ignored
      rcases ignored with rfl | ⟨o, at_, closed⟩ | ⟨beyond, closed⟩
      · exact absurd below (by decide)
      · rw [dif_pos (by simp only [at_]; exact o.isLt)]
        simp only [at_]
        exact Bool.eq_false_iff.mp closed
      · rw [dif_neg (by simpa using beyond)]
        simp [closed]
    · exact absurd named (by simp)
  · rfl

/-- An ORDER that is not ignored names an output or a flash source that allows it, and a verb (R84, R85). -/
theorem obeyed_cases {s : State} {tag : BitVec 4} {lane : Lane} (obeyed : ¬ orderIgnored s tag lane) : ∃ v, orderVerb lane = some v ∧
    ((∃ o : Fin 12, tag.toNat = (outputTarget o).val ∧ s.tables.loads[o].ordersAllowed = true) ∨
      (∃ i : SourceId, tag.toNat = (sourceTarget i).val ∧ s.tables.hub.ordersToFlasher = true)) := by
  unfold orderIgnored at obeyed
  push Not at obeyed
  obtain ⟨named, verb, outputs, sources⟩ := obeyed
  obtain ⟨v, verb⟩ := Option.ne_none_iff_exists'.mp verb
  refine ⟨v, verb, ?_⟩
  have below := tag.isLt
  have apart : tag.toNat ≠ 15 := fun e => named (BitVec.eq_of_toNat_eq e)
  by_cases output : tag.toNat < 12
  · exact .inl ⟨⟨tag.toNat, output⟩, rfl, by simpa using outputs ⟨tag.toNat, output⟩ rfl⟩
  · refine .inr ?_
    have open_ : s.tables.hub.ordersToFlasher = true := by simpa using sources (Nat.not_lt.mp output)
    obtain h | h | h : tag.toNat = 12 ∨ tag.toNat = 13 ∨ tag.toNat = 14 := by omega
    · exact ⟨.left, h, open_⟩
    · exact ⟨.right, h, open_⟩
    · exact ⟨.hazard, h, open_⟩

end Sys2Proof.Machine
end

section
/-! PROOFS. An ORDER frame that its entry obeys, and its relay offer (R15, R20, R32, R84 to R86). -/

namespace Sys2Proof.Machine

/-! The actions of an ORDER's arrival. -/

/-- The ORDER is offered to the opposite port: it is not for this hub alone, not dropped, and may go on (R21, R32). -/
abbrev orderOffered (s : State) (e : MatchEntry) (f : Frame) : Bool :=
  decide (f.target ≠ s.node ∧ e.disposition ≠ .drop ∧ f.hops ≠ 0)

theorem orderActions {s : State} {p : PortId} {f : Frame} {e : MatchEntry} {lane : Lane} (decided : decidedBy s p f e)
    (feed : e.feed = .obey) (kind : f.kind = .order) (lanes : f.lanes = [lane]) :
    arrivalActions (goodVerdict p s) p f = (if orderOffered s e f then [offerRelay p.opposite (relayed f)] else []) ++
      if f.target = s.node ∨ f.target = 15 then [Ev.on (orderEvent f.tag lane)] else [] := by
  have same : leavesAs s.tables e f = f := leavesAs_cases _ _ _ (by rw [kind]; decide)
  rw [arrivalActions_decided (goodVerdict p s) (by simp) (by simp) decided, same]
  unfold feedAction consumed
  rw [feed, kind, lanes]
  simp only [decide_true, Bool.true_and, decide_eq_true_eq]
  congr 1
  by_cases h : e.disposition = .drop ∨ f.target = s.node ∨ f.hops = 0
  · rw [if_pos h, if_neg (by tauto)]
  · rw [if_neg h, if_pos (by tauto)]

/-- The start of a good frame's event, its verdict taken. -/
abbrev verdictStart (p : PortId) (s : State) : Ev := { st := goodVerdict p s, reply := none, faults := [] }

theorem exec_order_passing {s : State} {p : PortId} {f : Frame} {e : MatchEntry} {lane : Lane} (running : s.inReset = false)
    (arriving : s.arriving p = some f) (decided : decidedBy s p f e) (feed : e.feed = .obey) (kind : f.kind = .order)
    (lanes : f.lanes = [lane]) (other : f.target ≠ s.node) (one : f.target ≠ 15) : exec (.frameBoundary p) s = .next (finish s
      (if orderOffered s e f then offerRelay p.opposite (relayed f) (verdictStart p s) else verdictStart p s)) := by
  rw [exec_frameBoundary_good s p f running arriving]
  unfold arrival
  rw [orderActions decided feed kind lanes, if_neg (show ¬ (f.target = s.node ∨ f.target = 15) from not_or.mpr ⟨other, one⟩)]
  cases orderOffered s e f <;> rfl

theorem exec_order_obeyed {s : State} {p : PortId} {f : Frame} {e : MatchEntry} {lane : Lane} (running : s.inReset = false)
    (arriving : s.arriving p = some f) (decided : decidedBy s p f e) (feed : e.feed = .obey) (kind : f.kind = .order)
    (lanes : f.lanes = [lane]) (ours : f.target = s.node ∨ f.target = 15) : exec (.frameBoundary p) s = .next (finish s
      (offerAndFeed p f (orderOffered s e f) (Ev.on (orderEvent f.tag lane)) (verdictStart p s))) := by
  rw [exec_frameBoundary_good s p f running arriving]
  unfold arrival
  rw [orderActions decided feed kind lanes, if_pos ours]
  rfl

/-! The offer and the ORDER leave each other's parts alone. -/

theorem orderEvent_keepsOffer (p : PortId) (tag : BitVec 4) (lane : Lane) : FeedKeepsOffer p (Ev.on (orderEvent tag lane)) := by
  intro e
  have links := orderEvent_lessLinks tag lane e.st
  refine ⟨?_, ?_, ?_, ?_⟩
  · cases p
    · exact (congrArg (fun t : State => t.aft.queue) links :)
    · exact (congrArg (fun t : State => t.fore.queue) links :)
  · cases p
    · exact (congrArg (fun t : State => t.aft.offerTaken) links :)
    · exact (congrArg (fun t : State => t.fore.offerTaken) links :)
  · exact isSet_of_lessLinks links .egress _ (by decide)
  · exact (congrArg State.tables links :)

theorem orderEvent_keepsCaptures (tables : Tables) (tag : BitVec 4) (lane : Lane) : FeedKeepsCaptures tables (Ev.on (orderEvent tag lane)) := by
  intro e _
  have links := orderEvent_lessLinks tag lane e.st
  obtain ⟨capture, lost⟩ := capture_of_lessLinks links
  exact ⟨capture, lost, (congrArg (fun t : State => t.supply.vs) links :), (congrArg (fun t : State => t.faults.uptime) links :)⟩

/-- The hub after the verdict and the offer, but for what links may change and for the flags. -/
theorem orderAndOffer_lessLoads (p : PortId) (f : Frame) (offered : Bool) (tag : BitVec 4) (lane : Lane) (e : Ev) :
    (offerAndFeed p f offered (Ev.on (orderEvent tag lane)) e).st.lessLoads =
      (if offered then offerMade p f e.st else e.st).lessLoads := by
  cases offered with
  | false => exact orderEvent_lessLoads tag lane e.st
  | true =>
    obtain ⟨n, order⟩ := offerAndFeed_both p f (Ev.on (orderEvent tag lane)) e
    have counted : (offerMade p f (e.counted n).st).lessLoads = (offerMade p f e.st).lessLoads := offerMade_lessLoads_congr p f rfl
    rw [if_pos rfl]
    rcases order with order | order <;> rw [order]
    · exact (orderEvent_lessLoads tag lane _).trans ((offerRelay_lessLoads p f _).trans counted)
    · exact (offerRelay_lessLoads p f _).trans ((offerMade_lessLoads_congr p f (orderEvent_lessLoads tag lane _)).trans counted)

/-- An ORDER that is ignored leaves the offer alone, the count of open orders apart. -/
theorem orderAndOffer_ignored {p : PortId} {f : Frame} {tag : BitVec 4} {lane : Lane} {s : State} (offered : Bool) (v : State)
    (tables : v.tables = s.tables) (ignored : orderIgnored s tag lane) : ∃ n,
      offerAndFeed p f offered (Ev.on (orderEvent tag lane)) { st := v, reply := none, faults := [] } =
        if offered then offerRelay p.opposite (relayed f) { st := v.recounted n, reply := none, faults := [] }
        else { st := v.recounted n, reply := none, faults := [] } := by
  have still : ∀ e : Ev, e.st.tables = s.tables → Ev.on (orderEvent tag lane) e = e := fun e h => by
    unfold Ev.on
    rw [orderEvent_ignored ignored h]
  cases offered with
  | false => exact ⟨v.choices, still _ tables⟩
  | true =>
    obtain ⟨n, order⟩ := offerAndFeed_both p f (Ev.on (orderEvent tag lane)) { st := v, reply := none, faults := [] }
    refine ⟨n, ?_⟩
    rcases order with order | order <;> rw [order]
    · exact still _ ((tables_of_blocks (offerRelay_blocks p f _)).trans tables)
    · exact congrArg (offerRelay p.opposite (relayed f)) (still _ tables)

/-- The loads after an ORDER beside an offer on which no link acts are those the ORDER makes of the loads as they stood. -/
theorem orderAndOffer_loads {p : PortId} {f : Frame} {offered : Bool} {tag : BitVec 4} {lane : Lane} {s : State}
    (quiet : offerQuiet s p offered) : ∃ w, s.sameLoads w ∧
      (orderEvent tag lane w).sameLoads (finish s (offerAndFeed p f offered (Ev.on (orderEvent tag lane)) (verdictStart p s))) := by
  have still : offered = true → quietAt p s := fun on raise => quiet (by rw [on]; exact raise)
  obtain ⟨w, before, after⟩ : ∃ w, s.sameLoads w ∧
      (orderEvent tag lane w).sameLoads (offerAndFeed p f offered (Ev.on (orderEvent tag lane)) (verdictStart p s)).st := by
    refine offerAndFeed_feeds f offered (fun e => s.sameOffer p e.st ∧ s.sameLoads e.st) (fun e => s.sameLoads e.st)
      (fun e => ∃ w, s.sameLoads w ∧ (orderEvent tag lane w).sameLoads e.st) (verdictStart p s) (fun n h => ?_) (fun e h => h.2)
      (fun on e h => ?_) (fun e h => ?_) (fun on e h made => ?_) ⟨goodVerdict_sameOffer p s, goodVerdict_sameLoads p s⟩
    · obtain ⟨⟨queue, taken, flag, tables⟩, ⟨tables', supply, outs, flash, flags⟩⟩ := h
      exact ⟨⟨queue, taken, flag, tables⟩, ⟨tables', supply, outs, flash, flags⟩⟩
    · exact sameLoads_trans h.2 (offerRelay_sameLoads p f e (quietAt_of_sameOffer h.1 (still on)))
    · exact ⟨e.st, h, ⟨rfl, rfl, rfl, rfl, fun _ _ _ => rfl⟩⟩
    · obtain ⟨w, before, after⟩ := made
      refine ⟨w, before, sameLoads_trans after (offerRelay_sameLoads p f _ (quietAt_of_sameOffer ?_ (still on)))⟩
      exact sameOffer_trans h.1 (orderEvent_keepsOffer p tag lane e)
  exact ⟨w, before, sameLoads_trans after (finish_sameLoads s _)⟩

/-! What an ORDER makes of the loads (R84 to R86). -/

/-- The verb of an ORDER is read at its target alone. -/
theorem onlyVerb_eq (target : Fin 15) (v : Resolved) (tag : BitVec 4) (names : tag.toNat = target.val) :
    (fun t : Fin 15 => if t.val = tag.toNat then some v else none) = onlyVerb target v := by
  funext t
  unfold onlyVerb
  simp only [names, Fin.ext_iff]

theorem ordered_output {s t w : State} {tag : BitVec 4} {lane : Lane} {v : Resolved} (before : s.sameLoads w)
    (after : (orderEvent tag lane w).sameLoads t) (o : Fin 12) (names : tag.toNat = (outputTarget o).val)
    (verb : orderVerb lane = some v) (allowed : s.tables.loads[o].ordersAllowed = true) :
    movedBy (onlyVerb (outputTarget o) v) s t ∧ t.flash = s.flash ∧ ∀ q, outputFollows s t (onlyVerb (outputTarget o) v) q := by
  have passes : orderAllowed w.tables (outputTarget o) = true := by
    rw [before.tables]
    unfold orderAllowed
    rw [dif_pos (by exact o.isLt)]
    exact allowed
  rw [orderEvent_obeyed (outputTarget o) names verb passes] at after
  refine ⟨movedBy_congr (handVerbs_moved (onlyVerb (outputTarget o) v) w) before.tables.symm before.outs.symm before.flash.symm
    after.outs after.flash, ?_, fun q => ?_⟩
  · rw [after.flash, handVerbs_onlyOutput]
    exact (verbOutputs_flash _ w).trans before.flash
  · rw [handVerbs_onlyOutput] at after
    exact outputFollows_congr (sameLoads_symm before) after (verbOutputs_follow _ w q)

theorem ordered_source {s t w : State} {tag : BitVec 4} {lane : Lane} {v : Resolved} (before : s.sameLoads w)
    (after : (orderEvent tag lane w).sameLoads t) (i : SourceId) (names : tag.toNat = (sourceTarget i).val)
    (verb : orderVerb lane = some v) (allowed : s.tables.hub.ordersToFlasher = true) :
    movedBy (onlyVerb (sourceTarget i) v) s t ∧ sourcesSettled t ∧ ∀ q, outputFollows s t (onlyVerb (sourceTarget i) v) q := by
  have passes : orderAllowed w.tables (sourceTarget i) = true := by
    rw [before.tables]
    cases i <;> exact allowed
  rw [orderEvent_obeyed (sourceTarget i) names verb passes] at after
  have moved := movedBy_congr (handVerbs_moved (onlyVerb (sourceTarget i) v) w) before.tables.symm before.outs.symm before.flash.symm
    after.outs after.flash
  rw [handVerbs_onlySource] at after
  refine ⟨moved, ?_, fun q => ?_⟩
  · have settled := verbSources_settled (onlyVerb (sourceTarget i) v) w
    unfold sourcesSettled at settled ⊢
    rw [after.flash, after.supply]
    exact settled
  · exact outputFollows_congr (sameLoads_symm before) after
      (verbSources_follow _ w q (onlyVerb_other v (outputTarget_ne_sourceTarget q i)))

theorem sourceTarget_injective {i j : SourceId} (h : sourceTarget j = sourceTarget i) : j = i := by
  revert h
  cases i <;> cases j <;> decide

/-- An output for which no verb comes keeps its demand (R78). -/
theorem moved_elsewhere {verbs : Fin 15 → Option Resolved} {s t : State} {q : Fin 12} (h : movedBy verbs s t)
    (silent : verbs (outputTarget q) = none) : t.outs[q].demand = s.outs[q].demand ∧ t.outs[q].fanLevel = s.outs[q].fanLevel := by
  have view := h.outputs q
  rw [silent, demandMoved_none] at view
  exact ⟨congrArg (fun x => x.1) view, congrArg (fun x => x.2.1) view⟩

/-- Settles O25: the offer and the ORDER touch different parts, so that their open order shows in neither. -/
theorem ordersActOnTheirTarget : Obligations.OrdersActOnTheirTarget := by
  unfold Obligations.OrdersActOnTheirTarget
  intro s p f e lane running arriving decided feed kind lanes verb offered u w alone ignored
  have verbOf : verb = orderVerb lane := rfl
  have same : ignored ↔ orderIgnored s f.tag lane := Iff.rfl
  have good := portsAndFlags_goodVerdict p s
  have whole : w = offeredAlone s p f offered (goodVerdict p s) := rfl
  clear_value verb
  subst verbOf
  have plain : alone → finish s (if offered then offerRelay p.opposite (relayed f) (verdictStart p s) else verdictStart p s) = w :=
    fun quiet => finish_offered p f offered good (goodVerdict_sameOffer p s) (onward_copiesMade (goodVerdict_onward p s)) quiet
  have ended : ∀ n, alone → finish s (if offered then offerRelay p.opposite (relayed f)
      { st := (goodVerdict p s).recounted n, reply := none, faults := [] }
      else { st := (goodVerdict p s).recounted n, reply := none, faults := [] }) = w.recounted n := fun n quiet => by
    rw [whole, ← offeredAlone_recounted]
    obtain ⟨queue, taken, flag, tables⟩ := goodVerdict_sameOffer p s
    exact finish_offered p f offered ⟨good.drives, good.items, good.overrun, good.tables, good.node⟩ ⟨queue, taken, flag, tables⟩
      (fun made => (onward_copiesMade (goodVerdict_onward p s) made :)) quiet
  refine ⟨fun quiet other one => ?_, fun this heeds => ?_, fun ours => ⟨_, exec_order_obeyed running arriving decided feed kind lanes ours, ?_⟩⟩
  · rw [exec_order_passing running arriving decided feed kind lanes other one]
    exact congrArg _ (plain quiet)
  · have nothing : offered = false := by simp [offered, this]
    have kept : u = goodVerdict p s := by simp [u, nothing]
    rw [exec_order_obeyed running arriving decided feed kind lanes (.inl this), kept]
    refine congrArg _ (Eq.trans (congrArg (finish s) (a₂ := verdictStart p s) ?_) (afterNeed_portsAndFlags good))
    refine (congrArg (fun o => offerAndFeed p f o _ _) nothing).trans ?_
    exact congrArg (fun v => ({ st := v, reply := none, faults := [] } : Ev)) (orderEvent_ignored heeds (goodVerdict_tables p s))
  · let t := finish s (offerAndFeed p f offered (Ev.on (orderEvent f.tag lane)) (verdictStart p s))
    have loads := orderAndOffer_lessLoads p f offered f.tag lane (verdictStart p s)
    obtain ⟨outs, flash, capture, lost⟩ := goodVerdict_outs p s
    obtain ⟨_, _, _, supply, _, _, uptime⟩ := fields_of_blocks (goodVerdict_blocks p s)
    have shows := offerAndFeed_shows (orderEvent_keepsOffer p f.tag lane) f offered s (verdictStart p s) (goodVerdict_sameOffer p s)
    have captures := offerAndFeed_captures (orderEvent_keepsOffer p f.tag lane) f offered s
      (orderEvent_keepsCaptures s.tables f.tag lane) (verdictStart p s) (goodVerdict_sameOffer p s) capture lost (congrArg SupplyState.vs supply) uptime
    have faults : t.faults = _ := finish_faults_eq s _
    refine ⟨?_, ?_, (finish_shows s _ shows).2, ?_, fun quiet heeds => ?_, fun quiet obeyed o => ?_, fun quiet o names allowed verb => ?_,
      fun quiet i names allowed verb => ?_⟩
    · exact (congrArg State.lessLoads (finish_lessReports s _)).trans (congrArg State.lessReports loads)
    · obtain ⟨reports, notes, queue⟩ := finish_queue s (offerAndFeed p f offered (Ev.on (orderEvent f.tag lane)) (verdictStart p s)) p.opposite
      refine ⟨reports, notes, queue.trans (congrArg (· ++ reports) ?_)⟩
      cases p
      · exact (congrArg (fun x : State => x.aft.queue) loads :)
      · exact (congrArg (fun x : State => x.fore.queue) loads :)
    · exact (congrArg (fun x : FaultState => (x.capture, x.lost)) faults).trans captures
    · obtain ⟨n, order⟩ := orderAndOffer_ignored (p := p) (f := f) offered (goodVerdict p s) (goodVerdict_tables p s) heeds
      have result := (congrArg (finish s) order).trans (ended n quiet)
      exact (congrArg (State.recounted w.choices) result :)
    · obtain ⟨x, before, after⟩ := orderAndOffer_loads (f := f) (tag := f.tag) (lane := lane) quiet
      obtain ⟨v, verb, ⟨q, names, allowed⟩ | ⟨i, names, allowed⟩⟩ := obeyed_cases obeyed
      · rw [verb, onlyVerb_eq _ v f.tag names]
        exact (ordered_output before after q names verb allowed).2.2 o
      · rw [verb, onlyVerb_eq _ v f.tag names]
        exact (ordered_source before after i names verb allowed).2.2 o
    · obtain ⟨x, before, after⟩ := orderAndOffer_loads (f := f) (tag := f.tag) (lane := lane) quiet
      obtain ⟨v, named⟩ := Option.ne_none_iff_exists'.mp verb
      obtain ⟨moved, still, _⟩ := ordered_output before after o names named allowed
      refine ⟨still, fun q other => ?_, fun switched => ?_, fun fan => ?_⟩
      · exact moved_elsewhere moved (onlyVerb_other v fun same => other (Fin.ext (congrArg Fin.val same :)))
      · rw [(moved_outputs moved).1 o switched, onlyVerb_same, named]
      · rw [(moved_outputs moved).2 o fan, onlyVerb_same, named]
    · obtain ⟨x, before, after⟩ := orderAndOffer_loads (f := f) (tag := f.tag) (lane := lane) quiet
      obtain ⟨v, named⟩ := Option.ne_none_iff_exists'.mp verb
      obtain ⟨moved, settled, _⟩ := ordered_source before after i (by rw [names]; cases i <;> rfl) named allowed
      refine ⟨fun j => ?_, settled, fun q => moved_elsewhere moved (onlyVerb_other v (outputTarget_ne_sourceTarget q i))⟩
      rw [moved.sources j]
      by_cases own : j = i
      · rw [if_pos own, own, onlyVerb_same, named]
      · rw [if_neg own, onlyVerb_other v fun same => own (sourceTarget_injective same)]
        rfl

end Sys2Proof.Machine
end

section
/-! PROOFS. The condition unit on new operands, and the demands that its edges move (R64 to R69). -/

namespace Sys2Proof.Machine

/-! The currents of the outputs, which no verb changes (R98). -/

/-- The current of each output. -/
def State.currents (s : State) (o : Fin 12) : Nat := s.outs[o].current

theorem releasedIf_current (off : Bool) (x : OutLive) : (releasedIf off x).current = x.current := by
  cases off <;> rfl

theorem verbed_current (t : Tables) (flash : FlashState) (supply : SupplyState) (e : LoadEntry) (v : Option Resolved) (x : OutLive) :
    (verbed t flash supply e v x).1.current = x.current := by
  unfold verbed
  cases e.kind <;> rfl

theorem redrive_current (e : LoadEntry) (flash : FlashState) (ign : Bool) (shed : Nat) (x : OutLive) :
    (redrive e flash ign shed x).current = x.current := by
  unfold redrive
  split
  · split
    · split <;> rfl
    · rfl
  · split <;> rfl

theorem applyOutputVerbs_currents (verbs : Fin 15 → Option Resolved) (s : State) : (applyOutputVerbs verbs s).currents = s.currents := by
  funext o
  have view := congrArg (fun y => y.1.current) (applyOutputVerbs_view verbs s o)
  exact view.trans ((releasedIf_current _ _).trans (verbed_current _ _ _ _ _ _))

theorem applyFlashVerbs_currents (before : Vector Bool 12) (verbs : Fin 15 → Option Resolved) (s : State) :
    (applyFlashVerbs before verbs s).currents = s.currents := by
  funext o
  have view := congrArg (fun y => y.1.current) (handContexts_view before (applyFlashVerbs before verbs s).flash s o)
  unfold applyFlashVerbs at view ⊢
  rw [handContexts_flash] at view
  exact view.trans (releasedIf_current _ _)

theorem redriveAll_currents (s : State) : (redriveAll s).currents = s.currents := by
  funext o
  exact (congrArg (fun y => y.1.current) (redriveAll_view s o)).trans (redrive_current _ _ _ _ _)

/-- Actions that keep the currents, and the drives after them, keep them. -/
theorem redriven_currents (acts : List (State → State)) (s : State) (keeps : ∀ f ∈ acts, ∀ t, (f t).currents = t.currents) :
    (if acts.isEmpty then s else redriveAll (anyOrder acts s)).currents = s.currents := by
  split
  · rfl
  · exact (redriveAll_currents _).trans (anyOrder_keeps State.currents acts s (fun _ _ => rfl) keeps)

theorem handVerbs_currents (verbs : Fin 15 → Option Resolved) (s : State) : (handVerbs verbs s).currents = s.currents := by
  refine redriven_currents _ s fun f hf t => ?_
  rcases List.mem_append.mp hf with hf | hf <;> split at hf <;> simp only [List.mem_singleton, List.not_mem_nil] at hf <;> subst hf
  · exact applyOutputVerbs_currents verbs t
  · exact applyFlashVerbs_currents _ verbs t

/-- An event of the action matrix changes no current. -/
theorem matrixEvent_currents (ev : MatrixEvent) (s : State) : (matrixEvent ev s).currents = s.currents := handVerbs_currents _ s

theorem currents_of_outs {s t : State} (h : t.outs = s.outs) : t.currents = s.currents := by
  funext o
  unfold State.currents
  rw [h]

theorem reportFault_currents (c : FaultClass) (i value : Nat) (e : Ev) (other : c ≠ .pod) :
    (reportFault c i value e).st.currents = e.st.currents := by
  unfold reportFault
  split
  · refine (matrixEvent_currents _ _).trans (currents_of_outs ?_)
    simp [Ev.on, noteRaise_other c i _ other]
  · rfl

/-! Operands and evaluation (R64 to R68). -/

theorem operandValue_eq (s : State) (kind : OperandKind) (index : Nat) : operandValue s kind index = operandIn s kind index := by
  unfold operandValue operandIn
  cases kind with
  | slot => cases s.slots[index]? <;> rfl
  | gauge => cases s.gauges[index]? <;> rfl
  | current => cases s.outs[index]? <;> rfl
  | supply => rfl
  | shed => rfl
  | const => rfl

/-- An operand is read from slots, channels, supply and currents. -/
theorem operandIn_congr {s t : State} {kind : OperandKind} {index : Nat} (slots : kind = .slot → t.slots[index]? = s.slots[index]?)
    (gauges : kind = .gauge → t.gauges[index]? = s.gauges[index]?) (supply : t.supply = s.supply) (currents : t.currents = s.currents) :
    operandIn t kind index = operandIn s kind index := by
  unfold operandIn
  cases kind with
  | slot => rw [slots rfl]
  | gauge => rw [gauges rfl]
  | supply => rw [supply]
  | shed => rw [supply]
  | const => rfl
  | current =>
    by_cases h : index < 12
    · have same := congrFun currents ⟨index, h⟩
      simp only [State.currents, Fin.getElem_fin] at same
      simp only [Vector.getElem?_eq_getElem h, Option.map_some, same]
    · simp only [Vector.getElem?_eq_none (Nat.not_lt.mp h)]

/-- Without a constant operand B no hysteresis applies, and what the entry held plays no part (R66). -/
theorem evaluate_live (e : CondEntry) (x y : CondLive) (a b : Option Nat) (live : e.bKind ≠ .const) :
    evaluate e x a b = evaluate e y a b := by
  unfold evaluate
  simp [live]

/-! One round of the condition unit (R68, R69). -/

theorem foldl_matrixEvents {β : Type} (view : State → β) (keeps : ∀ ev t, view (matrixEvent ev t) = view t) (events : List MatrixEvent)
    (s : State) : view (events.foldl (fun t ev => matrixEvent ev t) s) = view s :=
  foldl_keeps view _ (fun t ev => keeps ev t) events s

theorem evalConds_lessLinks (affects : OperandKind → Nat → Bool) (s : State) :
    (evalConds affects s).lessLinks = ({ s with conds := tabulate (condAfter s affects) } : State).lessLinks :=
  foldl_matrixEvents State.lessLinks matrixEvent_lessLinks _ _

theorem evalConds_currents (affects : OperandKind → Nat → Bool) (s : State) : (evalConds affects s).currents = s.currents :=
  foldl_matrixEvents State.currents matrixEvent_currents _ _

theorem evalConds_conds (affects : OperandKind → Nat → Bool) (s : State) (c : Fin 16) :
    (evalConds affects s).conds[c] = condAfter s affects c := by
  have conds : (evalConds affects s).conds = tabulate (condAfter s affects) := (congrArg State.conds (evalConds_lessLinks affects s) :)
  rw [conds, getElem_tabulate_fin]

/-- Where no valid entry reads the operands concerned, the round does nothing. -/
theorem evalConds_unconcerned (affects : OperandKind → Nat → Bool) (s : State) (h : condsConcerned s affects = false) :
    evalConds affects s = s := by
  have still : tabulate (condAfter s affects) = s.conds := by
    apply Vector.ext
    intro i hi
    have entry : ¬ _ := fun c => Bool.eq_false_iff.mp h ((anyOf_iff _ _).mpr ⟨⟨i, hi⟩, c⟩)
    refine (getElem_tabulate_fin (condAfter s affects) ⟨i, hi⟩).trans ?_
    unfold condAfter
    exact if_neg entry
  have noEdges : condEdges s.conds s.conds = [] := by
    unfold condEdges
    simp
  unfold evalConds
  simp only [still, noEdges]
  rfl

/-! The demands that edges move (R69, R78). -/

theorem matrixEvent_context (ev : MatrixEvent) (s : State) : (matrixEvent ev s).tables = s.tables ∧ (matrixEvent ev s).conds = s.conds :=
  ⟨(congrArg State.tables (matrixEvent_lessLinks ev s) :), (congrArg State.conds (matrixEvent_lessLinks ev s) :)⟩

theorem matrixEvent_moved (ev : MatrixEvent) (s : State) : movedBy (resolvedVerbs (firingSet s ev)) s (matrixEvent ev s) :=
  handVerbs_moved _ s

theorem matrixEvents_demand (s : State) (o : Fin 12) : ∀ (events : List MatrixEvent) (u : State), u.tables = s.tables → u.conds = s.conds →
    demandView o (events.foldl (fun t ev => matrixEvent ev t) u) =
      events.foldl (fun x ev => demandMoved s.tables.loads[o].kind (resolvedVerbs (firingSet s ev) (outputTarget o)) x) (demandView o u)
  | [], _, _, _ => rfl
  | ev :: events, u, tables, conds => by
    obtain ⟨tables', conds'⟩ := matrixEvent_context ev u
    have moved := (matrixEvent_moved ev u).outputs o
    rw [firingSet_congr tables conds, tables] at moved
    rw [List.foldl_cons, List.foldl_cons, matrixEvents_demand s o events _ (tables'.trans tables) (conds'.trans conds), moved]

theorem matrixEvents_source (s : State) (i : SourceId) : ∀ (events : List MatrixEvent) (u : State), u.tables = s.tables → u.conds = s.conds →
    ((events.foldl (fun t ev => matrixEvent ev t) u).flash.source i).demand =
      events.foldl (fun x ev => demandByVerb x (resolvedVerbs (firingSet s ev) (sourceTarget i))) (u.flash.source i).demand
  | [], _, _, _ => rfl
  | ev :: events, u, tables, conds => by
    obtain ⟨tables', conds'⟩ := matrixEvent_context ev u
    have moved := (matrixEvent_moved ev u).sources i
    rw [firingSet_congr tables conds] at moved
    rw [List.foldl_cons, List.foldl_cons, matrixEvents_source s i events _ (tables'.trans tables) (conds'.trans conds), moved]

/-- A row of verbs on a switched output moves its demand alone (R80). -/
theorem foldl_demandMoved_switched {α : Type} (kind : LoadKind) (h : kind.switched = true) (v : α → Option Resolved) :
    ∀ (l : List α) (x : Bool × Nat × Nat),
      (l.foldl (fun x c => demandMoved kind (v c) x) x).1 = l.foldl (fun d c => demandByVerb d (v c)) x.1
  | [], _ => rfl
  | c :: l, x => by
    rw [List.foldl_cons, List.foldl_cons, foldl_demandMoved_switched kind h v l]
    cases kind
    case lamp | stop | stopturn => rfl
    case unused | indicator | fan => exact absurd h (by decide)

/-- A row of verbs on a fan moves its level and its memory (R83). -/
theorem foldl_demandMoved_fan {α : Type} (v : α → Option Resolved) : ∀ (l : List α) (x : Bool × Nat × Nat),
    (l.foldl (fun x c => demandMoved .fan (v c) x) x).2 = l.foldl (fun y c => fanByVerb y.1 y.2 (v c)) x.2
  | [], _ => rfl
  | c :: l, x => by
    rw [List.foldl_cons, List.foldl_cons, foldl_demandMoved_fan v l]
    rfl

/-- The edges in ascending entry number, as the statement lists them (R69). -/
theorem condEdges_eq (old new : Vector CondLive 16) : condEdges old new =
    ((List.finRange 16).filter fun c => decide (new[c].truth ≠ old[c].truth)).map fun c => .cond c new[c].truth := by
  unfold condEdges
  induction List.finRange 16 with
  | nil => rfl
  | cons c cs ih =>
    by_cases h : old[c].truth = new[c].truth
    · rw [List.filterMap_cons_none (by rw [if_pos h]), List.filter_cons_of_neg (by rw [h]; simp), ih]
    · rw [List.filterMap_cons_some (by rw [if_neg h]), List.filter_cons_of_pos (by simpa using Ne.symm h), List.map_cons, ih]

/-- The edges of a round move the demands, and nothing else does (R69). -/
theorem evalConds_edgesMove (affects : OperandKind → Nat → Bool) (s : State) : edgesMove s (evalConds affects s) := by
  let u : State := { s with conds := tabulate (condAfter s affects) }
  have conds : (evalConds affects s).conds = u.conds := (congrArg State.conds (evalConds_lessLinks affects s) :)
  have made : evalConds affects s = (((List.finRange 16).filter fun c => decide (u.conds[c].truth ≠ s.conds[c].truth)).map
      fun c => MatrixEvent.cond c u.conds[c].truth).foldl (fun t ev => matrixEvent ev t) u := by
    rw [← condEdges_eq]
    rfl
  have outputs := fun o => (congrArg (demandView o) made).trans (matrixEvents_demand u o _ u rfl rfl)
  have sources := fun i => (congrArg (fun t : State => (t.flash.source i).demand) made).trans (matrixEvents_source u i _ u rfl rfl)
  simp only [List.foldl_map] at outputs sources
  unfold edgesMove
  simp only [conds]
  generalize (List.finRange 16).filter _ = edges at outputs sources ⊢
  refine ⟨fun o kind => ?_, fun o kind => ?_, fun i => ?_⟩
  · exact (congrArg (fun x => x.1) (outputs o)).trans (foldl_demandMoved_switched _ kind _ edges _)
  · have moved := congrArg (fun x => x.2) (outputs o)
    rw [show u.tables.loads[o].kind = .fan from kind] at moved
    exact moved.trans (foldl_demandMoved_fan _ edges _)
  · exact sources i

/-- Whether edges have moved the demands is read from tables, conditions, outputs and flasher. -/
theorem edgesMove_congr {s t u v : State} (tables : u.tables = s.tables) (conds : u.conds = s.conds) (outs : u.outs = s.outs)
    (flash : u.flash = s.flash) (conds' : v.conds = t.conds) (outs' : v.outs = t.outs) (flash' : v.flash = t.flash)
    (h : edgesMove s t) : edgesMove u v := by
  unfold edgesMove firingSet at h ⊢
  simp only [tables, conds, outs, flash, conds', outs', flash']
  exact h

end Sys2Proof.Machine
end

section
/-! PROOFS. One pipeline run of a channel: its position, its SENDER flag and the conditions on it (R133, R143, R145). -/

namespace Sys2Proof.Machine

/-! What a run makes of the channel (R133, R143). -/

theorem formDuty_state (e : GaugeEntry) (ign : Bool) (vs : Nat) (g : GaugeLive) : (formDuty e ign vs g).state = g.state := by
  unfold formDuty
  split
  · split <;> rfl
  · rfl

theorem applyPolicy_state (e : GaugeEntry) (g : GaugeLive) : (applyPolicy e g).state = .fault := by
  unfold applyPolicy
  cases e.policy <;> rfl

/-- A run ends in FAULT exactly where it reports SENDER (R143). -/
theorem gaugeRun_fault (t : Tables) (e : GaugeEntry) (ign : Bool) (vs : Nat) (r : Lane) (g : GaugeLive) :
    (gaugeRun t e ign vs r g).state = .fault ↔ reportsSender t e r g = true := by
  unfold gaugeRun reportsSender
  rw [formDuty_state]
  unfold runPosition
  cases editing : curveInEdit t e
  · by_cases reading : r = noReading
    · unfold runNoReading
      cases state : g.state <;> simp [reading, state, applyPolicy_state]
    · simp [reading, runReading]
  · simp

/-- The SENDER flag of a channel after its run (R143). -/
def senderAfter (s : State) (g : Fin 4) (new : GaugeLive) : Bool :=
  let flag := s.faults.isSet .sender g.val
  if new.state = .fault then flag || s.tables.hub.detects .sender
  else flag && (decide (s.gauges[g].state ≠ .fault) || s.tables.hub.latches .sender)

theorem senderAfter_eq (s : State) (g : Fin 4) {new : GaugeLive} {reports : Bool} (ends : new.state = .fault ↔ reports = true) :
    (s.faults.isSet .sender g.val && !(true && decide (s.gauges[g].state = .fault ∧ new.state ≠ .fault) && !s.tables.hub.latches .sender) ||
      (reports && (true && s.tables.hub.detects .sender))) = senderAfter s g new := by
  unfold senderAfter
  by_cases fault : new.state = .fault
  · rw [ends.mp fault]
    simp [fault]
  · rw [Bool.eq_false_iff.mpr (mt ends.mpr fault)]
    by_cases old : s.gauges[g].state = .fault
    · rw [decide_eq_true (⟨old, fault⟩ : s.gauges[g].state = .fault ∧ new.state ≠ .fault), decide_eq_false (not_not.mpr old)]
      simp [fault]
    · rw [decide_eq_false (fun c : s.gauges[g].state = .fault ∧ new.state ≠ .fault => old c.1), decide_eq_true old]
      simp [fault]

/-- The flags of a reported class after the report (R160). -/
theorem reportFault_isSet (c : FaultClass) (i j value : Nat) (e : Ev) (hi : i < 12) (other : c ≠ .pod ∧ c ≠ .overload ∧ c ≠ .stall) :
    (reportFault c i value e).st.faults.isSet c j =
      (e.st.faults.isSet c j || (decide (j = i) && e.st.tables.hub.detects c)) := by
  by_cases own : j = i
  · rw [own, reportFault_sets c i value e hi other]
    simp
  · unfold reportFault
    split
    · simp only [Ev.on, isSet_of_lessLinks (matrixEvent_lessLinks _ _) c j other.2, captureAttempt_isSet, noteRaise_other c i _ other.1,
        isSet_setFlag, own]
      simp
    · simp [own]

/-! Two acts that may be left out. -/

/-- Two acts of one event, each of which may be left out, come in one order or the other. -/
theorem anyOrderEv_options (a b : Bool) (f g : Ev → Ev) (e : Ev) : ∃ n,
    anyOrderEv ((if a then [f] else []) ++ (if b then [g] else [])) e = (if b then g else id) ((if a then f else id) (e.counted n)) ∨
      anyOrderEv ((if a then [f] else []) ++ (if b then [g] else [])) e = (if a then f else id) ((if b then g else id) (e.counted n)) := by
  cases a <;> cases b
  · exact ⟨e.st.choices, .inl rfl⟩
  · exact ⟨e.st.choices, .inl rfl⟩
  · exact ⟨e.st.choices, .inl rfl⟩
  · exact anyOrderEv_pair f g e

/-! The operands of two hubs. -/

/-- Hubs with the same operands: the same channels and currents, and the same slots and supply among the rest. -/
structure State.sameOperands (s t : State) : Prop where
  rest : t.lessRuns = s.lessRuns
  currents : t.currents = s.currents
  gauges : t.gauges = s.gauges

theorem sameOperands_trans {s t u : State} (h : s.sameOperands t) (h' : t.sameOperands u) : s.sameOperands u :=
  ⟨h'.rest.trans h.rest, h'.currents.trans h.currents, h'.gauges.trans h.gauges⟩

theorem fields_of_lessRuns {s t : State} (h : t.lessRuns = s.lessRuns) :
    t.tables = s.tables ∧ t.slots = s.slots ∧ t.supply = s.supply :=
  ⟨(congrArg State.tables h :), (congrArg State.slots h :), (congrArg State.supply h :)⟩

theorem operandIn_same {s t : State} (h : s.sameOperands t) (kind : OperandKind) (index : Nat) :
    operandIn t kind index = operandIn s kind index := by
  obtain ⟨_, slots, supply⟩ := fields_of_lessRuns h.rest
  exact operandIn_congr (fun _ => by rw [slots]) (fun _ => by rw [h.gauges]) supply h.currents

/-- An entry after an evaluation with these operands (R67, R68). -/
def condTaken (s t : State) (reads : OperandKind → Nat → Bool) (c : Fin 16) : CondLive :=
  let e := s.tables.conds[c]
  if e.valid && (reads e.aKind e.aIndex || reads e.bKind e.bIndex) then
    evaluate e s.conds[c] (operandIn t e.aKind e.aIndex) (operandIn t e.bKind e.bIndex)
  else s.conds[c]

theorem condAfter_eq (s : State) (reads : OperandKind → Nat → Bool) (c : Fin 16) : condAfter s reads c = condTaken s s reads c := by
  unfold condAfter condTaken
  simp only [operandValue_eq]

theorem condTaken_congr {s t u v : State} (reads : OperandKind → Nat → Bool) (c : Fin 16) (tables : u.tables = s.tables)
    (conds : u.conds[c] = s.conds[c]) (same : t.sameOperands v) : condTaken u v reads c = condTaken s t reads c := by
  unfold condTaken
  simp only [tables, conds, operandIn_same same]

/-! The run itself (R133, R143, R145). -/

/-- What a run of channel g with the reading r has made of `s`. -/
structure State.channelRun (g : Fin 4) (r : Lane) (s t : State) : Prop where
  rest : t.lessRuns = s.lessRuns
  currents : t.currents = s.currents
  gauges : t.gauges = modifyAt s.gauges g fun _ => gaugeRun s.tables s.tables.gauges[g] s.supply.ign s.supply.vs r s.gauges[g]
  senders : ∀ h : Nat, t.faults.isSet .sender h = if h = g.val then
    senderAfter s g (gaugeRun s.tables s.tables.gauges[g] s.supply.ign s.supply.vs r s.gauges[g]) else s.faults.isSet .sender h
  conds : ∀ c, t.conds[c] = condTaken s t (affectsGauge g) c

theorem evalConds_sameOperands (reads : OperandKind → Nat → Bool) (s : State) : s.sameOperands (evalConds reads s) :=
  ⟨evalConds_lessRuns reads s, evalConds_currents reads s, (congrArg State.gauges (evalConds_lessLinks reads s) :)⟩

theorem reportFault_sameOperands (c : FaultClass) (i value : Nat) (e : Ev) (other : c ≠ .pod) :
    e.st.sameOperands (reportFault c i value e).st :=
  have loads := reportFault_lessLoads c i value e other
  ⟨lessRuns_of_lessLoads loads, reportFault_currents c i value e other, (congrArg State.gauges loads :)⟩

/-- The channel with its new position, and its SENDER flag cleared as it leaves FAULT (R143). -/
def channelMoved (g : Fin 4) (r : Lane) (s : State) : State :=
  let new := gaugeRun s.tables s.tables.gauges[g] s.supply.ign s.supply.vs r s.gauges[g]
  let u : State := { s with gauges := modifyAt s.gauges g fun _ => new }
  if s.gauges[g].state = .fault ∧ new.state ≠ .fault then clearUnlatched .sender g.val u else u

/-- The report of a run, where it makes one (R143). -/
def channelReports (g : Fin 4) (r : Lane) (s : State) : Bool := reportsSender s.tables s.tables.gauges[g] r s.gauges[g]

/-- A run in its two hand-ons: the conditions on the channel, whether or not some entry reads it, and the SENDER report (R145). -/
theorem runChannel_orders (g : Fin 4) (r : Lane) (e : Ev) : ∃ n value,
    let start : Ev := { e with st := (channelMoved g r e.st).recounted n }
    let report : Ev → Ev := if channelReports g r e.st then reportFault .sender g.val value else id
    runChannel g r e = report (start.on (evalConds (affectsGauge g))) ∨
      runChannel g r e = (report start).on (evalConds (affectsGauge g)) := by
  let start : Ev := { e with st := channelMoved g r e.st }
  let value := (gaugeRun e.st.tables e.st.tables.gauges[g] e.st.supply.ign e.st.supply.vs r e.st.gauges[g]).lastRaw.toNat
  obtain ⟨n, order⟩ := anyOrderEv_options (condsConcerned (channelMoved g r e.st) (affectsGauge g)) (channelReports g r e.st)
    (Ev.on (evalConds (affectsGauge g))) (reportFault .sender g.val value) start
  have made : runChannel g r e = anyOrderEv ((if condsConcerned (channelMoved g r e.st) (affectsGauge g) then
      [Ev.on (evalConds (affectsGauge g))] else []) ++
    (if channelReports g r e.st then [reportFault .sender g.val value] else [])) start := rfl
  have round : ∀ x : Ev, x.st.tables = (channelMoved g r e.st).tables →
      (if condsConcerned (channelMoved g r e.st) (affectsGauge g) then Ev.on (evalConds (affectsGauge g)) else id) x =
        x.on (evalConds (affectsGauge g)) := fun x tables => by
    cases concerned : condsConcerned (channelMoved g r e.st) (affectsGauge g)
    · have same : condsConcerned x.st (affectsGauge g) = false := by
        unfold condsConcerned at concerned ⊢
        rw [tables]
        exact concerned
      unfold Ev.on
      rw [evalConds_unconcerned _ _ same]
      rfl
    · rfl
  refine ⟨n, value, ?_⟩
  rw [made]
  rcases order with order | order <;> rw [order]
  · exact .inl (congrArg _ (round (start.counted n) rfl))
  · refine .inr (round _ ?_)
    split
    · exact reportFault_keeps_tables .sender g.val value _ (by decide)
    · rfl

/-- The channel moved, and its flag cleared where it leaves FAULT: the rest stands. -/
theorem channelMoved_made (g : Fin 4) (r : Lane) (s : State) :
    let new := gaugeRun s.tables s.tables.gauges[g] s.supply.ign s.supply.vs r s.gauges[g]
    ({ s with gauges := modifyAt s.gauges g fun _ => new } : State).sameOperands (channelMoved g r s) ∧
      (channelMoved g r s).conds = s.conds ∧ ∀ h : Nat, (channelMoved g r s).faults.isSet .sender h = (s.faults.isSet .sender h &&
        !(decide (h = g.val) && decide (s.gauges[g].state = .fault ∧ new.state ≠ .fault) && !s.tables.hub.latches .sender)) := by
  intro new
  unfold channelMoved
  by_cases leaves : s.gauges[g].state = .fault ∧ new.state ≠ .fault
  · simp only [new] at leaves
    rw [if_pos leaves, decide_eq_true leaves]
    refine ⟨⟨lessRuns_of_lessLoads (clearUnlatched_lessLoads _ _ _), currents_of_outs (clearUnlatched_outs _ _ _), by simp [new]⟩, by simp, fun h => ?_⟩
    rw [isSet_clearUnlatched]
    simp
  · simp only [new] at leaves
    rw [if_neg leaves, decide_eq_false leaves]
    exact ⟨⟨rfl, rfl, rfl⟩, rfl, fun h => by simp⟩

/-- A run does what R133, R143 and R145 say, whichever of its hand-ons comes first. -/
theorem runChannel_made (g : Fin 4) (r : Lane) (e : Ev) : e.st.channelRun g r (runChannel g r e).st := by
  obtain ⟨n, value, order⟩ := runChannel_orders g r e
  obtain ⟨moved, movedConds, movedSenders⟩ := channelMoved_made g r e.st
  simp only at order
  let start : Ev := { e with st := (channelMoved g r e.st).recounted n }
  let report : Ev → Ev := if channelReports g r e.st then reportFault .sender g.val value else id
  have tables : start.st.tables = e.st.tables := (fields_of_lessRuns moved.rest).1
  have reported : ∀ x : Ev, x.st.sameOperands (report x).st ∧ (report x).st.conds = x.st.conds ∧
      ∀ h : Nat, (report x).st.faults.isSet .sender h =
        (x.st.faults.isSet .sender h || (channelReports g r e.st && (decide (h = g.val) && x.st.tables.hub.detects .sender))) := by
    intro x
    simp only [report]
    cases channelReports g r e.st
    · exact ⟨⟨rfl, rfl, rfl⟩, rfl, fun h => by simp⟩
    · exact ⟨reportFault_sameOperands _ _ _ x (by decide), (congrArg State.conds (reportFault_lessLoads .sender g.val value x (by decide)) :),
        fun h => reportFault_isSet .sender g.val h value x (by omega) (by decide)⟩
  have round : ∀ x : Ev, x.st.sameOperands (evalConds (affectsGauge g) x.st) ∧
      (∀ h : Nat, (evalConds (affectsGauge g) x.st).faults.isSet .sender h = x.st.faults.isSet .sender h) := fun x =>
    ⟨evalConds_sameOperands _ x.st, fun h => isSet_of_lessLinks (s := ({ x.st with conds := tabulate (condAfter x.st (affectsGauge g)) } : State))
      (evalConds_lessLinks _ x.st) .sender h (by decide)⟩
  have taken : ∀ x : Ev, x.st.conds = start.st.conds → start.st.sameOperands x.st → ∀ c,
      (evalConds (affectsGauge g) x.st).conds[c] = condTaken start.st (evalConds (affectsGauge g) x.st) (affectsGauge g) c := by
    intro x conds same c
    rw [evalConds_conds, condAfter_eq]
    refine condTaken_congr _ c (fields_of_lessRuns same.rest).1 (by rw [conds]) ⟨?_, ?_, ?_⟩
    · exact (evalConds_lessRuns _ x.st).symm
    · exact (evalConds_currents _ x.st).symm
    · exact (evalConds_sameOperands _ x.st).gauges.symm
  obtain ⟨same, conds, senders⟩ : start.st.sameOperands (runChannel g r e).st ∧
      (∀ c, (runChannel g r e).st.conds[c] = condTaken start.st (runChannel g r e).st (affectsGauge g) c) ∧
      ∀ h : Nat, (runChannel g r e).st.faults.isSet .sender h =
        (start.st.faults.isSet .sender h || (channelReports g r e.st && (decide (h = g.val) && e.st.tables.hub.detects .sender))) := by
    rcases order with order | order <;> rw [order]
    · obtain ⟨after, conds, senders⟩ := reported (start.on (evalConds (affectsGauge g)))
      obtain ⟨before, flags⟩ := round start
      refine ⟨sameOperands_trans before after, fun c => ?_, fun h => (senders h).trans ?_⟩
      · refine (congrArg (fun v : Vector CondLive 16 => v[c]) conds).trans ((taken start rfl ⟨rfl, rfl, rfl⟩ c).trans ?_)
        exact (condTaken_congr _ c rfl rfl after).symm
      · have kept := (fields_of_lessRuns before.rest).1.trans tables
        simp only [Ev.on, flags h, kept]
    · obtain ⟨before, conds, senders⟩ := reported start
      obtain ⟨after, flags⟩ := round (report start)
      refine ⟨sameOperands_trans before after, taken (report start) conds before, fun h => (flags h).trans ((senders h).trans ?_)⟩
      rw [tables]
  have whole := sameOperands_trans moved (u := (runChannel g r e).st) ⟨same.rest, same.currents, same.gauges⟩
  refine ⟨whole.rest, whole.currents, whole.gauges, fun h => ?_, fun c => ?_⟩
  · rw [senders h, show start.st.faults.isSet .sender h = _ from movedSenders h]
    by_cases own : h = g.val
    · rw [if_pos own, decide_eq_true own, own]
      exact senderAfter_eq e.st g (gaugeRun_fault _ _ _ _ _ _)
    · rw [if_neg own, decide_eq_false own]
      simp
  · exact (conds c).trans (condTaken_congr _ c tables.symm (by rw [show start.st.conds = e.st.conds from movedConds]) ⟨rfl, rfl, rfl⟩).symm

end Sys2Proof.Machine
end

section
/-! PROOFS. The hand-on of the slots that an event changes, in whatever order its parts come (R49, R68, R133, R143). -/

namespace Sys2Proof.Machine

/-! The edges of one run (R69). -/

/-- A SENDER report that is ignored, or that no link names, leaves outputs and flasher alone. -/
theorem senderReport_quiet (g : Fin 4) (value : Nat) (e : Ev)
    (quiet : e.st.faults.isSet .sender g.val = true ∨ e.st.tables.hub.detects .sender = false ∨
      wakesMatrix e.st (.fault .sender) = false) :
    (reportFault .sender g.val value e).st.outs = e.st.outs ∧ (reportFault .sender g.val value e).st.flash = e.st.flash := by
  rcases quiet with set | off | asleep
  · rw [reportFault_ignored _ _ _ _ (.inl set)]
    exact ⟨rfl, rfl⟩
  · rw [reportFault_ignored _ _ _ _ (.inr off)]
    exact ⟨rfl, rfl⟩
  · exact reportFault_asleep .sender g.val value e (by decide) asleep

theorem channelMoved_loads (g : Fin 4) (r : Lane) (s : State) :
    (channelMoved g r s).outs = s.outs ∧ (channelMoved g r s).flash = s.flash ∧ (channelMoved g r s).tables = s.tables := by
  unfold channelMoved
  simp only
  split <;> simp

/-- The edges of the conditions on a channel act at its run, where no link acts on a SENDER raise beside them (R69, R145). -/
theorem runChannel_edgesMove (g : Fin 4) (r : Lane) (e : Ev) (quiet : channelReports g r e.st = true →
    e.st.faults.isSet .sender g.val = true ∨ e.st.tables.hub.detects .sender = false ∨ wakesMatrix e.st (.fault .sender) = false) :
    edgesMove e.st (runChannel g r e).st := by
  obtain ⟨n, value, order⟩ := runChannel_orders g r e
  obtain ⟨_, movedConds, movedSenders⟩ := channelMoved_made g r e.st
  obtain ⟨outs, flash, tables⟩ := channelMoved_loads g r e.st
  simp only at order
  let start : Ev := { e with st := (channelMoved g r e.st).recounted n }
  let report : Ev → Ev := if channelReports g r e.st then reportFault .sender g.val value else id
  have reported : ∀ x : Ev, x.st.tables = e.st.tables → x.st.faults.isSet .sender g.val = start.st.faults.isSet .sender g.val →
      (report x).st.outs = x.st.outs ∧ (report x).st.flash = x.st.flash ∧ (report x).st.tables = x.st.tables ∧
        (report x).st.conds = x.st.conds := by
    intro x same flag
    simp only [report]
    cases reports : channelReports g r e.st
    · exact ⟨rfl, rfl, rfl, rfl⟩
    · have loads := reportFault_lessLoads .sender g.val value x (by decide)
      have fault := (gaugeRun_fault _ _ e.st.supply.ign e.st.supply.vs _ _).mpr reports
      have held : x.st.faults.isSet .sender g.val = e.st.faults.isSet .sender g.val := by
        rw [flag]
        refine (movedSenders g.val).trans ?_
        have stays : ¬ (e.st.gauges[g].state = .fault ∧
            (gaugeRun e.st.tables e.st.tables.gauges[g] e.st.supply.ign e.st.supply.vs r e.st.gauges[g]).state ≠ .fault) := fun c => c.2 fault
        rw [decide_eq_false stays]
        simp
      obtain ⟨outs', flash'⟩ := senderReport_quiet g value x (by
        rw [held, same, wakesMatrix_of_tables same]
        exact quiet reports)
      exact ⟨outs', flash', (congrArg State.tables loads :), (congrArg State.conds loads :)⟩
  rcases order with order | order <;> rw [order]
  · have links := evalConds_lessLinks (affectsGauge g) start.st
    obtain ⟨outs', flash', _, conds'⟩ := reported (start.on (evalConds (affectsGauge g))) ((congrArg State.tables links :).trans tables)
      (isSet_of_lessLinks (s := ({ start.st with conds := tabulate (condAfter start.st (affectsGauge g)) } : State)) links .sender _ (by decide))
    exact edgesMove_congr tables.symm movedConds.symm outs.symm flash.symm conds' outs' flash' (evalConds_edgesMove (affectsGauge g) start.st)
  · obtain ⟨outs', flash', tables', conds'⟩ := reported start tables rfl
    exact edgesMove_congr (tables'.trans tables).symm (conds'.trans movedConds).symm (outs'.trans outs).symm (flash'.trans flash).symm
      rfl rfl rfl (evalConds_edgesMove (affectsGauge g) (report start).st)

/-! The parts of the hand-on: the conditions on the slots, and a run of each channel sourced from one. -/

/-- The value of the slot that a channel is sourced from. -/
def sourceValue (s : State) (g : Fin 4) : Lane := s.tables.gauges[g].source.elim 0 fun k => s.slots[k].value

theorem runsIn_none {s : State} {changed : Fin 16 → Bool} {g : Fin 4} (source : s.tables.gauges[g].source = none) :
    runsIn s changed g = false := by
  unfold runsIn
  rw [source]

theorem runsIn_some {s : State} (changed : Fin 16 → Bool) {g : Fin 4} {k : Fin 16} (source : s.tables.gauges[g].source = some k) :
    runsIn s changed g = changed k ∧ sourceValue s g = s.slots[k].value := by
  unfold runsIn sourceValue
  rw [source]
  exact ⟨rfl, rfl⟩

/-- One part of the hand-on. -/
def handOn (s : State) (changed : Fin 16 → Bool) : Option (Fin 4) → Ev → Ev
  | none => Ev.on (evalConds (affectsSlots changed))
  | some g => runChannel g (sourceValue s g)

/-- The parts that an event of these slots has. -/
def handedTo (s : State) (changed : Fin 16 → Bool) : List (Option (Fin 4)) :=
  (if condsConcerned s (affectsSlots changed) then [none] else []) ++ ((List.finRange 4).filter (runsIn s changed)).map some

theorem handOnSlots_eq (changed : Fin 16 → Bool) (e : Ev) :
    handOnSlots changed e = anyOrderEv ((handedTo e.st changed).map (handOn e.st changed)) e := by
  have run : ∀ g : Fin 4, (match e.st.tables.gauges[g].source with
      | some k => if changed k then some (runChannel g e.st.slots[k].value) else none
      | none => none) = if runsIn e.st changed g then some (handOn e.st changed (some g)) else none := by
    intro g
    rcases Option.eq_none_or_eq_some e.st.tables.gauges[g].source with source | ⟨k, source⟩
    · rw [source, runsIn_none source]
      rfl
    · obtain ⟨runs, value⟩ := runsIn_some changed source
      rw [source, runs, handOn, value]
  have runs : ∀ l : List (Fin 4), (l.filterMap fun g => if runsIn e.st changed g then some (handOn e.st changed (some g)) else none) =
      ((l.filter (runsIn e.st changed)).map some).map (handOn e.st changed) := by
    intro l
    induction l with
    | nil => rfl
    | cons g l ih =>
      rw [List.filterMap_cons, ih, List.filter_cons]
      cases runsIn e.st changed g <;> rfl
  unfold handOnSlots handedTo
  rw [List.map_append]
  refine congrArg (fun acts => anyOrderEv acts e) (congrArg₂ (· ++ ·) ?_ ?_)
  · split <;> rfl
  · exact (congrArg (fun act => List.filterMap act (List.finRange 4)) (funext run)).trans (runs _)

theorem mem_handedTo_some (s : State) (changed : Fin 16 → Bool) (g : Fin 4) : some g ∈ handedTo s changed ↔ runsIn s changed g = true := by
  unfold handedTo
  split <;> simp

theorem mem_handedTo_none (s : State) (changed : Fin 16 → Bool) :
    none ∈ handedTo s changed ↔ condsConcerned s (affectsSlots changed) = true := by
  unfold handedTo
  split <;> simp_all

theorem handedTo_nodup (s : State) (changed : Fin 16 → Bool) : (handedTo s changed).Nodup := by
  have runs : (((List.finRange 4).filter (runsIn s changed)).map some).Nodup :=
    ((List.nodup_finRange 4).filter _).map (Option.some_injective _)
  unfold handedTo
  split
  · exact List.nodup_cons.mpr ⟨by simp, runs⟩
  · exact runs

/-- An event whose acts come in an open order runs them in some order, with the count of open orders raised. -/
theorem anyOrderEv_runs (acts : List (Ev → Ev)) (e : Ev) : ∃ n l, l.Perm acts ∧ anyOrderEv acts e = runAll l (e.counted n) := by
  match acts with
  | [] => exact ⟨e.st.choices, [], .nil, rfl⟩
  | [f] => exact ⟨e.st.choices, [f], .refl _, rfl⟩
  | f :: g :: more => exact ⟨_, _, permute_perm Config.orderChoice e.st.choices (f :: g :: more), rfl⟩

/-- A row of acts named by tags runs in some order of the tags. -/
theorem anyOrderEv_tags {α : Type} (act : α → Ev → Ev) (tags : List α) (e : Ev) : ∃ n, ∃ l : List α, l.Perm tags ∧
    anyOrderEv (tags.map act) e = runAll (l.map act) (e.counted n) := by
  obtain ⟨n, l, perm, runs⟩ := anyOrderEv_runs (tags.map act) e
  have named : Relation.Comp (fun a b => a = List.map act b) List.Perm l tags := by
    rw [List.eq_map_comp_perm]
    exact perm
  obtain ⟨l', rfl, perm'⟩ := named
  exact ⟨n, l', perm', runs⟩

end Sys2Proof.Machine
end

section
/-! PROOFS. The parts of a hand-on, one after another: what is made of channels, SENDER flags and conditions (R49, R68, R133, R143). -/

namespace Sys2Proof.Machine

/-! The operands that each part reaches. -/

/-- The operand takes its new value in this part (R68). -/
def reachedBy (changed : Fin 16 → Bool) : Option (Fin 4) → OperandKind → Nat → Bool
  | none => affectsSlots changed
  | some g => affectsGauge g

theorem reachedBy_unique {changed : Fin 16 → Bool} {a b : Option (Fin 4)} {kind : OperandKind} {index : Nat}
    (h : reachedBy changed a kind index = true) (h' : reachedBy changed b kind index = true) : a = b := by
  unfold reachedBy at h h'
  cases a <;> cases b <;>
    simp only [affectsSlots, affectsGauge, Bool.and_eq_true, decide_eq_true_eq] at h h'
  · rfl
  · exact absurd (h.1.symm.trans h'.1) (by decide)
  · exact absurd (h.1.symm.trans h'.1) (by decide)
  · exact congrArg some (Fin.ext (h.2.symm.trans h'.2))

theorem reachedBy_const (changed : Fin 16 → Bool) (a : Option (Fin 4)) (index : Nat) : reachedBy changed a .const index = false := by
  unfold reachedBy
  cases a <;> simp [affectsSlots, affectsGauge]

/-- The operand has taken its new value in one of these parts. -/
def reachedIn (changed : Fin 16 → Bool) (parts : List (Option (Fin 4))) (kind : OperandKind) (index : Nat) : Bool :=
  parts.any fun a => reachedBy changed a kind index

theorem reachedIn_cons (changed : Fin 16 → Bool) (a : Option (Fin 4)) (parts : List (Option (Fin 4))) (kind : OperandKind) (index : Nat) :
    reachedIn changed (a :: parts) kind index = (reachedBy changed a kind index || reachedIn changed parts kind index) := rfl

theorem reachedIn_const (changed : Fin 16 → Bool) (parts : List (Option (Fin 4))) (index : Nat) :
    reachedIn changed parts .const index = false := by
  unfold reachedIn
  simp [reachedBy_const]

/-- An entry that two parts reach has two live operands (R66, R68). -/
theorem reached_twice {changed : Fin 16 → Bool} {a : Option (Fin 4)} {parts : List (Option (Fin 4))} {e : CondEntry} (fresh : a ∉ parts)
    (now : (reachedBy changed a e.aKind e.aIndex || reachedBy changed a e.bKind e.bIndex) = true)
    (before : (reachedIn changed parts e.aKind e.aIndex || reachedIn changed parts e.bKind e.bIndex) = true) : e.bKind ≠ .const := by
  intro const
  rw [const, reachedBy_const, Bool.or_false] at now
  rw [const, reachedIn_const, Bool.or_false] at before
  obtain ⟨b, mem, reached⟩ := List.any_eq_true.mp before
  exact fresh (reachedBy_unique now reached ▸ mem)

/-- An entry evaluated in one part after others, in the words of all of them: where both reach it, the last evaluation alone counts. -/
theorem condTaken_next {changed : Fin 16 → Bool} {a : Option (Fin 4)} {parts : List (Option (Fin 4))} {s t u : State} {c : Fin 16}
    (fresh : a ∉ parts) (tables : t.tables = s.tables) (before : t.conds[c] = condTaken s t (reachedIn changed parts) c)
    (stands : ∀ kind index, reachedBy changed a kind index = false → operandIn u kind index = operandIn t kind index) :
    condTaken t u (reachedBy changed a) c = condTaken s u (reachedIn changed (a :: parts)) c := by
  unfold condTaken at before ⊢
  simp only [tables, reachedIn_cons]
  cases valid : s.tables.conds[c].valid
  · simp only [valid, Bool.false_and, Bool.false_eq_true, if_false] at before ⊢
    exact before
  · simp only [valid, Bool.true_and] at before ⊢
    by_cases now : (reachedBy changed a s.tables.conds[c].aKind s.tables.conds[c].aIndex ||
        reachedBy changed a s.tables.conds[c].bKind s.tables.conds[c].bIndex) = true
    · rw [if_pos now, if_pos (by simp only [Bool.or_eq_true] at now ⊢; tauto)]
      by_cases twice : (reachedIn changed parts s.tables.conds[c].aKind s.tables.conds[c].aIndex ||
          reachedIn changed parts s.tables.conds[c].bKind s.tables.conds[c].bIndex) = true
      · exact evaluate_live _ _ _ _ _ (reached_twice fresh now twice)
      · rw [before, if_neg twice]
    · rw [if_neg now, before]
      rw [Bool.not_eq_true, Bool.or_eq_false_iff] at now
      rw [stands _ _ now.1, stands _ _ now.2, now.1, now.2]
      rfl

/-! The parts made so far. -/

/-- The channel after its run in the hand-on. -/
def ranTo (s : State) (g : Fin 4) : GaugeLive :=
  gaugeRun s.tables s.tables.gauges[g] s.supply.ign s.supply.vs (sourceValue s g) s.gauges[g]

/-- What these parts of a hand-on have made of `s`. -/
structure State.handedOn (changed : Fin 16 → Bool) (parts : List (Option (Fin 4))) (s t : State) : Prop where
  rest : t.lessRuns = s.lessRuns
  currents : t.currents = s.currents
  gauges : ∀ g : Fin 4, t.gauges[g] = if some g ∈ parts then ranTo s g else s.gauges[g]
  senders : ∀ g : Fin 4, t.faults.isSet .sender g.val =
    if some g ∈ parts then senderAfter s g (ranTo s g) else s.faults.isSet .sender g.val
  conds : ∀ c : Fin 16, t.conds[c] = condTaken s t (reachedIn changed parts) c

theorem handedOn_start (changed : Fin 16 → Bool) (n : Nat) (s : State) : s.handedOn changed [] (s.recounted n) := by
  refine ⟨rfl, rfl, fun g => ?_, fun g => ?_, fun c => ?_⟩
  · rw [if_neg (by simp)]
    rfl
  · rw [if_neg (by simp)]
    rfl
  · unfold condTaken reachedIn
    simp [State.recounted]

/-- The order of the parts plays no part in what they have made. -/
theorem handedOn_of_perm {changed : Fin 16 → Bool} {parts more : List (Option (Fin 4))} {s t : State} (perm : parts.Perm more)
    (h : s.handedOn changed parts t) : s.handedOn changed more t := by
  have reached : reachedIn changed parts = reachedIn changed more := by
    funext kind index
    exact perm.any_eq
  refine ⟨h.rest, h.currents, fun g => ?_, fun g => ?_, fun c => ?_⟩
  · rw [h.gauges g]
    simp only [perm.mem_iff]
  · rw [h.senders g]
    simp only [perm.mem_iff]
  · rw [h.conds c, reached]

/-- The round of the conditions on the slots, after other parts. -/
theorem handedOn_conds {changed : Fin 16 → Bool} {parts : List (Option (Fin 4))} {s t : State} (h : s.handedOn changed parts t)
    (fresh : none ∉ parts) : s.handedOn changed (none :: parts) (evalConds (affectsSlots changed) t) := by
  have same := evalConds_sameOperands (affectsSlots changed) t
  refine ⟨same.rest.trans h.rest, same.currents.trans h.currents, fun g => ?_, fun g => ?_, fun c => ?_⟩
  · rw [same.gauges, h.gauges g]
    simp
  · rw [isSet_of_lessLinks (evalConds_lessLinks (affectsSlots changed) t) .sender g.val (by decide)]
    rw [show _ = t.faults.isSet .sender g.val from rfl, h.senders g]
    simp
  · rw [evalConds_conds, condAfter_eq]
    refine (condTaken_congr _ c rfl rfl ⟨same.rest.symm, same.currents.symm, same.gauges.symm⟩).trans ?_
    exact condTaken_next fresh (fields_of_lessRuns h.rest).1 (h.conds c) fun kind index _ => operandIn_same same kind index

/-- The run of a channel, after other parts. -/
theorem handedOn_run {changed : Fin 16 → Bool} {parts : List (Option (Fin 4))} {s t u : State} {g : Fin 4} (h : s.handedOn changed parts t)
    (fresh : some g ∉ parts) (run : t.channelRun g (sourceValue s g) u) : s.handedOn changed (some g :: parts) u := by
  obtain ⟨tables, slots, supply⟩ := fields_of_lessRuns h.rest
  have old : t.gauges[g] = s.gauges[g] := by rw [h.gauges g, if_neg fresh]
  have flag : t.faults.isSet .sender g.val = s.faults.isSet .sender g.val := by rw [h.senders g, if_neg fresh]
  have new : gaugeRun t.tables t.tables.gauges[g] t.supply.ign t.supply.vs (sourceValue s g) t.gauges[g] = ranTo s g := by
    rw [tables, supply, old]
    rfl
  refine ⟨run.rest.trans h.rest, run.currents.trans h.currents, fun k => ?_, fun k => ?_, fun c => ?_⟩
  · rw [run.gauges, new]
    by_cases own : k = g
    · rw [own, getElem_modifyAt_self, if_pos (by simp)]
    · rw [getElem_modifyAt_ne _ _ _ _ own, h.gauges k]
      simp [own]
  · rw [run.senders, new]
    by_cases own : k = g
    · rw [own, if_pos rfl, if_pos (by simp)]
      unfold senderAfter
      rw [flag, tables, old]
    · rw [if_neg (fun e => own (Fin.ext e)), h.senders k]
      simp [own]
  · rw [run.conds c]
    refine condTaken_next (a := some g) fresh tables (h.conds c) fun kind index apart => ?_
    obtain ⟨_, slots', supply'⟩ := fields_of_lessRuns run.rest
    refine operandIn_congr (fun _ => by rw [slots']) (fun gauge => ?_) supply' run.currents
    rw [run.gauges]
    by_cases inside : index < 4
    · have other : (⟨index, inside⟩ : Fin 4) ≠ g := fun e => by
        have value : index = g.val := congrArg Fin.val e
        simp [reachedBy, affectsGauge, gauge, value] at apart
      have stands := getElem_modifyAt_ne t.gauges g (⟨index, inside⟩ : Fin 4)
        (fun _ => gaugeRun t.tables t.tables.gauges[g] t.supply.ign t.supply.vs (sourceValue s g) t.gauges[g]) other
      rw [Vector.getElem?_eq_getElem inside, Vector.getElem?_eq_getElem inside]
      exact congrArg some stands
    · rw [Vector.getElem?_eq_none (Nat.not_lt.mp inside), Vector.getElem?_eq_none (Nat.not_lt.mp inside)]

theorem handedOn_part {changed : Fin 16 → Bool} {parts : List (Option (Fin 4))} {s : State} {e : Ev} (a : Option (Fin 4))
    (h : s.handedOn changed parts e.st) (fresh : a ∉ parts) : s.handedOn changed (a :: parts) (handOn s changed a e).st := by
  cases a with
  | none => exact handedOn_conds h fresh
  | some g => exact handedOn_run h fresh (runChannel_made g (sourceValue s g) e)

theorem handedOn_runAll (changed : Fin 16 → Bool) (s : State) : ∀ (todo parts : List (Option (Fin 4))) (e : Ev), (todo ++ parts).Nodup →
    s.handedOn changed parts e.st → s.handedOn changed (todo.reverse ++ parts) (runAll (todo.map (handOn s changed)) e).st
  | [], _, _, _, h => h
  | a :: todo, parts, e, nodup, h => by
    obtain ⟨fresh, rest⟩ := List.nodup_cons.mp (List.cons_append ▸ nodup)
    rw [List.mem_append, not_or] at fresh
    have next := handedOn_part a h fresh.2
    have after := handedOn_runAll changed s todo (a :: parts) (handOn s changed a e)
      ((List.perm_middle.nodup_iff).mpr (List.nodup_cons.mpr ⟨by simp [fresh.1, fresh.2], rest⟩)) next
    rw [List.reverse_cons, List.append_assoc]
    exact after

/-- The whole hand-on, in whatever order its parts come (R49). -/
theorem handOnSlots_made (changed : Fin 16 → Bool) (e : Ev) :
    e.st.handedOn changed (handedTo e.st changed) (handOnSlots changed e).st := by
  obtain ⟨n, l, perm, runs⟩ := anyOrderEv_tags (handOn e.st changed) (handedTo e.st changed) e
  rw [handOnSlots_eq, runs]
  have nodup : l.Nodup := perm.nodup_iff.mpr (handedTo_nodup e.st changed)
  have made := handedOn_runAll changed e.st l [] (e.counted n) (by simpa using nodup) (handedOn_start changed n e.st)
  exact handedOn_of_perm (by simpa using (l.reverse_perm).trans perm) made

end Sys2Proof.Machine
end

section
/-! PROOFS. An event of some slots, in the words of the statements (R47, R49, R68, R69, R133, R143). -/

namespace Sys2Proof.Machine

/-! The hand-on in the words of the statements. -/

/-- The operands reached by all parts of a hand-on (R68). -/
theorem reachedIn_handedTo (s : State) (changed : Fin 16 → Bool) (kind : OperandKind) (index : Nat) :
    reachedIn changed (handedTo s changed) kind index =
      ((condsConcerned s (affectsSlots changed) && slotChanged changed kind index) ||
        (decide (kind = .gauge) && (List.finRange 4).any fun g => decide (g.val = index) && runsIn s changed g)) := by
  have runs : (((List.finRange 4).filter (runsIn s changed)).map some).any (fun a => reachedBy changed a kind index) =
      (decide (kind = .gauge) && (List.finRange 4).any fun g => decide (g.val = index) && runsIn s changed g) := by
    rw [List.any_map, List.any_filter]
    by_cases gauge : kind = .gauge
    · rw [decide_eq_true gauge, Bool.true_and]
      refine congrArg (List.any (List.finRange 4)) (funext fun g => ?_)
      simp only [Function.comp, reachedBy, affectsGauge, gauge, decide_true, Bool.true_and, eq_comm (a := index)]
      exact Bool.and_comm _ _
    · rw [decide_eq_false gauge, Bool.false_and, List.any_eq_false]
      intro g _
      simp [reachedBy, affectsGauge, gauge]
  unfold reachedIn handedTo
  rw [List.any_append, runs, ← affectsSlots_eq]
  cases condsConcerned s (affectsSlots changed) <;> simp [reachedBy]

/-- A valid entry is reached by the parts of a hand-on as R68 says. -/
theorem entry_reached (s : State) (changed : Fin 16 → Bool) (c : Fin 16) :
    let e := s.tables.conds[c]
    (e.valid && (reachedIn changed (handedTo s changed) e.aKind e.aIndex || reachedIn changed (handedTo s changed) e.bKind e.bIndex)) =
      (e.valid && (slotsReach s changed e.aKind e.aIndex || slotsReach s changed e.bKind e.bIndex)) := by
  simp only [reachedIn_handedTo]
  unfold slotsReach
  cases valid : s.tables.conds[c].valid
  · rfl
  · cases concerned : condsConcerned s (affectsSlots changed)
    · have apart : ¬ _ := fun r => Bool.eq_false_iff.mp concerned ((anyOf_iff _ _).mpr ⟨c, r⟩)
      simp only [valid, Bool.true_and, Bool.or_eq_true, not_or, Bool.not_eq_true, affectsSlots_eq] at apart
      rw [apart.1, apart.2]
      rfl
    · rfl

/-- The conditions after a hand-on (R68). -/
theorem handedOn_conditions {changed : Fin 16 → Bool} {s t : State} (h : s.handedOn changed (handedTo s changed) t) :
    conditionsFollow s t changed := by
  intro c
  have reached := entry_reached s changed c
  simp only at reached
  rw [h.conds c]
  unfold condTaken
  simp only [reached]

theorem handedOn_gauges {changed : Fin 16 → Bool} {s t : State} (h : s.handedOn changed (handedTo s changed) t) :
    gaugesFollow s t changed := by
  obtain ⟨_, slots, _⟩ := fields_of_lessRuns h.rest
  intro g
  rw [h.gauges g]
  simp only [mem_handedTo_some]
  rcases Option.eq_none_or_eq_some s.tables.gauges[g].source with source | ⟨k, source⟩
  · rw [runsIn_none source, source]
    rfl
  · obtain ⟨runs, value⟩ := runsIn_some changed source
    rw [runs, ranTo, value, slots]
    simp only [source]

theorem handedOn_senders {changed : Fin 16 → Bool} {s t : State} (h : s.handedOn changed (handedTo s changed) t) :
    sendersFollow s t changed := by
  intro g
  rw [h.senders g]
  simp only [mem_handedTo_some]
  rcases Option.eq_none_or_eq_some s.tables.gauges[g].source with source | ⟨k, source⟩
  · rw [runsIn_none source, source]
    rfl
  · obtain ⟨runs, _⟩ := runsIn_some changed source
    rw [runs]
    simp only [source]
    cases ran : changed k
    · rfl
    · rw [h.gauges g, if_pos ((mem_handedTo_some _ _ _).mpr (runs.trans ran))]
      rfl

/-! The edges of a hand-on (R69). -/

/-- A hand-on to no channel is one round of the condition unit. -/
theorem handOnSlots_idle {changed : Fin 16 → Bool} {e : Ev} (idle : ∀ g, runsIn e.st changed g = false) :
    handOnSlots changed e = e.on (evalConds (affectsSlots changed)) := by
  have runs : (List.finRange 4).filter (runsIn e.st changed) = [] := List.filter_eq_nil_iff.mpr fun g _ => by simp [idle g]
  rw [handOnSlots_eq]
  unfold handedTo
  rw [runs]
  cases concerned : condsConcerned e.st (affectsSlots changed)
  · unfold Ev.on
    rw [evalConds_unconcerned _ _ concerned]
    rfl
  · rfl

/-- A hand-on to one channel alone is its run. -/
theorem handOnSlots_single {changed : Fin 16 → Bool} {e : Ev} {g : Fin 4} (runs : runsIn e.st changed g = true)
    (alone : ∀ h, h ≠ g → runsIn e.st changed h = false) (unread : condsConcerned e.st (affectsSlots changed) = false) :
    handOnSlots changed e = runChannel g (sourceValue e.st g) e := by
  have one : handedTo e.st changed = [some g] := by
    refine List.perm_singleton.mp ((List.perm_ext_iff_of_nodup (handedTo_nodup e.st changed) (List.nodup_singleton _)).mpr fun a => ?_)
    rw [List.mem_singleton]
    cases a with
    | none => simp [mem_handedTo_none, unread]
    | some h =>
      rw [mem_handedTo_some, Option.some_inj]
      by_cases own : h = g
      · simp [own, runs]
      · simp [own, alone h own]
  rw [handOnSlots_eq, one]
  rfl

/-- The edges act where no run is made, or one run whose gauge alone is read (R69). -/
theorem handOnSlots_edges (changed : Fin 16 → Bool) (e : Ev) : slotEdgesMove e.st (handOnSlots changed e).st changed := by
  have idle : (∀ g, runsIn e.st changed g = false) → edgesMove e.st (handOnSlots changed e).st := fun idle => by
    rw [handOnSlots_idle idle]
    exact evalConds_edgesMove _ _
  refine ⟨idle, fun g alone unread quiet => ?_⟩
  cases runs : runsIn e.st changed g
  · exact idle fun h => if own : h = g then own ▸ runs else alone h own
  · have unconcerned : condsConcerned e.st (affectsSlots changed) = false := by
      rw [← Bool.not_eq_true]
      unfold condsConcerned
      rw [anyOf_iff]
      rintro ⟨c, reads⟩
      rw [Bool.and_eq_true] at reads
      obtain ⟨valid, reads⟩ := reads
      obtain ⟨a, b⟩ := unread c valid
      rw [affectsSlots_eq, affectsSlots_eq, a, b] at reads
      exact absurd reads (by decide)
    have flag := (handOnSlots_made changed e).senders g
    rw [if_pos ((mem_handedTo_some _ _ _).mpr runs)] at flag
    rw [handOnSlots_single runs alone unconcerned] at quiet flag ⊢
    refine runChannel_edgesMove g (sourceValue e.st g) e fun reports => ?_
    have fault : (ranTo e.st g).state = .fault := (gaugeRun_fault _ _ _ _ _ _).mpr reports
    unfold senderAfter at flag
    simp only [if_pos fault] at flag
    rw [flag] at quiet
    rcases quiet with same | asleep
    · cases set : e.st.faults.isSet .sender g.val <;> simp_all
    · exact .inr (.inr asleep)

end Sys2Proof.Machine
end

section
/-! PROOFS. SAMPLE frames through the SLOTS feed, and their relay offer (R15, R20, R28, R31, R47). -/

namespace Sys2Proof.Machine

/-! What an event of slots reads, and what a relay offer beside it leaves alone. -/

/-- Hubs with the same blocks, currents and SENDER flags. -/
structure State.sameReads (s t : State) : Prop where
  blocks : t.blocks = s.blocks
  currents : t.currents = s.currents
  senders : ∀ i : Nat, t.faults.isSet .sender i = s.faults.isSet .sender i

theorem sameReads_trans {s t u : State} (h : s.sameReads t) (h' : t.sameReads u) : s.sameReads u :=
  ⟨h'.blocks.trans h.blocks, h'.currents.trans h.currents, fun i => (h'.senders i).trans (h.senders i)⟩

theorem offerRelay_sameReads (p : PortId) (f : Frame) (e : Ev) : e.st.sameReads (offerRelay p.opposite (relayed f) e).st := by
  refine ⟨offerRelay_blocks p f e, ?_, fun i => offerRelay_other_isSet p f e .sender i (by decide)⟩
  rw [offerRelay_made]
  split
  · exact currents_of_outs (offerMade_outs p f e.st)
  · exact (reportFault_currents .egress _ 0 (e.on (offerMade p f)) (by decide)).trans (currents_of_outs (offerMade_outs p f e.st))

theorem goodVerdict_sameReads (p : PortId) (s : State) : s.sameReads (goodVerdict p s) :=
  ⟨goodVerdict_blocks p s, currents_of_outs (goodVerdict_outs p s).1, fun i => goodVerdict_isSet p s .sender i (by decide)⟩

theorem finish_sameReads (before : State) (e : Ev) : e.st.sameReads (finish before e) :=
  ⟨finish_blocks before e, currents_of_outs (congrArg State.outs (finish_lessReports before e) :), fun i => by rw [finish_faults_eq]⟩

theorem operandIn_reads {s t : State} (h : s.sameReads t) (kind : OperandKind) (index : Nat) :
    operandIn t kind index = operandIn s kind index := by
  obtain ⟨⟨_, _, _, slots, _⟩, _, gauges, supply, _⟩ := fields_of_blocks h.blocks
  exact operandIn_congr (fun _ => by rw [slots]) (fun _ => by rw [gauges]) supply h.currents

/-! What a SAMPLE frame's delivery makes of the hub (R31, R47, R49). -/

/-- The slots that a SAMPLE frame updates. -/
abbrev slotsTaken (t : Tables) (f out : Frame) (k : Fin 16) : Bool := (laneTaken t.slots[k] f out).isSome

/-- The hub after a SAMPLE frame's delivery, in the words of the statement. -/
structure State.sampled (f out : Frame) (s t : State) : Prop where
  slots : ∀ k : Fin 16, t.slots[k] = slotTaking s.tables.slots[k] (laneTaken s.tables.slots[k] f out) s.slots[k]
  gauges : gaugesFollow s t (slotsTaken s.tables f out)
  conds : conditionsFollow s t (slotsTaken s.tables f out)
  senders : sendersFollow s t (slotsTaken s.tables f out)
  rest : t.tables = s.tables ∧ t.pods = s.pods ∧ t.inputs = s.inputs ∧ t.supply = s.supply ∧ t.mgmt = s.mgmt ∧ t.store = s.store

/-- It is read from blocks, currents and SENDER flags. -/
theorem sampled_congr {f out : Frame} {s t u v : State} (before : s.sameReads u) (after : t.sameReads v) (h : s.sampled f out t) :
    u.sampled f out v := by
  obtain ⟨⟨_, _, tables, slots, pods, inputs⟩, conds, gauges, supply, mgmt, store, _⟩ := fields_of_blocks before.blocks
  obtain ⟨⟨_, _, tables', slots', pods', inputs'⟩, conds', gauges', supply', mgmt', store', _⟩ := fields_of_blocks after.blocks
  have taken : slotsTaken u.tables f out = slotsTaken s.tables f out := by rw [tables]
  refine ⟨?_, ?_, ?_, ?_, ?_⟩
  · rw [tables, slots, slots']
    exact h.slots
  · have follow := h.gauges
    unfold gaugesFollow at follow ⊢
    rw [taken, tables, gauges, supply, slots', gauges']
    exact follow
  · have follow := h.conds
    unfold conditionsFollow conditionsTake slotsReach runsIn at follow ⊢
    simp only [tables, conds, conds', operandIn_reads after]
    exact follow
  · have follow := h.senders
    unfold sendersFollow at follow ⊢
    simp only [tables, gauges, gauges', before.senders, after.senders]
    exact follow
  · rw [tables, tables', pods, pods', inputs, inputs', supply, supply', mgmt, mgmt', store, store']
    exact h.rest

/-- The delivery of a SAMPLE frame (R31). -/
def sampleFeed (f out : Frame) (e : Ev) : Ev := updateSlots (linkValues e.st f.source f.tag f.lanes out.lanes) e

/-- The hub with the slots updated, before the hand-on (R47). -/
def slotsUpdated (f out : Frame) (s : State) : State :=
  { s with slots := tabulate fun k => slotAfter s.tables.slots[k] (laneTaken s.tables.slots[k] f out) s.slots[k] }

theorem sampleFeed_eq (f out : Frame) (e : Ev) :
    sampleFeed f out e = handOnSlots (slotsTaken e.st.tables f out) (e.on (slotsUpdated f out)) := rfl

theorem rest_of_lessRuns {s t : State} (h : t.lessRuns = s.lessRuns) : t.tables = s.tables ∧ t.pods = s.pods ∧ t.inputs = s.inputs ∧
    t.supply = s.supply ∧ t.mgmt = s.mgmt ∧ t.store = s.store :=
  ⟨(congrArg State.tables h :), (congrArg State.pods h :), (congrArg State.inputs h :), (congrArg State.supply h :),
    (congrArg State.mgmt h :), (congrArg State.store h :)⟩

theorem sampleFeed_sampled (f out : Frame) (e : Ev) : e.st.sampled f out (sampleFeed f out e).st := by
  have made := handOnSlots_made (slotsTaken e.st.tables f out) (e.on (slotsUpdated f out))
  rw [← sampleFeed_eq] at made
  refine ⟨fun k => ?_, (handedOn_gauges made :), (handedOn_conditions made :), (handedOn_senders made :), (rest_of_lessRuns made.rest :)⟩
  rw [(fields_of_lessRuns made.rest).2.1]
  exact updated_slots _ e.st k

/-! What the delivery leaves to the offer. -/

theorem sampleFeed_ports (f out : Frame) (e : Ev) (q : PortId) : (sampleFeed f out e).st.port q = e.st.port q := by
  have links := updateSlots_links (linkValues e.st f.source f.tag f.lanes out.lanes) e
  cases q
  · exact congrArg (fun x => x.2.2.1) links
  · exact congrArg (fun x => x.2.2.2.1) links

/-- A run changes no flag but SENDER, and those that links may clear. -/
theorem runChannel_isSet (g : Fin 4) (r : Lane) (e : Ev) (c : FaultClass) (i : Nat) (other : c ≠ .sender ∧ c ≠ .overload ∧ c ≠ .stall) :
    (runChannel g r e).st.faults.isSet c i = e.st.faults.isSet c i := by
  obtain ⟨n, value, order⟩ := runChannel_orders g r e
  simp only at order
  have moved : (channelMoved g r e.st).faults.isSet c i = e.st.faults.isSet c i := by
    unfold channelMoved
    simp only
    split
    · rw [isSet_clearUnlatched]
      simp [other.1]
    · rfl
  have round : ∀ s : State, (evalConds (affectsGauge g) s).faults.isSet c i = s.faults.isSet c i := fun s =>
    isSet_of_lessLinks (s := ({ s with conds := tabulate (condAfter s (affectsGauge g)) } : State)) (evalConds_lessLinks _ s) c i other.2
  have reported : ∀ x : Ev, ((if channelReports g r e.st then reportFault .sender g.val value else id) x).st.faults.isSet c i =
      x.st.faults.isSet c i := by
    intro x
    split
    · exact reportFault_other_isSet c .sender i g.val value x (by decide) other.1 other.2
    · rfl
  rcases order with order | order <;> rw [order]
  · exact (reported _).trans ((round _).trans moved)
  · exact (round _).trans ((reported _).trans moved)

theorem sampleFeed_isSet (f out : Frame) (e : Ev) (c : FaultClass) (i : Nat) (other : c ≠ .sender ∧ c ≠ .overload ∧ c ≠ .stall) :
    (sampleFeed f out e).st.faults.isSet c i = e.st.faults.isSet c i := by
  let x := e.on (slotsUpdated f out)
  obtain ⟨n, l, _, runs⟩ := anyOrderEv_tags (handOn x.st (slotsTaken e.st.tables f out)) (handedTo x.st (slotsTaken e.st.tables f out)) x
  rw [sampleFeed_eq, handOnSlots_eq, runs]
  refine runAll_keeps (fun y : Ev => y.st.faults.isSet c i = e.st.faults.isSet c i) _ _ (fun act mem y hy => ?_) rfl
  obtain ⟨a, _, rfl⟩ := List.mem_map.mp mem
  refine Eq.trans ?_ hy
  cases a with
  | none =>
    exact isSet_of_lessLinks (s := ({ y.st with conds := tabulate (condAfter y.st (affectsSlots (slotsTaken e.st.tables f out))) } : State))
      (evalConds_lessLinks _ y.st) c i other.2
  | some g => exact runChannel_isSet g _ y c i other

theorem sampleFeed_keepsOffer (p : PortId) (f out : Frame) : FeedKeepsOffer p (sampleFeed f out) := fun e =>
  ⟨congrArg PortState.queue (sampleFeed_ports f out e _), congrArg PortState.offerTaken (sampleFeed_ports f out e _),
    sampleFeed_isSet f out e .egress _ (by decide), (sampleFeed_sampled f out e).rest.1⟩

/-- Where no channel runs, the delivery raises nothing. -/
theorem sampleFeed_keepsCaptures (f out : Frame) (s : State) (idle : ∀ g, runsIn s (slotsTaken s.tables f out) g = false) :
    FeedKeepsCaptures s.tables (sampleFeed f out) := by
  intro e tables
  have idle' : ∀ g, runsIn (e.on (slotsUpdated f out)).st (slotsTaken e.st.tables f out) g = false := by
    intro g
    have quiet := idle g
    unfold runsIn at quiet ⊢
    rw [show (e.on (slotsUpdated f out)).st.tables = s.tables from tables, tables]
    exact quiet
  have links := evalConds_lessLinks (affectsSlots (slotsTaken e.st.tables f out)) (slotsUpdated f out e.st)
  rw [sampleFeed_eq, handOnSlots_idle idle']
  exact ⟨(congrArg (fun t : State => t.faults.capture) links :), (congrArg (fun t : State => t.faults.lost) links :),
    (congrArg (fun t : State => t.supply.vs) links :), (congrArg (fun t : State => t.faults.uptime) links :)⟩

/-- Whether the edges of an event of slots have acted is read from tables, conditions, loads and SENDER flags. -/
theorem slotEdgesMove_congr {s t u v : State} {changed : Fin 16 → Bool} (tables : u.tables = s.tables) (conds : u.conds = s.conds)
    (outs : u.outs = s.outs) (flash : u.flash = s.flash) (senders : ∀ i : Nat, u.faults.isSet .sender i = s.faults.isSet .sender i)
    (conds' : v.conds = t.conds) (outs' : v.outs = t.outs) (flash' : v.flash = t.flash)
    (senders' : ∀ i : Nat, v.faults.isSet .sender i = t.faults.isSet .sender i) (h : slotEdgesMove s t changed) :
    slotEdgesMove u v changed := by
  have runs : ∀ g, runsIn u changed g = runsIn s changed g := fun g => by
    unfold runsIn
    rw [tables]
  obtain ⟨idle, single⟩ := h
  refine ⟨fun none => ?_, fun g alone unread quiet => ?_⟩
  · exact edgesMove_congr tables conds outs flash conds' outs' flash' (idle fun g => (runs g).symm.trans (none g))
  · rw [senders', senders, wakesMatrix_of_tables tables] at quiet
    rw [tables] at unread
    exact edgesMove_congr tables conds outs flash conds' outs' flash'
      (single g (fun h other => (runs h).symm.trans (alone h other)) unread quiet)

theorem sampleFeed_edges (f out : Frame) (e : Ev) : slotEdgesMove e.st (sampleFeed f out e).st (slotsTaken e.st.tables f out) :=
  slotEdgesMove_congr rfl rfl rfl rfl (fun _ => rfl) rfl rfl rfl (fun _ => rfl)
    (handOnSlots_edges (slotsTaken e.st.tables f out) (e.on (slotsUpdated f out)))

/-! The delivery beside the offer. -/

/-- The delivery does the same whichever of the two comes first. -/
theorem sampleAndOffer_sampled {p : PortId} {f out : Frame} (offered : Bool) (s : State) {e : Ev} (start : s.sameReads e.st) :
    s.sampled f out (offerAndFeed p out offered (sampleFeed f out) e).st := by
  refine offerAndFeed_feeds out offered (fun e => s.sameReads e.st) (fun e => s.sameReads e.st) (fun e => s.sampled f out e.st) e
    (fun n h => ⟨h.blocks, h.currents, h.senders⟩) (fun e h => h) (fun _ e h => sameReads_trans h (offerRelay_sameReads p out e))
    (fun e h => ?_) (fun _ e h made => ?_) start
  · exact sampled_congr ⟨h.blocks.symm, h.currents.symm, fun i => (h.senders i).symm⟩ ⟨rfl, rfl, fun _ => rfl⟩ (sampleFeed_sampled f out e)
  · exact sampled_congr ⟨rfl, rfl, fun _ => rfl⟩ (offerRelay_sameReads p out _) made

/-- The edges act beside an offer on which no link acts. -/
theorem sampleAndOffer_edges {p : PortId} {f out : Frame} {offered : Bool} {s : State} (quiet : offerQuiet s p offered) {e : Ev}
    (reads : s.sameReads e.st) (offer : s.sameOffer p e.st) (outs : e.st.outs = s.outs) (flash : e.st.flash = s.flash) :
    slotEdgesMove s (offerAndFeed p out offered (sampleFeed f out) e).st (slotsTaken s.tables f out) := by
  have still : offered = true → quietAt p s := fun on raise => quiet (by rw [on]; exact raise)
  refine offerAndFeed_feeds out offered
    (fun e => s.sameReads e.st ∧ s.sameOffer p e.st ∧ e.st.outs = s.outs ∧ e.st.flash = s.flash)
    (fun e => s.sameReads e.st ∧ e.st.outs = s.outs ∧ e.st.flash = s.flash)
    (fun e => slotEdgesMove s e.st (slotsTaken s.tables f out)) e
    (fun n h => ?_) (fun e h => ⟨h.1, h.2.2⟩) (fun on e h => ?_) (fun e h => ?_) (fun on e h made => ?_) ⟨reads, offer, outs, flash⟩
  · obtain ⟨⟨blocks, currents, senders⟩, ⟨queue, taken, flag, tables⟩, outs, flash⟩ := h
    exact ⟨⟨blocks, currents, senders⟩, ⟨queue, taken, flag, tables⟩, outs, flash⟩
  · obtain ⟨reads, offer, outs, flash⟩ := h
    obtain ⟨outs', flash', _⟩ := offerRelay_quiet p out e (quietAt_of_sameOffer offer (still on))
    exact ⟨sameReads_trans reads (offerRelay_sameReads p out e), outs'.trans outs, flash'.trans flash⟩
  · obtain ⟨reads, outs, flash⟩ := h
    obtain ⟨⟨_, _, tables, _⟩, conds, _⟩ := fields_of_blocks reads.blocks
    have edges := sampleFeed_edges f out e
    rw [tables] at edges
    exact slotEdgesMove_congr tables.symm conds.symm outs.symm flash.symm (fun i => (reads.senders i).symm) rfl rfl rfl (fun _ => rfl) edges
  · obtain ⟨_, offer, _⟩ := h
    have after := sameOffer_trans offer (sampleFeed_keepsOffer p f out e)
    obtain ⟨outs', flash', flags'⟩ := offerRelay_quiet p out (sampleFeed f out e) (quietAt_of_sameOffer after (still on))
    obtain ⟨_, conds', _⟩ := fields_of_blocks (offerRelay_blocks p out (sampleFeed f out e))
    exact slotEdgesMove_congr rfl rfl rfl rfl (fun _ => rfl) conds' outs' flash' (fun i => flags' .sender i (by decide)) made

/-- Settles O24: the offer and the delivery touch different parts, and what the parts of the delivery make shows no order. -/
theorem sampleFramesUpdateTheSlots : Obligations.SampleFramesUpdateTheSlots := by
  unfold Obligations.SampleFramesUpdateTheSlots
  intro s p f e running arriving decided feed kind offered taken
  let out := leavesAs s.tables e f
  let start : Ev := { st := goodVerdict p s, reply := none, faults := [] }
  have fed : feedAction s.node e.feed f out = [sampleFeed f out] := by
    unfold feedAction
    rw [feed, kind]
    rfl
  have keeps : consumed s.node e.feed f = false := by simp [consumed, feed]
  have run := exec_frameBoundary_fed running arriving decided keeps fed
  have verdict := goodVerdict_sameOffer p s
  have reads := goodVerdict_sameReads p s
  obtain ⟨outs, flash, capture, lost⟩ := goodVerdict_outs p s
  obtain ⟨_, _, _, supply, _, _, uptime⟩ := fields_of_blocks (goodVerdict_blocks p s)
  let ended := offerAndFeed p out offered (sampleFeed f out) start
  have shows : s.shows p out offered ended.st := offerAndFeed_shows (sampleFeed_keepsOffer p f out) out offered s start verdict
  obtain ⟨queue, shown⟩ := finish_shows s ended shows
  have made : s.sampled f out (finish s ended) :=
    sampled_congr ⟨rfl, rfl, fun _ => rfl⟩ (finish_sameReads s ended) (sampleAndOffer_sampled offered s reads)
  have faults : (finish s ended).faults = ended.st.faults := finish_faults_eq s ended
  refine ⟨finish s ended, run, made.slots, made.gauges, made.conds, made.senders, fun quiet => ?_, ?_, shown, fun idle => ?_, made.rest⟩
  · have whole := finish_lessReports s ended
    exact slotEdgesMove_congr rfl rfl rfl rfl (fun _ => rfl) (congrArg State.conds whole :) (congrArg State.outs whole :)
      (congrArg State.flash whole :) (fun i => congrArg (fun x : FaultState => x.isSet .sender i) faults) (sampleAndOffer_edges quiet reads verdict outs flash)
  · rw [leavesAs_hops] at queue
    exact queue
  · have captures := offerAndFeed_captures (sampleFeed_keepsOffer p f out) out offered s (sampleFeed_keepsCaptures f out s idle) start verdict
      capture lost (congrArg SupplyState.vs supply) uptime
    exact (congrArg (fun x : FaultState => (x.capture, x.lost)) faults).trans captures

end Sys2Proof.Machine
end

section
/-! PROOFS. A frame that no entry matches (R23): its relay offer alone (R11, R15, R28). -/

namespace Sys2Proof.Machine

/-- The search finds nothing where no entry matches (R22). -/
theorem findEntry_unmatched {t : Tables} {p : PortId} {f : Frame} (misses : ∀ i : Fin 32, ¬ keyedOn t.matches_[i] p f) :
    findEntry t p f = none := by
  unfold findEntry
  rw [List.find?_eq_none]
  intro e he
  obtain ⟨i, hi, rfl⟩ := Vector.mem_iff_getElem.mp (Vector.mem_toList_iff.mp he)
  rw [matchesFrame_iff]
  exact misses ⟨i, hi⟩

/-- The actions of a frame that no entry matches: its relay offer alone (R23). -/
theorem arrivalActions_unmatched {u : State} {p : PortId} {f : Frame} (notOurs : ¬ forThisHub u f)
    (misses : ∀ i : Fin 32, ¬ keyedOn u.tables.matches_[i] p f) : arrivalActions u p f = relayAction p f := by
  unfold forThisHub at notOurs
  unfold arrivalActions
  rw [findEntry_unmatched misses, if_neg (fun c => notOurs ⟨c.1, .inl c.2⟩), if_neg (fun c => notOurs ⟨c.1, .inr c.2⟩)]

/-- The frame boundary of a frame that no entry matches (R10, R23). -/
theorem exec_frameBoundary_unmatched {s : State} {p : PortId} {f : Frame} (running : s.inReset = false)
    (arriving : s.arriving p = some f) (notOurs : ¬ forThisHub s f) (misses : ∀ i : Fin 32, ¬ keyedOn s.tables.matches_[i] p f) :
    exec (.frameBoundary p) s =
      .next (finish s (anyOrderEv (relayAction p f) { st := goodVerdict p s, reply := none, faults := [] })) := by
  rw [exec_frameBoundary_good s p f running arriving, arrival,
    arrivalActions_unmatched (by unfold forThisHub; rw [goodVerdict_node]; exact notOurs) (by rw [goodVerdict_tables]; exact misses)]

/-- A full queue takes no report at the end of an event (R13, R16). -/
theorem finish_full (before : State) (e : Ev) (q : PortId) (full : (e.st.port q).queue.length = 8) :
    ((finish before e).port q).queue = (e.st.port q).queue := by
  obtain ⟨reports, _, port, room⟩ := finish_reportsPut before e q
  rw [port] at room ⊢
  simp only [List.length_append] at room
  have empty : reports = [] := List.eq_nil_of_length_eq_zero (by omega)
  simp [empty]

/-- An offer to a full queue is heard of by its EGRESS flag, and but for what a link does by nothing else (R15, R160). -/
theorem discardedOffer_heard (s u : State) (q : PortId) (full : (u.port q).queue.length = 8) :
    let t := finish s (reportFault .egress (portIndex q) 0 { st := u, reply := none, faults := [] })
    t.bystanders = u.bystanders ∧ (t.port q).queue = (u.port q).queue ∧
      t.faults.isSet .egress (portIndex q) = (u.faults.isSet .egress (portIndex q) || u.tables.hub.detects .egress) := by
  intro t
  let e : Ev := { st := u, reply := none, faults := [] }
  have whole : t.lessReports = (reportFault .egress (portIndex q) 0 e).st.lessReports := finish_lessReports _ _
  have loads := reportFault_lessLoads .egress (portIndex q) 0 e (by decide)
  have port : ((reportFault .egress (portIndex q) 0 e).st.port q).queue = (u.port q).queue := by
    cases q
    · exact (congrArg (fun x : State => x.fore.queue) loads :)
    · exact (congrArg (fun x : State => x.aft.queue) loads :)
  refine ⟨?_, (finish_full s _ q (by rw [port, full])).trans port, ?_⟩
  · exact (congrArg (fun x : State => x.lessLoads.lessConds.lessGauges) whole).trans
      (congrArg (fun x : State => x.lessReports.lessConds.lessGauges) loads :)
  · rw [finish_faults_eq, reportFault_sets .egress (portIndex q) 0 e (portIndex_lt q) (by decide)]

/-- The hub that has discarded an offer for a full queue, its EGRESS report apart (R15). -/
abbrev offerDiscarded (p : PortId) (u : State) : State := u.setPort p.opposite { u.port p.opposite with offerTaken := false }

/-- A frame that no entry matches, offered to a full queue (R15, R23). -/
theorem exec_frameBoundary_unmatched_full {s : State} {p : PortId} {f : Frame} (running : s.inReset = false)
    (arriving : s.arriving p = some f) (notOurs : ¬ forThisHub s f) (misses : ∀ i : Fin 32, ¬ keyedOn s.tables.matches_[i] p f)
    (hops : f.hops ≠ 0) (full : (s.port p.opposite).queue.length = 8) : exec (.frameBoundary p) s =
      .next (finish s (reportFault .egress (portIndex p.opposite) 0
        { st := offerDiscarded p (goodVerdict p s), reply := none, faults := [] })) := by
  have noRoom : ¬ offerHasRoom (goodVerdict p s) p := by simp [offerHasRoom, full]
  rw [exec_frameBoundary_unmatched running arriving notOurs misses, relayAction, if_neg hops]
  simp only [anyOrderEv, offerRelay_made, if_neg noRoom, Ev.on, offerMade_full f noRoom]

/-- Settles O21: the one action of an unmatched frame is its relay offer, or none where it has no hops left. -/
theorem unmatchedFramesPassOn : Obligations.UnmatchedFramesPassOn := by
  unfold Obligations.UnmatchedFramesPassOn
  intro s p f running arriving notOurs misses u
  have run := exec_frameBoundary_unmatched running arriving notOurs misses
  have good := portsAndFlags_goodVerdict p s
  unfold relayAction at run
  refine ⟨fun hops => ?_, fun hops room => ?_, fun hops full => ?_⟩
  · rw [run, if_pos hops]
    exact congrArg _ (afterNeed_portsAndFlags good)
  · have room : offerHasRoom u p := by simpa [u, offerHasRoom] using room
    rw [if_neg hops] at run
    simp only [anyOrderEv, offerRelay_made] at run
    rw [run, if_pos room]
    exact congrArg _ ((afterNeed_portsAndFlags (portsAndFlags_trans good (portsAndFlags_offerMade p f u))).trans (if_pos room))
  · intro v
    have run := exec_frameBoundary_unmatched_full running arriving notOurs misses hops full
    have flag : v.faults.isSet .egress (portIndex p.opposite) = s.faults.isSet .egress (portIndex p.opposite) := by
      rw [State.setPort_faults]
      exact goodVerdict_isSet p s .egress _ (by decide)
    have queue : (v.port p.opposite).queue = (s.port p.opposite).queue := by simp [v, u]
    have tables : v.tables = s.tables := by simp [v, u]
    refine ⟨fun quiet => ?_, ⟨_, run, ?_⟩, fun clear detects asleep made => ?_⟩
    · rw [run, finish_ignored s v .egress _ 0 (by rw [flag, tables]; exact quiet)]
      exact congrArg _ (afterNeed_portsAndFlags (portsAndFlags_trans good (portsAndFlags_setPort u _ _)))
    · have heard := discardedOffer_heard s v p.opposite (by rw [queue, full])
      rwa [queue, flag, tables] at heard
    · have made : v.copiesMade :=
        onward_copiesMade (onward_trans (goodVerdict_onward p s) (setPort_receiver_onward _ p.opposite _ rfl rfl)) made
      rw [run]
      exact congrArg _ (finish_raised s v .egress (portIndex p.opposite) 0 none made (flag.trans clear) (by rw [tables, detects])
        ((wakesMatrix_of_tables tables _).trans asleep) (by decide))

end Sys2Proof.Machine
end

section
/-! PROOFS. The fields of the tables as numbers (R178), IDENT and READ (R175, R176). -/

namespace Sys2Proof.Machine

/-! The checks of an address (R176). -/

/-- The directory has tables 0 to 9. -/
theorem directory_none_iff (table : Nat) : directory[table]? = none ↔ 9 < table := by
  rw [List.getElem?_eq_none_iff]
  exact Nat.succ_le_iff

/-- The entries and fields of a table of the directory. -/
theorem directory_some (table : Nat) (h : table ≤ 9) : directory[table]? = some (tableEntries table, tableFields table) := by
  interval_cases table <;> rfl

/-- The status of an address is the directory's. -/
theorem addressStatus_code (table index field : Nat) : (addressStatus table index field).code = addressCode table index field := by
  unfold addressStatus addressCode
  by_cases h : 9 < table
  · rw [if_pos h, (directory_none_iff table).mpr h]
    rfl
  · rw [if_neg h, directory_some table (by omega)]
    simp only
    split_ifs <;> rfl

theorem code_eq_zero (status : Status) : status.code = 0 ↔ status = .ok := by
  cases status <;> decide

theorem addressStatus_ok_iff (table index field : Nat) : addressStatus table index field = .ok ↔ addressCode table index field = 0 := by
  rw [← addressStatus_code, code_eq_zero]

/-- An address of the directory names a table, an entry and a field. -/
theorem addressCode_eq_zero (table index field : Nat) :
    addressCode table index field = 0 ↔ table ≤ 9 ∧ index < tableEntries table ∧ field < tableFields table := by
  rw [← addressStatus_ok_iff]
  unfold addressStatus
  split_ifs <;> simp <;> omega

/-! The numbers of a curve's points (R36). -/

/-- The numbers of some points in turn: the x and the y of each. -/
def pointNumbers (l : List Point) : List Nat := l.flatMap fun p => [p.x, p.y]

@[simp] theorem pointNumbers_cons (p : Point) (l : List Point) : pointNumbers (p :: l) = p.x :: p.y :: pointNumbers l := rfl

@[simp] theorem pointNumbers_length (l : List Point) : (pointNumbers l).length = 2 * l.length := by
  induction l with
  | nil => rfl
  | cons p l ih => simp only [pointNumbers_cons, List.length_cons, ih]; omega

theorem pointNumbers_x : ∀ (l : List Point) (i : Nat), (pointNumbers l)[2 * i]? = (l[i]?).map Point.x
  | [], _ => by simp [pointNumbers]
  | _ :: _, 0 => rfl
  | _ :: l, i + 1 => pointNumbers_x l i

theorem pointNumbers_y : ∀ (l : List Point) (i : Nat), (pointNumbers l)[2 * i + 1]? = (l[i]?).map Point.y
  | [], _ => by simp [pointNumbers]
  | _ :: _, 0 => rfl
  | _ :: l, i + 1 => pointNumbers_y l i

/-- The numbers of a curve: its count, its points, its state. -/
theorem curveNumbers_eq (c : Curve) :
    curveNumbers c = c.count :: (pointNumbers c.points.toList ++ [placeOf curveStateWords c.state]) := by
  obtain ⟨count, points, state⟩ := c
  cases state <;> rfl

theorem curvePoints_length (c : Curve) : (pointNumbers c.points.toList).length = 18 := by simp

/-- Field 2i + 1 of a curve is x of point i, field 2i + 2 its y. -/
theorem pointOfField_x (i : Nat) (h : i < 9) : pointOfField (2 * i + 1) = some (⟨i, h⟩, false) := by
  unfold pointOfField
  rw [dif_pos (by omega)]
  simp

theorem pointOfField_y (i : Nat) (h : i < 9) : pointOfField (2 * i + 2) = some (⟨i, h⟩, true) := by
  unfold pointOfField
  rw [dif_pos (by omega)]
  simp
  omega

/-- The fields of a curve: count, an x, a y, the state, or none. -/
theorem curveField_cases (field : Nat) :
    field = 0 ∨ (∃ i, i < 9 ∧ field = 2 * i + 1) ∨ (∃ i, i < 9 ∧ field = 2 * i + 2) ∨ field = 19 ∨ 20 ≤ field := by
  rcases Nat.even_or_odd' field with ⟨k, even | odd⟩
  · by_cases small : 1 ≤ k ∧ k ≤ 9
    · exact .inr (.inr (.inl ⟨k - 1, by omega, by omega⟩))
    · omega
  · by_cases small : k < 9
    · exact .inr (.inl ⟨k, small, odd⟩)
    · omega

/-! READ of each kind of entry returns the number of that field (R176, R178). -/

theorem MatchEntry.readField_eq (e : MatchEntry) (field : Nat) : e.readField field = (matchNumbers e)[field]? := by
  obtain ⟨valid, kind, source, tag, port, disposition, curve, scope, feed⟩ := e
  match field with
  | 0 => cases valid <;> rfl
  | 1 => rcases kind with _ | kind
         · rfl
         · cases kind <;> rfl
  | 2 => cases source <;> rfl
  | 3 => cases tag <;> rfl
  | 4 => rcases port with _ | port
         · rfl
         · cases port <;> rfl
  | 5 => cases disposition <;> rfl
  | 6 => rfl
  | 7 => cases scope <;> rfl
  | 8 => cases feed with
    | none => rfl
    | slots => rfl
    | obey => rfl
    | pod p => fin_cases p <;> rfl
  | _ + 9 => rfl

theorem Curve.readField_eq (c : Curve) (field : Nat) : c.readField field = (curveNumbers c)[field]? := by
  have points := curvePoints_length c
  rw [curveNumbers_eq]
  unfold Curve.readField
  rcases curveField_cases field with rfl | ⟨i, hi, rfl⟩ | ⟨i, hi, rfl⟩ | rfl | beyond
  · rfl
  · rw [if_neg (by omega), if_neg (by omega), pointOfField_x i hi, List.getElem?_cons_succ, List.getElem?_append_left (by omega),
      pointNumbers_x]
    simp [hi]
  · rw [if_neg (by omega), if_neg (by omega), pointOfField_y i hi, List.getElem?_cons_succ, List.getElem?_append_left (by omega),
      pointNumbers_y]
    simp [hi]
  · rw [if_neg (by omega), if_pos rfl, List.getElem?_cons_succ, List.getElem?_append_right (by omega), points]
    rfl
  · rw [if_neg (by omega), if_neg (by omega), List.getElem?_eq_none (by simp; omega)]
    unfold pointOfField
    rw [dif_neg (by omega)]

theorem SlotConfig.readField_eq (c : SlotConfig) (field : Nat) : c.readField field = (slotNumbers c)[field]? := by
  obtain ⟨binding, node, tag, lane, take, input, timeout, ceiling⟩ := c
  match field with
  | 0 => cases binding <;> rfl
  | 4 => cases take <;> rfl
  | 1 | 2 | 3 | 5 | 6 | 7 => rfl
  | _ + 8 => rfl

theorem CondEntry.readField_eq (c : CondEntry) (field : Nat) : c.readField field = (condNumbers c)[field]? := by
  obtain ⟨valid, aKind, aIndex, bKind, bIndex, predicate, hysteresis⟩ := c
  match field with
  | 0 => cases valid <;> rfl
  | 1 => cases aKind <;> rfl
  | 3 => cases bKind <;> rfl
  | 5 => cases predicate <;> rfl
  | 2 | 4 | 6 => rfl
  | _ + 7 => rfl

theorem LinkEntry.readField_eq (l : LinkEntry) (field : Nat) : l.readField field = (linkNumbers l)[field]? := by
  obtain ⟨valid, event, index, edge, target, verb, level, guarded, sense⟩ := l
  match field with
  | 0 => cases valid <;> rfl
  | 1 => cases event <;> rfl
  | 3 => cases edge <;> rfl
  | 5 => cases verb <;> rfl
  | 7 => cases guarded <;> rfl
  | 8 => cases sense <;> rfl
  | 2 | 4 | 6 => rfl
  | _ + 9 => rfl

theorem LoadEntry.readField_eq (l : LoadEntry) (field : Nat) : l.readField field = (loadNumbers l)[field]? := by
  obtain ⟨kind, side, domain, shedClass, ramp, mask, imin, imax, stallLimit, ordersAllowed⟩ := l
  match field with
  | 0 => cases kind <;> rfl
  | 1 => cases side <;> rfl
  | 2 => cases domain <;> rfl
  | 9 => cases ordersAllowed <;> rfl
  | 3 | 4 | 5 | 6 | 7 | 8 => rfl
  | _ + 10 => rfl

theorem Profile.readField_eq (p : Profile) (field : Nat) : p.readField field = (profileNumbers p)[field]? := by
  obtain ⟨⟨_, setup⟩, ⟨_, pulse⟩, ⟨_, cycle⟩, ⟨_, failcycle⟩, ⟨_, gap⟩, release⟩ := p
  match field with
  | 1 => cases setup <;> rfl
  | 3 => cases pulse <;> rfl
  | 5 => cases cycle <;> rfl
  | 7 => cases failcycle <;> rfl
  | 9 => cases gap <;> rfl
  | 10 => cases release <;> rfl
  | 0 | 2 | 4 | 6 | 8 => rfl
  | _ + 11 => rfl

theorem GaugeEntry.readField_eq (g : GaugeEntry) (field : Nat) : g.readField field = (gaugeNumbers g)[field]? := by
  obtain ⟨source, curve, damping, vz, vfs, policy, mark⟩ := g
  match field with
  | 0 => cases source <;> rfl
  | 1 => cases curve <;> rfl
  | 5 => cases policy <;> rfl
  | 2 | 3 | 4 | 6 => rfl
  | _ + 7 => rfl

/-- The list of a table of four. -/
theorem toList_four {α : Type} (v : Vector α 4) : v.toList = [v[0], v[1], v[2], v[3]] := by
  match v with
  | ⟨⟨[_, _, _, _]⟩, _⟩ => rfl

/-- The numbers of the hub table, its fan duties one by one. -/
theorem hubNumbers_eq (h : HubTable) : hubNumbers h =
    [h.originHops.toNat, placeOf reportPortWords h.reportPort, h.refresh, h.debounce, h.fanDuty[0], h.fanDuty[1], h.fanDuty[2],
     h.fanDuty[3], h.fanSlew, h.fanShedCap, h.uv, h.ov, h.venter, h.vrestore, h.enterDwell, h.restoreDwell, h.profileLeft.val,
     h.profileRight.val, h.profileHazard.val, placeOf boolWords h.ordersToFlasher, codeOr255 h.teachGauge, h.detect.toNat,
     h.latch.toNat] := by
  have port : ∀ p : ReportPort, (match p with | .fore => 0 | .aft => 1 | .both => 2) = placeOf reportPortWords p :=
    fun p => by cases p <;> rfl
  have flag : ∀ b, yesNo b = placeOf boolWords b := fun b => by cases b <;> rfl
  have gauge : ∀ g : Option (Fin 4), orNone g = codeOr255 g := fun g => by cases g <;> rfl
  unfold hubNumbers
  rw [toList_four, flag, gauge, ← port]
  rfl

theorem HubTable.readField_eq (h : HubTable) (field : Nat) : h.readField field = (hubNumbers h)[field]? := by
  rw [hubNumbers_eq]
  match field with
  | 0 | 1 | 2 | 3 | 4 | 5 | 6 | 7 | 8 | 9 | 10 | 11 | 12 | 13 | 14 | 15 | 16 | 17 | 18 | 19 | 20 | 21 | 22 => rfl
  | _ + 23 => rfl

/-- READ of an entry of a table, and the numbers of that entry. -/
theorem bind_readField {α : Type} {read : α → Nat → Option Nat} {numbers : α → List Nat} (field : Nat)
    (reads : ∀ e, read e field = (numbers e)[field]?) (entry : Option α) :
    (entry.bind fun e => read e field) = (entry.elim [] numbers)[field]? := by
  cases entry with
  | none => rfl
  | some e => exact reads e

/-- READ returns the number of the field, by its place in the field list of its table (R176, R178). -/
theorem readField_eq (t : Tables) (table index field : Nat) : t.readField table index field = (entryNumbers t table index)[field]? := by
  match table with
  | 0 => exact bind_readField field (MatchEntry.readField_eq · field) _
  | 1 => exact bind_readField field (Curve.readField_eq · field) _
  | 2 => exact bind_readField field (SlotConfig.readField_eq · field) _
  | 3 =>
    cases h : t.podTimeouts[index]? <;> cases field <;> simp [Tables.readField, entryNumbers, h]
  | 4 => exact bind_readField field (CondEntry.readField_eq · field) _
  | 5 => exact bind_readField field (LinkEntry.readField_eq · field) _
  | 6 => exact bind_readField field (LoadEntry.readField_eq · field) _
  | 7 => exact bind_readField field (Profile.readField_eq · field) _
  | 8 => exact bind_readField field (GaugeEntry.readField_eq · field) _
  | 9 =>
    by_cases h : index = 0 <;> simp [Tables.readField, entryNumbers, h, HubTable.readField_eq]
  | _ + 10 => rfl

/-! Each entry has as many numbers as the directory gives its table fields (R176). -/

theorem curveNumbers_length (c : Curve) : (curveNumbers c).length = 20 := by
  rw [curveNumbers_eq]
  simp

theorem hubNumbers_length (h : HubTable) : (hubNumbers h).length = 23 := by
  rw [hubNumbers_eq]
  rfl

theorem elim_length {α : Type} {n k : Nat} {numbers : α → List Nat} (v : Vector α n) (index : Nat) (h : index < n)
    (each : ∀ e, (numbers e).length = k) : ((v[index]?).elim [] numbers).length = k := by
  rw [Vector.getElem?_eq_getElem h]
  exact each _

theorem entryNumbers_length (t : Tables) (table index : Nat) (known : table ≤ 9) (entry : index < tableEntries table) :
    (entryNumbers t table index).length = tableFields table := by
  match table with
  | 0 => exact elim_length _ _ entry fun _ => rfl
  | 1 => exact elim_length _ _ entry curveNumbers_length
  | 2 => exact elim_length _ _ entry fun _ => rfl
  | 3 => exact elim_length _ _ entry fun _ => rfl
  | 4 => exact elim_length _ _ entry fun _ => rfl
  | 5 => exact elim_length _ _ entry fun _ => rfl
  | 6 => exact elim_length _ _ entry fun _ => rfl
  | 7 => exact elim_length _ _ entry fun _ => rfl
  | 8 => exact elim_length _ _ entry fun _ => rfl
  | 9 =>
    obtain rfl : index = 0 := Nat.lt_one_iff.mp entry
    exact hubNumbers_length t.hub
  | _ + 10 => omega

/-- An address of the directory has a number (R176). -/
theorem entryNumbers_some (t : Tables) (table index field : Nat) (address : addressCode table index field = 0) :
    ∃ v, (entryNumbers t table index)[field]? = some v := by
  obtain ⟨known, entry, small⟩ := (addressCode_eq_zero table index field).mp address
  exact ⟨_, List.getElem?_eq_getElem (by rwa [entryNumbers_length t table index known entry])⟩

/-! READ (R176). -/

/-- READ of two lanes and more: the status of the address, or the number of the field in two lanes. -/
theorem serveRead_cons (a b : Lane) (more : List Lane) (e : Ev) : serveRead (a :: b :: more) e =
    match addressStatus (a.toNat / 256) (a.toNat % 256) b.toNat with
    | .ok =>
      match (entryNumbers e.st.tables (a.toNat / 256) (a.toNat % 256))[b.toNat]? with
      | some v => (e, some (.ok, twoLanes v))
      | none => refuse .badField e
    | status => refuse status e := by
  unfold serveRead needLanes
  rw [if_neg (by simp)]
  simp only [← readField_eq]
  rfl

theorem exec_read_short (s : State) (r : Requester) (lanes : List Lane) (takes : s.takesRequests) (short : lanes.length < 2) :
    exec (.read r lanes) s = .next (answered s r 1 1 []) :=
  event_refused s r 1 _ .badReq takes (if_pos short) (by decide)

theorem exec_read_refused (s : State) (r : Requester) (a b : Lane) (more : List Lane) (takes : s.takesRequests)
    (bad : addressStatus (a.toNat / 256) (a.toNat % 256) b.toNat ≠ .ok) : exec (.read r (a :: b :: more)) s =
      .next (answered s r 1 (addressCode (a.toNat / 256) (a.toNat % 256) b.toNat) []) := by
  rw [← addressStatus_code]
  refine event_refused s r 1 _ _ takes ?_ (by decide)
  rw [serveRead_cons]
  split
  · contradiction
  · rfl

theorem exec_read_answered (s : State) (r : Requester) (a b : Lane) (more : List Lane) (v : Nat) (takes : s.takesRequests)
    (good : addressStatus (a.toNat / 256) (a.toNat % 256) b.toNat = .ok)
    (number : (entryNumbers s.tables (a.toNat / 256) (a.toNat % 256))[b.toNat]? = some v) :
    exec (.read r (a :: b :: more)) s = .next (answered s r 1 0 (twoLanes v)) := by
  refine (event_request s s r 1 _ .ok (twoLanes v) takes takes.copied ?_ (by decide)).trans ?_
  · rw [serveRead_cons, good]
    simp only [Ev.start, number]
  · rw [afterNeed_still rfl rfl rfl]
    rfl

/-! IDENT (R175). -/

/-- Bit c of the edit states tells whether curve c is in EDIT, and there is no other bit. -/
theorem editStates_bits (t : Tables) : editStates t < 256 ∧
    ∀ c : Fin 8, (editStates t).testBit c.val = decide (t.curves[c].state = .edit) := by
  have bits : editStates t = Nat.ofBits fun c : Fin 8 => decide (t.curves[c].state = .edit) := ofBits_eq_sum _
  rw [bits]
  exact ⟨Nat.ofBits_lt_two_pow _, fun c => by rw [Nat.testBit_ofBits_lt _ _ c.isLt]⟩

/-- The number of the store state (R175). -/
theorem storeState_code (s : State) : (storeState s).code = if committing s then 6 else if s.store.valid then 0 else 11 := by
  unfold storeState
  split_ifs <;> rfl

theorem exec_ident (s : State) (r : Requester) (lanes : List Lane) (takes : s.takesRequests) : exec (.ident r lanes) s =
    .next (answered s r 0 0 [416, 1, laneOf (s.node.toNat * 16 + (storeState s).code), laneOf (editStates s.tables)]) := by
  refine (event_request s s r 0 serveIdent .ok _ takes takes.copied rfl (by decide)).trans ?_
  rw [afterNeed_still rfl rfl rfl]
  rfl

/-- Settles O56: IDENT and READ leave the hub alone, and READ returns the number of its field. -/
theorem identAndReadAnswer : Obligations.IdentAndReadAnswer := by
  unfold Obligations.IdentAndReadAnswer
  intro s r lanes takes
  obtain ⟨small, bits⟩ := editStates_bits s.tables
  refine ⟨⟨laneOf (editStates s.tables), ?_, fun c => ?_, ?_⟩, exec_read_short s r lanes takes, ?_⟩
  · rw [exec_ident s r lanes takes, storeState_code]
  · rw [← bits c, ← BitVec.testBit_toNat, laneOf_toNat, Nat.mod_eq_of_lt (by omega)]
  · rw [laneOf_toNat, Nat.mod_eq_of_lt (by omega)]
    exact small
  · rintro a b more rfl
    refine ⟨fun bad => exec_read_refused s r a b more takes (by rwa [ne_eq, addressStatus_ok_iff]), fun good => ?_⟩
    obtain ⟨v, number⟩ := entryNumbers_some s.tables _ _ _ good
    exact ⟨v, number, exec_read_answered s r a b more v takes ((addressStatus_ok_iff _ _ _).mpr good) number⟩

end Sys2Proof.Machine
end

section
/-! PROOFS. What the WRITE of one field does to the numbers of its entry, and the numbers it takes (R176, R178). -/

namespace Sys2Proof.Machine

/-! The ranges of the fields. -/

/-- The range of the field is one interval: it is no current, in steps of 10 (R89), no word coded 255 (R178), and not the refresh
setting (R177). -/
def plainField (table field : Nat) : Bool :=
  decide (table ≠ 6 ∨ field < 6 ∨ 8 < field) && !decide ((table, field) ∈ [(0, 2), (0, 3), (5, 7), (8, 0), (8, 1), (9, 20)]) &&
    !decide ((table, field) = (9, 2))

/-- The range of a field that is one interval. -/
def plainRange (table field : Nat) : Option (Nat × Nat) :=
  if plainField table field then (fieldRanges.getD table [])[field]? else none

theorem inRange_plain {table field lo hi v : Nat} (h : plainRange table field = some (lo, hi)) :
    inRange table field v = true ↔ lo ≤ v ∧ v ≤ hi := by
  obtain ⟨plain, range⟩ := Option.ite_none_right_eq_some.mp h
  unfold plainField at plain
  rw [Bool.and_eq_true, Bool.and_eq_true, Bool.not_eq_true', Bool.not_eq_true'] at plain
  obtain ⟨⟨steps, coded⟩, refresh⟩ := plain
  unfold inRange
  simp only [range, steps, coded, refresh, Bool.true_or, Bool.and_true, Bool.and_false, Bool.or_false, decide_eq_true_eq]

/-! The effect of a field write on an entry. -/

/-- The field is not the shed class of a load entry whose kind is written, which that write may set to 0 (R89). -/
abbrev standsApart (table field f : Nat) : Prop := f ≠ 3 ∨ field ≠ 0 ∨ table ≠ 6

/-- What a field write makes of an entry: it takes the numbers in range that meet what the entry asks besides, leaves the number
in its field, and every other field as it was, but the shed class at a write of the kind. -/
structure WritesField {α : Type} (table : Nat) (numbers : α → List Nat) (e : α) (field v : Nat) (besides : Prop)
    (written : Option α) : Prop where
  takes : written.isSome = true ↔ inRange table field v = true ∧ besides
  reads : ∀ x, written = some x → (numbers x)[field]? = some v
  keeps : ∀ x, written = some x → ∀ f, f ≠ field → standsApart table field f → (numbers x)[f]? = (numbers e)[f]?

section
variable {α β : Type} {table field v : Nat} {numbers : α → List Nat} {e : α}

/-- A write that sets one number. -/
theorem writesField_of_set {besides : Prop} {written : Option α} (place : field < (numbers e).length)
    (takes : written.isSome = true ↔ inRange table field v = true ∧ besides)
    (sets : ∀ x, written = some x → numbers x = (numbers e).set field v) : WritesField table numbers e field v besides written where
  takes := takes
  reads x h := by rw [sets x h, List.getElem?_set_self place]
  keeps x h f other _ := by rw [sets x h, List.getElem?_set_ne (Ne.symm other)]

/-- A write that takes some numbers as they are. -/
theorem writesField_if {besides c : Prop} [Decidable c] {x : α} (place : field < (numbers e).length)
    (takes : c ↔ inRange table field v = true ∧ besides) (sets : c → numbers x = (numbers e).set field v) :
    WritesField table numbers e field v besides (if c then some x else none) := by
  refine writesField_of_set place ?_ fun y h => ?_
  · rw [← takes]
    split_ifs with h <;> simp [h]
  · obtain ⟨taken, same⟩ := Option.ite_none_right_eq_some.mp h
    rw [← Option.some.inj same, sets taken]

/-- A write that is refused on a condition of its own. -/
theorem writesField_unless {besides c : Prop} [Decidable c] {written : Option α} (h : WritesField table numbers e field v True written)
    (asks : besides ↔ ¬ c) : WritesField table numbers e field v besides (if c then none else written) where
  takes := by
    rw [asks, ← and_true (inRange table field v = true), ← h.takes]
    split_ifs with refused <;> simp [refused]
  reads x taken := h.reads x (Option.ite_none_left_eq_some.mp taken).2
  keeps x taken := h.keeps x (Option.ite_none_left_eq_some.mp taken).2

/-- What an entry asks besides holds by itself. -/
theorem writesField_besides {besides : Prop} {written : Option α} (h : WritesField table numbers e field v True written) (met : besides) :
    WritesField table numbers e field v besides written where
  takes := by rw [h.takes, and_true, and_iff_left met]
  reads := h.reads
  keeps := h.keeps

/-- A write of a number in one interval. -/
theorem writesField_ranged {lo hi : Nat} {x : α} (place : field < (numbers e).length) (sets : numbers x = (numbers e).set field v)
    (range : plainRange table field = some (lo, hi) := by rfl) : WritesField table numbers e field v True (ranged v lo hi x) :=
  writesField_if place (by rw [inRange_plain range, and_true]) fun _ => sets

/-- A write of a number that fits the bits it is kept in. -/
theorem writesField_bits (w : Nat) {hi : Nat} {x : α} (place : field < (numbers e).length)
    (sets : numbers x = (numbers e).set field (BitVec.ofNat w v).toNat) (range : plainRange table field = some (0, hi) := by rfl)
    (fits : hi < 2 ^ w := by decide) : WritesField table numbers e field v True (ranged v 0 hi x) := by
  refine writesField_if place (by rw [inRange_plain range, and_true]) fun taken => ?_
  rw [sets, BitVec.toNat_ofNat, Nat.mod_eq_of_lt (by omega)]

/-- A write of a number that is read as a value of another kind. -/
theorem writesField_map {besides : Prop} {decoded : Option β} {num : β → Nat} {put : β → α} (place : field < (numbers e).length)
    (takes : decoded.isSome = true ↔ inRange table field v = true ∧ besides) (coded : ∀ x, decoded = some x → num x = v)
    (sets : ∀ x, numbers (put x) = (numbers e).set field (num x)) : WritesField table numbers e field v besides (decoded.map put) := by
  refine writesField_of_set place (by rw [Option.isSome_map, takes]) fun y h => ?_
  obtain ⟨x, hx, rfl⟩ := Option.map_eq_some_iff.mp h
  rw [sets x, coded x hx]

theorem wordAt_isSome (words : List β) : (wordAt words v).isSome = true ↔ v < words.length := by
  simp [wordAt]

/-- A word is read back by its place, where each stands once in its list (R178). -/
theorem placeOf_wordAt [DecidableEq β] {words : List β} (once : words.Nodup) {x : β} (h : wordAt words v = some x) : placeOf words x = v := by
  obtain ⟨small, rfl⟩ := List.getElem?_eq_some_iff.mp h
  exact once.idxOf_getElem v small

/-- A write of a word. -/
theorem writesField_word [DecidableEq β] {words : List β} {put : β → α} (place : field < (numbers e).length)
    (sets : ∀ x, numbers (put x) = (numbers e).set field (placeOf words x)) (once : words.Nodup := by decide)
    (nonempty : words ≠ [] := by decide) (range : plainRange table field = some (0, words.length - 1) := by rfl) :
    WritesField table numbers e field v True ((wordAt words v).map put) := by
  have pos := List.length_pos_of_ne_nil nonempty
  refine writesField_map place ?_ (fun x h => placeOf_wordAt once h) sets
  rw [wordAt_isSome, inRange_plain range, and_true]
  omega

/-- A write of an index. -/
theorem writesField_fin {n : Nat} {put : Fin (n + 1) → α} (place : field < (numbers e).length)
    (sets : ∀ x, numbers (put x) = (numbers e).set field x.val) (range : plainRange table field = some (0, n) := by rfl) :
    WritesField table numbers e field v True ((finOf (n + 1) v).map put) := by
  refine writesField_map place ?_ (fun x h => ?_) sets
  · rw [inRange_plain range]
    unfold finOf
    split_ifs <;> simp <;> omega
  · obtain ⟨_, same⟩ := Option.dite_none_right_eq_some.mp h
    rw [← Option.some.inj same]

/-- A write of an index or NONE. -/
theorem writesField_orNone {n : Nat} {put : Option (Fin n) → α} (place : field < (numbers e).length)
    (range : inRange table field v = true ↔ v < n ∨ v = 255) (sets : ∀ x, numbers (put x) = (numbers e).set field (orNone x)) :
    WritesField table numbers e field v True ((ofCodeOr255 n v).map put) := by
  refine writesField_map place ?_ (fun x h => ?_) sets
  · rw [range]
    unfold ofCodeOr255
    split_ifs <;> simp <;> omega
  · unfold ofCodeOr255 at h
    split_ifs at h with isNone small
    · obtain rfl := Option.some.inj h
      exact isNone.symm
    · obtain rfl := Option.some.inj h
      rfl

/-- A write of a key or ANY. -/
theorem writesField_orAny {hi : Nat} {put : Option (BitVec 4) → α} (place : field < (numbers e).length)
    (range : inRange table field v = true ↔ v ≤ hi ∨ v = 255) (sets : ∀ x, numbers (put x) = (numbers e).set field (orAny x))
    (fits : hi < 2 ^ 4 := by decide) :
    WritesField table numbers e field v True ((keyOf hi v).map put) := by
  refine writesField_map place ?_ (fun x h => ?_) sets
  · rw [range]
    unfold keyOf
    split_ifs <;> simp <;> omega
  · unfold keyOf at h
    split_ifs at h with isAny small
    · obtain rfl := Option.some.inj h
      exact isAny.symm
    · obtain rfl := Option.some.inj h
      simp only [orAny, BitVec.toNat_ofNat]
      omega

end

/-- A number without a field in its table is in no range, and no write takes it. -/
theorem writesField_beyond {α : Type} {table field v : Nat} {numbers : α → List Nat} {e : α} {besides : Prop}
    (beyond : (fieldRanges.getD table [])[field]? = none) : WritesField table numbers e field v besides none := by
  refine ⟨?_, fun _ h => (Option.some_ne_none _ h.symm).elim, fun _ h => (Option.some_ne_none _ h.symm).elim⟩
  unfold inRange
  rw [beyond]
  simp

/-! Match entries (R19). -/

theorem inRange_sourceKey (v : Nat) : inRange 0 2 v = true ↔ v ≤ 14 ∨ v = 255 := by
  simp [inRange, fieldRanges]

theorem inRange_tagKey (v : Nat) : inRange 0 3 v = true ↔ v ≤ 15 ∨ v = 255 := by
  simp [inRange, fieldRanges]

theorem feedNumber_set (e : MatchEntry) (x : Feed) :
    matchNumbers { e with feed := x } = (matchNumbers e).set 8 (placeOf feedWords x) := by
  cases x with
  | pod p => fin_cases p <;> rfl
  | none | slots | obey => rfl

theorem matchWrite (e : MatchEntry) (field v : Nat) : WritesField 0 matchNumbers e field v True (e.writeField field v) := by
  have place : ∀ {f} (_ : f < 9 := by decide), f < (matchNumbers e).length := fun h => h
  match field with
  | 0 | 5 | 7 => exact writesField_word place fun x => by cases x <;> rfl
  | 1 | 4 => exact writesField_word place fun x => by rcases x with _ | (_ | _) <;> rfl
  | 2 => exact writesField_orAny place (inRange_sourceKey v) fun _ => rfl
  | 3 => exact writesField_orAny place (inRange_tagKey v) fun _ => rfl
  | 6 => exact writesField_fin place fun _ => rfl
  | 8 => exact writesField_word place (feedNumber_set e)
  | _ + 9 => exact writesField_beyond rfl

end Sys2Proof.Machine
end

section
/-! PROOFS. The field writes of the other tables (R36, R45, R55, R63, R71, R88, R110, R129, R177). -/

namespace Sys2Proof.Machine

/-! Curves (R36, R41). -/

/-- The points with another x, or another y, in one of them. -/
theorem pointNumbers_setX : ∀ (l : List Point) (i v : Nat) (h : i < l.length),
    pointNumbers (l.set i { l[i] with x := v }) = (pointNumbers l).set (2 * i) v
  | _ :: _, 0, _, _ => rfl
  | p :: l, i + 1, v, h => congrArg (fun t => p.x :: p.y :: t) (pointNumbers_setX l i v (Nat.lt_of_succ_lt_succ h))

theorem pointNumbers_setY : ∀ (l : List Point) (i v : Nat) (h : i < l.length),
    pointNumbers (l.set i { l[i] with y := v }) = (pointNumbers l).set (2 * i + 1) v
  | _ :: _, 0, _, _ => rfl
  | p :: l, i + 1, v, h => congrArg (fun t => p.x :: p.y :: t) (pointNumbers_setY l i v (Nat.lt_of_succ_lt_succ h))

/-- A curve with other points whose numbers differ in one place. -/
theorem curveNumbers_points (c : Curve) (points : Vector Point 9) (k v : Nat) (h : k < 18)
    (set : pointNumbers points.toList = (pointNumbers c.points.toList).set k v) :
    curveNumbers { c with points := points } = (curveNumbers c).set (k + 1) v := by
  rw [curveNumbers_eq, curveNumbers_eq, set, List.set_cons_succ, List.set_append_left _ _ (by simpa using h)]

theorem curveNumbers_setX (c : Curve) (i : Fin 9) (v : Nat) :
    curveNumbers { c with points := c.points.set i { c.points[i] with x := v } } = (curveNumbers c).set (2 * i + 1) v := by
  refine curveNumbers_points c _ (2 * i) v (by omega) ?_
  rw [Vector.toList_set]
  exact pointNumbers_setX c.points.toList i v (by simp)

theorem curveNumbers_setY (c : Curve) (i : Fin 9) (v : Nat) :
    curveNumbers { c with points := c.points.set i { c.points[i] with y := v } } = (curveNumbers c).set (2 * i + 2) v := by
  refine curveNumbers_points c _ (2 * i + 1) v (by omega) ?_
  rw [Vector.toList_set]
  exact pointNumbers_setY c.points.toList i v (by simp)

/-- An x is at most 4094, a y at most 4095 (R36). -/
theorem plainRange_x (i : Nat) (h : i < 9) : plainRange 1 (2 * i + 1) = some (0, 4094) := by
  interval_cases i <;> rfl

theorem plainRange_y (i : Nat) (h : i < 9) : plainRange 1 (2 * i + 2) = some (0, 4095) := by
  interval_cases i <;> rfl

theorem curveWrite (c : Curve) (field v : Nat) : WritesField 1 curveNumbers c field v True (c.writeField field v) := by
  have place : ∀ {f} (_ : f < 20 := by decide), f < (curveNumbers c).length := fun h => (curveNumbers_length c).symm ▸ h
  unfold Curve.writeField
  rcases curveField_cases field with rfl | ⟨i, hi, rfl⟩ | ⟨i, hi, rfl⟩ | rfl | beyond
  · exact writesField_ranged place rfl
  · rw [if_neg (by omega), pointOfField_x i hi]
    exact writesField_ranged (place (by omega)) (curveNumbers_setX c ⟨i, hi⟩ v) (plainRange_x i hi)
  · rw [if_neg (by omega), pointOfField_y i hi]
    exact writesField_ranged (place (by omega)) (curveNumbers_setY c ⟨i, hi⟩ v) (plainRange_y i hi)
  · exact writesField_beyond rfl
  · have noPoint : pointOfField field = none := dif_neg (by omega)
    rw [if_neg (by omega), noPoint]
    exact writesField_beyond (List.getElem?_eq_none (Nat.le_trans (by decide) beyond))

/-! Slot configurations (R45). -/

theorem slotWrite (c : SlotConfig) (field v : Nat) : WritesField 2 slotNumbers c field v True (c.writeField field v) := by
  have place : ∀ {f} (_ : f < 8 := by decide), f < (slotNumbers c).length := fun h => h
  match field with
  | 0 | 4 => exact writesField_word place fun x => by cases x <;> rfl
  | 1 | 2 => exact writesField_bits 4 place rfl
  | 5 => exact writesField_fin place fun _ => rfl
  | 3 | 6 | 7 => exact writesField_ranged place rfl
  | _ + 8 => exact writesField_beyond rfl

/-! Pod timeouts (R55). -/

theorem podTimeoutWrite (timeout v : Nat) : WritesField 3 (fun x => [x]) timeout 0 v True (ranged v 0 255 v) :=
  writesField_ranged Nat.one_pos rfl

/-! Condition entries (R63). -/

theorem conditionWrite (c : CondEntry) (field v : Nat) : WritesField 4 condNumbers c field v True (c.writeField field v) := by
  have place : ∀ {f} (_ : f < 7 := by decide), f < (condNumbers c).length := fun h => h
  match field with
  | 0 | 1 | 3 | 5 => exact writesField_word place fun x => by cases x <;> rfl
  | 2 | 4 | 6 => exact writesField_ranged place rfl
  | _ + 7 => exact writesField_beyond rfl

/-! Links (R71). -/

theorem inRange_guard (v : Nat) : inRange 5 7 v = true ↔ v < 16 ∨ v = 255 := by
  simp [inRange, fieldRanges]
  omega

theorem linkWrite (l : LinkEntry) (field v : Nat) : WritesField 5 linkNumbers l field v True (l.writeField field v) := by
  have place : ∀ {f} (_ : f < 9 := by decide), f < (linkNumbers l).length := fun h => h
  match field with
  | 0 | 1 | 3 | 5 | 8 => exact writesField_word place fun x => by cases x <;> rfl
  | 2 | 6 => exact writesField_ranged place rfl
  | 4 => exact writesField_fin place fun _ => rfl
  | 7 => exact writesField_orNone place (inRange_guard v) fun _ => rfl
  | _ + 9 => exact writesField_beyond rfl

/-! Load entries (R88, R89). -/

/-- A kind that is never shed takes no shed class but 0 (R89). -/
@[simp] abbrev LoadEntry.mayTake (l : LoadEntry) (field v : Nat) : Prop := field = 3 → l.kind.neverShed = true → v = 0

/-- A current is taken up to 20000 in steps of 10 (R89). -/
theorem currentOk_iff (field v : Nat) (h : field = 6 ∨ field = 7 ∨ field = 8) : currentOk v = true ↔ inRange 6 field v = true := by
  rcases h with rfl | rfl | rfl <;> simp [currentOk, inRange, fieldRanges]

/-- A write of the kind: the shed class follows it (R89). -/
theorem loadKindWrite (l : LoadEntry) (v : Nat) : WritesField 6 loadNumbers l 0 v (l.mayTake 0 v) (l.writeField 0 v) where
  takes := by
    have word : (l.writeField 0 v).isSome = true ↔ v < loadWords.length := Option.isSome_map.symm ▸ wordAt_isSome loadWords
    have range := inRange_plain (v := v) (show plainRange 6 0 = some (0, 5) from rfl)
    rw [word, range, show loadWords.length = 6 from rfl]
    unfold LoadEntry.mayTake
    omega
  reads x h := by
    obtain ⟨k, hk, rfl⟩ := Option.map_eq_some_iff.mp h
    rw [← placeOf_wordAt (by decide) hk]
    cases k <;> rfl
  keeps x h f other apart := by
    obtain ⟨k, _, rfl⟩ := Option.map_eq_some_iff.mp h
    match f with
    | 0 | 3 => simp_all [standsApart]
    | 1 | 2 | 4 | 5 | 6 | 7 | 8 | 9 => rfl
    | _ + 10 => rfl

theorem loadWrite (l : LoadEntry) (field v : Nat) : WritesField 6 loadNumbers l field v (l.mayTake field v) (l.writeField field v) := by
  have place : ∀ {f} (_ : f < 10 := by decide), f < (loadNumbers l).length := fun h => h
  match field with
  | 0 => exact loadKindWrite l v
  | 1 | 2 | 9 => exact writesField_besides (writesField_word place fun x => by cases x <;> rfl) (by simp)
  | 3 => exact writesField_unless (writesField_ranged place rfl) (by simp)
  | 4 | 5 => exact writesField_besides (writesField_ranged place rfl) (by simp)
  | 6 => exact writesField_if place (by simp [currentOk_iff 6]) fun _ => rfl
  | 7 => exact writesField_if place (by simp [currentOk_iff 7]) fun _ => rfl
  | 8 => exact writesField_if place (by simp [currentOk_iff 8]) fun _ => rfl
  | _ + 10 => exact writesField_beyond rfl

/-! Flash profiles (R110). -/

theorem profileWrite (p : Profile) (field v : Nat) : WritesField 7 profileNumbers p field v True (p.writeField field v) := by
  have place : ∀ {f} (_ : f < 11 := by decide), f < (profileNumbers p).length := fun h => h
  match field with
  | 0 | 2 | 4 | 6 | 8 => exact writesField_ranged place rfl
  | 1 | 3 | 5 | 7 | 9 | 10 => exact writesField_word place fun x => by cases x <;> rfl
  | _ + 11 => exact writesField_beyond rfl

/-! Gauge entries (R129, R130). -/

/-- The zero stays at or below the full scale (R130). -/
@[simp] abbrev GaugeEntry.mayTake (g : GaugeEntry) (field v : Nat) : Prop := (field = 3 → v ≤ g.vfs) ∧ (field = 4 → g.vz ≤ v)

theorem inRange_source (v : Nat) : inRange 8 0 v = true ↔ v < 16 ∨ v = 255 := by
  simp [inRange, fieldRanges]
  omega

theorem inRange_gaugeCurve (v : Nat) : inRange 8 1 v = true ↔ v < 8 ∨ v = 255 := by
  simp [inRange, fieldRanges]
  omega

theorem gaugeWrite (g : GaugeEntry) (field v : Nat) : WritesField 8 gaugeNumbers g field v (g.mayTake field v) (g.writeField field v) := by
  have place : ∀ {f} (_ : f < 7 := by decide), f < (gaugeNumbers g).length := fun h => h
  match field with
  | 0 => exact writesField_besides (writesField_orNone place (inRange_source v) fun _ => rfl) (by simp)
  | 1 => exact writesField_besides (writesField_orNone place (inRange_gaugeCurve v) fun _ => rfl) (by simp)
  | 3 | 4 => exact writesField_unless (writesField_ranged place rfl) (by simp)
  | 2 | 6 => exact writesField_besides (writesField_ranged place rfl) (by simp)
  | 5 => exact writesField_besides (writesField_word place fun x => by cases x <;> rfl) (by simp)
  | _ + 7 => exact writesField_beyond rfl

/-! The hub table (R177). -/

theorem inRange_refresh (v : Nat) : inRange 9 2 v = true ↔ v = 0 ∨ (100 ≤ v ∧ v ≤ 5000) := by
  simp [inRange, fieldRanges]
  omega

theorem inRange_teachGauge (v : Nat) : inRange 9 20 v = true ↔ v < 4 ∨ v = 255 := by
  simp [inRange, fieldRanges]
  omega

/-- The refresh setting is taken as 0, or within its interval (R170, R177). -/
theorem refreshField_eq (h : HubTable) (v : Nat) :
    h.writeField 2 v = if v = 0 ∨ (100 ≤ v ∧ v ≤ 5000) then some { h with refresh := v } else none := by
  split_ifs with ok
  · exact refreshWrite_taken h v ok
  · exact refreshWrite_refused h v (by omega) (by omega)

theorem hubWrite (h : HubTable) (field v : Nat) : WritesField 9 hubNumbers h field v True (h.writeField field v) := by
  have place : ∀ {f} (_ : f < 23 := by decide), f < (hubNumbers h).length := fun small => (hubNumbers_length h).symm ▸ small
  match field with
  | 0 => exact writesField_bits 3 place (by simp [hubNumbers_eq])
  | 1 => exact writesField_word place fun _ => by simp [hubNumbers_eq]
  | 2 =>
    rw [refreshField_eq]
    exact writesField_if place (by rw [inRange_refresh, and_true]) fun _ => by simp [hubNumbers_eq]
  | 3 | 4 | 5 | 6 | 7 | 8 | 9 | 10 | 11 | 12 | 13 | 14 | 15 => exact writesField_ranged place (by simp [hubNumbers_eq])
  | 16 | 17 | 18 => exact writesField_fin place fun _ => by simp [hubNumbers_eq]
  | 19 => exact writesField_word place fun _ => by simp [hubNumbers_eq]
  | 20 => exact writesField_orNone place (inRange_teachGauge v) fun x => by cases x <;> simp [hubNumbers_eq, orNone, codeOr255]
  | 21 | 22 => exact writesField_bits 10 place (by simp [hubNumbers_eq])
  | _ + 23 => exact writesField_beyond rfl

end Sys2Proof.Machine
end

section
/-! PROOFS. WRITE (R174, R176): the checks, what it leaves in the tables, and its own rows. -/

namespace Sys2Proof.Machine

/-! A field write in the tables. -/

/-- What a taken field write makes of the tables: its number was in range and stands in its field, and every other field of every
table is as it was, but the shed class at a write of the kind. -/
structure Tables.oneWritten (t u : Tables) (table index field v : Nat) : Prop where
  range : inRange table field v = true
  reads : (entryNumbers u table index)[field]? = some v
  keeps : ∀ a i f, (a, i, f) ≠ (table, index, field) → (a, i, f) ≠ (6, index, 3) ∨ field ≠ 0 ∨ table ≠ 6 →
    (entryNumbers u a i)[f]? = (entryNumbers t a i)[f]?

/-- Only the numbers of the entry written differ. -/
theorem oneWritten_of_entry {α : Type} {t u : Tables} {table index field v : Nat} {besides : Prop} {numbers : α → List Nat}
    {e x : α} {written : Option α} (writes : WritesField table numbers e field v besides written) (taken : written = some x)
    (before : entryNumbers t table index = numbers e) (after : entryNumbers u table index = numbers x)
    (others : ∀ a i, (a, i) ≠ (table, index) → entryNumbers u a i = entryNumbers t a i) : t.oneWritten u table index field v where
  range := (writes.takes.mp (by rw [taken]; rfl)).1
  reads := by rw [after, writes.reads x taken]
  keeps a i f other apart := by
    by_cases here : (a, i) = (table, index)
    · obtain ⟨rfl, rfl⟩ := Prod.mk.inj here
      rw [after, before]
      refine writes.keeps x taken f (fun same => other (by rw [same])) ?_
      by_cases six : a = 6
      · exact apart.imp_left fun moved same => moved (by rw [six, same])
      · exact .inr (.inr six)
    · rw [others a i here]

/-- The numbers of the other tables stand at a field write. -/
theorem entryNumbers_other {t u : Tables} {table index field v : Nat} (h : t.writeField table index field v = some u) {a : Nat}
    (other : a ≠ table) : entryNumbers u a = entryNumbers t a := by
  funext i
  match table, h with
  | 0, h | 1, h | 2, h | 3, h | 4, h | 5, h | 6, h | 7, h | 8, h | 9, h =>
    obtain ⟨w, _, rfl⟩ := Option.map_eq_some_iff.mp h
    unfold entryNumbers
    split <;> trivial

theorem writeEntry_eq_some {α : Type} {n : Nat} {entries w : Vector α n} {index : Nat} {write : α → Option α}
    (h : writeEntry entries index write = some w) :
    ∃ (small : index < n) (x : α), write entries[index] = some x ∧ w = entries.set index x := by
  obtain ⟨small, written⟩ := Option.dite_none_right_eq_some.mp h
  obtain ⟨x, hx, rfl⟩ := Option.map_eq_some_iff.mp written
  exact ⟨small, x, hx, rfl⟩

/-- The write of a field in a table of like entries. -/
theorem oneWritten_of_writeEntry {α : Type} {n : Nat} {t u : Tables} {table index field v : Nat} {besides : α → Prop}
    {numbers : α → List Nat} {entries : Vector α n} {write : α → Option α} {put : Vector α n → Tables}
    (taken : t.writeField table index field v = some u) (h : (writeEntry entries index write).map put = some u)
    (each : ∀ e, WritesField table numbers e field v (besides e) (write e))
    (before : ∀ i, entryNumbers t table i = (entries[i]?).elim [] numbers)
    (after : ∀ w i, entryNumbers (put w) table i = (w[i]?).elim [] numbers) : t.oneWritten u table index field v := by
  obtain ⟨w, hw, rfl⟩ := Option.map_eq_some_iff.mp h
  obtain ⟨small, x, hx, rfl⟩ := writeEntry_eq_some hw
  refine oneWritten_of_entry (each entries[index]) hx (by simp [before, small]) (by simp [after, small]) fun a i other => ?_
  by_cases same : a = table
  · obtain rfl := same
    have apart : index ≠ i := fun same => other (by rw [same])
    rw [before, after, Vector.getElem?_set_ne small apart]
  · rw [entryNumbers_other taken same]

/-- What a taken field write makes of the tables (R89, R176, R178). -/
theorem writeField_oneWritten {t u : Tables} {table index field v : Nat} (address : addressCode table index field = 0)
    (h : t.writeField table index field v = some u) : t.oneWritten u table index field v := by
  obtain ⟨_, entry, small⟩ := (addressCode_eq_zero table index field).mp address
  match table with
  | 0 => exact oneWritten_of_writeEntry h h (fun e => matchWrite e field v) (fun _ => rfl) fun _ _ => rfl
  | 1 => exact oneWritten_of_writeEntry h h (fun e => curveWrite e field v) (fun _ => rfl) fun _ _ => rfl
  | 2 => exact oneWritten_of_writeEntry h h (fun e => slotWrite e field v) (fun _ => rfl) fun _ _ => rfl
  | 3 =>
    obtain rfl : field = 0 := Nat.lt_one_iff.mp small
    exact oneWritten_of_writeEntry h h (fun e => podTimeoutWrite e v) (fun _ => rfl) fun _ _ => rfl
  | 4 => exact oneWritten_of_writeEntry h h (fun e => conditionWrite e field v) (fun _ => rfl) fun _ _ => rfl
  | 5 => exact oneWritten_of_writeEntry h h (fun e => linkWrite e field v) (fun _ => rfl) fun _ _ => rfl
  | 6 => exact oneWritten_of_writeEntry h h (fun e => loadWrite e field v) (fun _ => rfl) fun _ _ => rfl
  | 7 => exact oneWritten_of_writeEntry h h (fun e => profileWrite e field v) (fun _ => rfl) fun _ _ => rfl
  | 8 => exact oneWritten_of_writeEntry h h (fun e => gaugeWrite e field v) (fun _ => rfl) fun _ _ => rfl
  | 9 =>
    obtain rfl : index = 0 := Nat.lt_one_iff.mp entry
    have taken := h
    obtain ⟨hub, hhub, rfl⟩ := Option.map_eq_some_iff.mp h
    refine oneWritten_of_entry (hubWrite t.hub field v) hhub rfl rfl fun a i other => ?_
    by_cases same : a = 9
    · obtain rfl := same
      have beyond : i ≠ 0 := fun same => other (by rw [same])
      simp [entryNumbers, beyond]
    · rw [entryNumbers_other taken same]

/-! The numbers a field write takes. -/

theorem writeEntry_isSome {α β : Type} {n : Nat} {table index field v : Nat} {numbers : α → List Nat} {entries : Vector α n}
    {write : α → Option α} {put : Vector α n → β} (small : index < n)
    (each : ∀ e, WritesField table numbers e field v True (write e)) :
    ((writeEntry entries index write).map put).isSome = true ↔ inRange table field v = true := by
  unfold writeEntry
  rw [dif_pos small, Option.isSome_map, Option.isSome_map, (each entries[index]).takes, and_true]

/-- The tables without loads and gauges, whose entries ask more (R89, R130), take the numbers of the range (R176). -/
theorem writeField_isSome (t : Tables) {table index field : Nat} (v : Nat) (address : addressCode table index field = 0)
    (alone : table ≠ 6 ∧ table ≠ 8) : (t.writeField table index field v).isSome = true ↔ inRange table field v = true := by
  obtain ⟨known, entry, small⟩ := (addressCode_eq_zero table index field).mp address
  match table with
  | 0 => exact writeEntry_isSome entry fun e => matchWrite e field v
  | 1 => exact writeEntry_isSome entry fun e => curveWrite e field v
  | 2 => exact writeEntry_isSome entry fun e => slotWrite e field v
  | 3 =>
    obtain rfl : field = 0 := Nat.lt_one_iff.mp small
    exact writeEntry_isSome entry fun e => podTimeoutWrite e v
  | 4 => exact writeEntry_isSome entry fun e => conditionWrite e field v
  | 5 => exact writeEntry_isSome entry fun e => linkWrite e field v
  | 7 => exact writeEntry_isSome entry fun e => profileWrite e field v
  | 9 => exact Option.isSome_map.symm ▸ (hubWrite t.hub field v).takes.trans (and_iff_left trivial)

/-! The checks of a WRITE (R176). -/

/-- A WRITE answered OK has an address of the directory, names no curve's state, and brings a value that the tables take (R41, R176). -/
theorem writeChecked_ok {t u : Tables} {table index field v : Nat} (h : t.writeChecked table index field v = (.ok, u)) :
    addressCode table index field = 0 ∧ (table ≠ 1 ∨ field ≠ 19) ∧ t.writeField table index field v = some u := by
  unfold Tables.writeChecked at h
  split at h
  · next good =>
    refine ⟨(addressStatus_ok_iff table index field).mp good, ?_⟩
    split_ifs at h with state closed
    · exact absurd (Prod.mk.inj h).1 (by decide)
    · exact absurd (Prod.mk.inj h).1 (by decide)
    · split at h
      · next w taken =>
        rw [taken, (Prod.mk.inj h).2]
        exact ⟨by tauto, rfl⟩
      · exact absurd (Prod.mk.inj h).1 (by decide)
  · next status bad => exact absurd (Prod.mk.inj h).1 bad

section
variable (t : Tables) {table index field : Nat} (v : Nat)

theorem writeChecked_address (bad : addressStatus table index field ≠ .ok) :
    t.writeChecked table index field v = (addressStatus table index field, t) := by
  unfold Tables.writeChecked
  split
  · contradiction
  · rfl

theorem writeChecked_state (good : addressStatus table index field = .ok) (curve : table = 1) (state : field = 19) :
    t.writeChecked table index field v = (.badField, t) := by
  unfold Tables.writeChecked
  rw [good]
  exact if_pos ⟨curve, state⟩

theorem writeChecked_closed (good : addressStatus table index field = .ok) (curve : table = 1) (point : field ≠ 19)
    (closed : t.curveInEdit index = false) : t.writeChecked table index field v = (.notEdit, t) := by
  unfold Tables.writeChecked
  rw [good]
  exact (if_neg fun c => point c.2).trans (if_pos ⟨curve, closed⟩)

/-- Beside the curves the value alone decides. -/
theorem writeChecked_value (good : addressStatus table index field = .ok) (other : table ≠ 1)
    (refused : t.writeField table index field v = none) : t.writeChecked table index field v = (.badValue, t) := by
  unfold Tables.writeChecked
  rw [good]
  simp only [other, false_and, if_false, refused]

theorem writeChecked_taken {u : Tables} (good : addressStatus table index field = .ok) (other : table ≠ 1)
    (taken : t.writeField table index field v = some u) : t.writeChecked table index field v = (.ok, u) := by
  unfold Tables.writeChecked
  rw [good]
  simp only [other, false_and, if_false, taken]

end

theorem curveInEdit_eq_false {t : Tables} {index : Nat} (small : index < 8)
    (serves : ∀ c : Fin 8, c.val = index → t.curves[c].state = .inService) : t.curveInEdit index = false := by
  have state := serves ⟨index, small⟩ rfl
  unfold Tables.curveInEdit
  rw [Vector.getElem?_eq_getElem small]
  exact decide_eq_false fun edit => absurd (state.symm.trans edit) (by decide)

/-! The service of one field write (R174, R176). -/

theorem writeField_refused {table index field v : Nat} {e : Ev} {status : Status} {t : Tables}
    (checked : e.st.tables.writeChecked table index field v = (status, t)) (bad : status ≠ .ok) :
    writeField table index field v e = refuse status e := by
  unfold writeField
  rw [checked]
  split
  · next same => exact absurd (Prod.mk.inj same).1 bad
  · next same => rw [(Prod.mk.inj same).1]

theorem writeField_taken {table index field v : Nat} {e : Ev} {u : Tables}
    (checked : e.st.tables.writeChecked table index field v = (.ok, u)) :
    writeField table index field v e = (writeEffect table index field (e.on fun s => { s with tables := u }), some (.ok, [])) := by
  unfold writeField
  rw [checked]

/-! A WRITE on its lanes (R174). -/

/-- The value of two lanes (R174). -/
abbrev lanesValue (high low : Lane) : Nat := high.toNat * 4096 + low.toNat

theorem serveWrite_cons (a b high low : Lane) (more : List Lane) :
    serveWrite (a :: b :: high :: low :: more) =
      unlessCommitting (writeField (a.toNat / 256) (a.toNat % 256) b.toNat (lanesValue high low)) := by
  funext e
  unfold serveWrite needLanes
  rw [if_neg (by simp)]
  rfl

theorem serveWrite_free (s : State) (a b high low : Lane) (more : List Lane) (free : committing s = false) :
    serveWrite (a :: b :: high :: low :: more) (Ev.start s) =
      writeField (a.toNat / 256) (a.toNat % 256) b.toNat (lanesValue high low) (Ev.start s) := by
  rw [serveWrite_cons]
  unfold unlessCommitting
  rw [if_neg (by rw [Bool.not_eq_true]; exact free)]

theorem exec_write_short (s : State) (r : Requester) (lanes : List Lane) (takes : s.takesRequests) (short : lanes.length < 4) :
    exec (.write r lanes) s = .next (answered s r 2 1 []) :=
  event_refused s r 2 _ .badReq takes (if_pos short) (by decide)

/-- A WRITE that a check refuses is answered with its status (R176). -/
theorem exec_write_refused {s : State} {r : Requester} {a b high low : Lane} {more : List Lane} {status : Status} {t : Tables}
    (takes : s.takesRequests) (free : committing s = false)
    (checked : s.tables.writeChecked (a.toNat / 256) (a.toNat % 256) b.toNat (lanesValue high low) = (status, t)) (bad : status ≠ .ok) :
    exec (.write r (a :: b :: high :: low :: more)) s = .next (answered s r 2 status.code []) := by
  refine event_refused s r 2 _ status takes ?_ (by decide)
  rw [serveWrite_free s a b high low more free]
  exact writeField_refused checked bad

/-- A WRITE that is taken and has no other effect (R176). -/
theorem exec_write_taken {s : State} {r : Requester} {a b high low : Lane} {more : List Lane} {u : Tables}
    (takes : s.takesRequests) (free : committing s = false)
    (checked : s.tables.writeChecked (a.toNat / 256) (a.toNat % 256) b.toNat (lanesValue high low) = (.ok, u))
    (plain : ∀ e, writeEffect (a.toNat / 256) (a.toNat % 256) b.toNat e = e) :
    exec (.write r (a :: b :: high :: low :: more)) s = .next (answered { s with tables := u } r 2 0 []) := by
  have still : afterNeed s { s with tables := u } = { s with tables := u } := afterNeed_still rfl rfl rfl
  have made : State.copiesMade { s with tables := u } := copiesMade_of_ports (s := s) rfl rfl rfl takes.copied
  refine (event_request s { s with tables := u } r 2 _ .ok [] takes made ?_ (by decide)).trans (by rw [still]; rfl)
  rw [serveWrite_free s a b high low more free, writeField_taken (e := Ev.start s) checked, plain]
  rfl

/-- The writes that change their field alone: of a match entry, a link, a profile, or a hub field that is only read at its next use
(R34, R73, R110, R177). -/
theorem writeEffect_plain {table field : Nat} (index : Nat)
    (plain : table = 0 ∨ table = 1 ∨ table = 5 ∨ table = 7 ∨ (table = 9 ∧ field ≠ 2 ∧ field ≠ 20 ∧ field ≠ 21)) (e : Ev) :
    writeEffect table index field e = e := by
  rcases plain with rfl | rfl | rfl | rfl | ⟨rfl, refresh, teach, detect⟩
  · rfl
  · rfl
  · rfl
  · rfl
  · have still : hubWritten field = id := by
      funext s
      unfold hubWritten
      split <;> trivial
    unfold writeEffect
    rw [still]
    rfl

/-- The lanes that a row of its own makes of the address, the field and the value are those it was given in. -/
theorem writeLanes_of_lanes (a b high low : Lane) :
    writeLanes (a.toNat / 256) (BitVec.ofNat 8 (a.toNat % 256)) b (BitVec.ofNat 24 (lanesValue high low)) = [a, b, high, low] := by
  have hh := high.isLt
  have hl := low.isLt
  unfold writeLanes laneOf lanesValue
  simp only [BitVec.toNat_ofNat, List.cons.injEq, and_true, true_and]
  refine ⟨?_, ?_, ?_⟩ <;> apply BitVec.eq_of_toNat_eq <;> rw [BitVec.toNat_ofNat] <;> omega

/-- A WRITE is the WRITE of its address, field and value, as the rows of their own make it (R174). -/
theorem exec_write_row (s : State) (r : Requester) (a b high low : Lane) (more : List Lane) :
    exec (.write r (a :: b :: high :: low :: more)) s = event (requestEvent r 2 (serveWrite (writeLanes (a.toNat / 256)
      (BitVec.ofNat 8 (a.toNat % 256)) b (BitVec.ofNat 24 (lanesValue high low))))) s := by
  rw [writeLanes_of_lanes, serveWrite_cons, ← serveWrite_cons a b high low more]
  rfl

/-- The own row of a WRITE to slots, conditions, loads and gauges (R51, R70, R90, R130). -/
theorem exec_write_entryRow (s : State) (r : Requester) (a b high low : Lane) (more : List Lane) {table : Nat}
    (ht : a.toNat / 256 = table) (rows : table = 2 ∨ table = 4 ∨ table = 6 ∨ table = 8) :
    exec (.write r (a :: b :: high :: low :: more)) s =
      exec (if table = 2 then Instr.slotConfigWrite r (BitVec.ofNat 8 (a.toNat % 256)) b (BitVec.ofNat 24 (lanesValue high low))
        else if table = 4 then .conditionWrite r (BitVec.ofNat 8 (a.toNat % 256)) b (BitVec.ofNat 24 (lanesValue high low))
        else if table = 6 then .loadEntryWrite r (BitVec.ofNat 8 (a.toNat % 256)) b (BitVec.ofNat 24 (lanesValue high low))
        else .gaugeEntryWrite r (BitVec.ofNat 8 (a.toNat % 256)) b (BitVec.ofNat 24 (lanesValue high low))) s := by
  rw [exec_write_row, ht]
  rcases rows with rfl | rfl | rfl | rfl <;> rfl

/-- The own row of a WRITE to curves, pod timeouts, and the hub fields with effects (R41, R55, R161, R170, R187). -/
theorem exec_write_fieldRow (s : State) (r : Requester) (a b high low : Lane) (more : List Lane) {table : Nat}
    (ht : a.toNat / 256 = table) (address : addressCode table (a.toNat % 256) b.toNat = 0)
    (rows : table = 1 ∨ table = 3 ∨ (table = 9 ∧ (b = 2 ∨ b = 20 ∨ b = 21))) :
    exec (.write r (a :: b :: high :: low :: more)) s =
      exec (if table = 1 then Instr.curvePointWrite r (BitVec.ofNat 8 (a.toNat % 256)) b (BitVec.ofNat 24 (lanesValue high low))
        else if table = 3 then .podTimeoutWrite r (BitVec.ofNat 8 (a.toNat % 256)) (BitVec.ofNat 24 (lanesValue high low))
        else if b = 2 then .refreshWrite r (BitVec.ofNat 24 (lanesValue high low))
        else if b = 20 then .teachGaugeWrite r (.gaugeField (BitVec.ofNat 24 (lanesValue high low)))
        else .detectMaskWrite r (BitVec.ofNat 24 (lanesValue high low))) s := by
  obtain ⟨_, entry, small⟩ := (addressCode_eq_zero _ _ _).mp address
  rw [exec_write_row, ht]
  rcases rows with rfl | rfl | ⟨rfl, field⟩
  · rfl
  · obtain rfl : b = 0 := BitVec.eq_of_toNat_eq (Nat.lt_one_iff.mp small)
    rfl
  · rw [show a.toNat % 256 = 0 from Nat.lt_one_iff.mp entry]
    rcases field with rfl | rfl | rfl <;> rfl

/-- Settles O57: the field writes table by table, and the checks of WRITE before them. -/
theorem writesAreCheckedAndChangeOneField : Obligations.WritesAreCheckedAndChangeOneField := by
  unfold Obligations.WritesAreCheckedAndChangeOneField
  refine ⟨fun t u table index field v checked => ?_, fun s r lanes takes free =>
    ⟨exec_write_short s r lanes takes, ?_⟩⟩
  · obtain ⟨address, state, taken⟩ := writeChecked_ok checked
    obtain ⟨range, reads, keeps⟩ := writeField_oneWritten address taken
    exact ⟨address, reads, state, range, fun a i f _ => keeps a i f⟩
  rintro a b high low more rfl table index v status
  have good : status = 0 → addressStatus table index b.toNat = .ok := (addressStatus_ok_iff _ _ _).mpr
  refine ⟨fun bad => ?_, fun zero curve state => ?_, fun zero curve point serves => ?_, fun zero plain _ => ?_, fun zero other refused => ?_,
    fun u zero taken => ?_, fun u zero taken plain => ?_, fun zero rows c row => ?_, fun rows c row => ?_⟩
  · have bad : addressStatus table index b.toNat ≠ .ok := fun ok => bad ((addressStatus_ok_iff _ _ _).mp ok)
    rw [exec_write_refused takes free (writeChecked_address s.tables _ bad) bad, addressStatus_code]
  · exact exec_write_refused takes free (writeChecked_state _ _ (good zero) curve state) (by decide)
  · obtain ⟨_, small, _⟩ := (addressCode_eq_zero _ _ _).mp zero
    rw [curve] at small
    have closed := curveInEdit_eq_false small serves
    exact exec_write_refused takes free (writeChecked_closed _ _ (good zero) curve point closed) (by decide)
  · have alone : table ≠ 6 ∧ table ≠ 8 := by
      constructor <;> rintro six <;> rw [six] at plain <;> exact absurd plain (by decide)
    exact writeField_isSome s.tables v zero alone
  · exact exec_write_refused takes free (writeChecked_value _ _ (good zero) other refused) (by decide)
  · obtain ⟨_, reads, keeps⟩ := writeField_oneWritten zero taken
    have field : b ≠ 0 → b.toNat ≠ 0 := fun other zero => other (BitVec.eq_of_toNat_eq zero)
    exact ⟨reads, fun a i f _ differs apart => keeps a i f differs (apart.imp_right (Or.imp_left field))⟩
  · have other : table ≠ 1 := by omega
    have alone := writeEffect_plain (table := table) (field := b.toNat) index (by tauto)
    exact exec_write_taken takes free (writeChecked_taken s.tables v (good zero) other taken) alone
  · rw [row]
    exact exec_write_fieldRow s r a b high low more rfl zero rows
  · rw [row]
    exact exec_write_entryRow s r a b high low more rfl rows

end Sys2Proof.Machine
end

section
/-! PROOFS. The legality of tables (R37, R89, R130): what a field write, CLOSE-CURVE and a teach completion make of an entry. -/

namespace Sys2Proof.Machine

/-! Tables of entries that all pass a check. -/

/-- A table whose entries all pass a check still does, when one is replaced by another that passes it. -/
theorem allOf_set {α : Type} {n : Nat} {v : Vector α n} {p : α → Bool} (i : Nat) (hi : i < n) {x : α} (all : allOf v p = true)
    (new : p x = true) : allOf (v.set i x hi) p = true := by
  rw [allOf_iff] at all ⊢
  intro j
  rw [Fin.getElem_fin, Vector.getElem_set]
  split
  · exact new
  · exact all j

/-- The three tables that the relations between fields are about (R37, R89, R130). -/
theorem tablesLegal_iff (t : Tables) : t.legal = true ↔
    allOf t.curves Curve.legal = true ∧ allOf t.loads LoadEntry.legal = true ∧ allOf t.gauges GaugeEntry.legal = true := by
  unfold Tables.legal
  rw [Bool.and_eq_true, Bool.and_eq_true, and_assoc]

theorem default_legal : Tables.default.legal = true := by decide

/-! Curves (R37, R42, R44). -/

theorem legal_of_edit {c : Curve} (h : c.state = .edit) : c.legal = true := by
  simp [Curve.legal, h]

/-- A curve with two to nine points that ascend within the scale is legal in either state. -/
theorem legal_of_points {c : Curve} (two : 2 ≤ c.count) (nine : c.count ≤ 9) (points : pointsLegal none c.used = true) :
    c.legal = true := by
  simp [Curve.legal, two, nine, points]

/-- No point offends exactly where the points are legal (R37, R42). -/
theorem offendingFrom_none_iff : ∀ (l : List Point) (i : Nat) (before : Option Nat),
    offendingFrom i before l = none ↔ pointsLegal before l = true
  | [], _, _ => by simp [offendingFrom, pointsLegal]
  | p :: ps, i, before => by
    have rest := offendingFrom_none_iff ps (i + 1) (some p.x)
    unfold offendingFrom pointsLegal
    cases before with
    | none =>
      by_cases high : 1000 < p.y
      · simp [high]
      · simpa [high, rest] using fun _ => by omega
    | some x => by_cases high : 1000 < p.y <;> by_cases low : p.x ≤ x <;> simp [high, low, rest]; omega

/-- CLOSE-CURVE puts a legal curve in service (R42). -/
theorem closed_legal {c : Curve} (h : c.offending = none) (state : CurveState) : ({ c with state := state } : Curve).legal = true := by
  unfold Curve.offending at h
  split_ifs at h with two nine
  exact legal_of_points (Nat.not_lt.mp two) (Nat.not_lt.mp nine) ((offendingFrom_none_iff c.used 0 none).mp h)

/-- The curve of two readings that are apart is legal (R44, R187). -/
theorem taught_legal (c : Curve) {a b : Lane} (apart : readingsApart a b = true) : (c.taught a b).legal = true := by
  unfold readingsApart at apart
  simp only [Bool.or_eq_true, decide_eq_true_eq] at apart
  refine legal_of_points (by simp [Curve.taught]) (by simp [Curve.taught]) ?_
  have used : (c.taught a b).used = if a.toNat < b.toNat then [⟨a.toNat, 0⟩, ⟨b.toNat, 1000⟩] else [⟨b.toNat, 1000⟩, ⟨a.toNat, 0⟩] := by
    have two : ∀ (v : Vector Point 9) (p q : Point), ((v.set 0 p).set 1 q).toList.take 2 = [p, q] := fun v p q => by
      rw [Vector.toList_set, Vector.toList_set]
      match v with
      | ⟨⟨[_, _, _, _, _, _, _, _, _]⟩, _⟩ => rfl
    unfold Curve.taught Curve.used
    simp only [two]
    split <;> rfl
  rw [used]
  split <;> simp [pointsLegal] <;> omega

theorem ranged_eq_some {α : Type} {v lo hi : Nat} {x y : α} : ranged v lo hi x = some y ↔ (lo ≤ v ∧ v ≤ hi) ∧ x = y := by
  simp [ranged, Option.ite_none_right_eq_some]

/-- A curve keeps its state at a field write (R41). -/
theorem curveWrite_state {c x : Curve} {field v : Nat} (h : c.writeField field v = some x) : x.state = c.state := by
  unfold Curve.writeField at h
  split at h
  · obtain ⟨_, rfl⟩ := ranged_eq_some.mp h
    rfl
  · split at h
    · obtain ⟨_, rfl⟩ := ranged_eq_some.mp h
      rfl
    · obtain ⟨_, rfl⟩ := ranged_eq_some.mp h
      rfl
    · exact absurd h.symm (Option.some_ne_none _)

/-! Loads and gauges (R89, R130). -/

/-- A field write keeps an entry that is never shed at shed class 0 (R89). -/
theorem loadWrite_legal {e x : LoadEntry} {field v : Nat} (h : e.writeField field v = some x) (legal : e.legal = true) :
    x.legal = true := by
  unfold LoadEntry.legal at legal ⊢
  match field with
  | 0 =>
    obtain ⟨k, _, rfl⟩ := Option.map_eq_some_iff.mp h
    cases k.neverShed <;> simp
  | 3 =>
    obtain ⟨asked, h⟩ := Option.ite_none_left_eq_some.mp h
    obtain ⟨_, rfl⟩ := ranged_eq_some.mp h
    simpa [or_iff_not_imp_left] using asked
  | 1 | 2 | 9 =>
    obtain ⟨_, _, rfl⟩ := Option.map_eq_some_iff.mp h
    exact legal
  | 4 | 5 | 6 | 7 | 8 =>
    obtain ⟨_, h⟩ := Option.ite_none_right_eq_some.mp h
    obtain rfl := Option.some.inj h
    exact legal

/-- A field write keeps the zero at or below the full scale, and both and the mark on their scales (R129, R130). -/
theorem gaugeWrite_legal {e x : GaugeEntry} {field v : Nat} (h : e.writeField field v = some x) (legal : e.legal = true) :
    x.legal = true := by
  unfold GaugeEntry.legal at legal ⊢
  simp only [Bool.and_eq_true, decide_eq_true_eq] at legal ⊢
  match field with
  | 0 | 1 | 5 =>
    obtain ⟨_, _, rfl⟩ := Option.map_eq_some_iff.mp h
    exact legal
  | 2 | 6 =>
    obtain ⟨within, rfl⟩ := ranged_eq_some.mp h
    simp only
    omega
  | 3 | 4 =>
    obtain ⟨scale, h⟩ := Option.ite_none_left_eq_some.mp h
    obtain ⟨within, rfl⟩ := ranged_eq_some.mp h
    simp only
    omega

/-! A WRITE (R41, R176). -/

theorem allOf_writeEntry {α : Type} {n : Nat} {v w : Vector α n} {p : α → Bool} {index : Nat} {write : α → Option α}
    (h : writeEntry v index write = some w) (all : allOf v p = true)
    (each : ∀ (hi : index < n) x, write v[index] = some x → p v[index] = true → p x = true) : allOf w p = true := by
  obtain ⟨hi, x, hx, rfl⟩ := writeEntry_eq_some h
  exact allOf_set index hi all (each hi x hx ((allOf_iff v p).mp all ⟨index, hi⟩))

/-- A WRITE to a point of a curve is taken in EDIT alone (R41). -/
theorem writeChecked_edit {t u : Tables} {index field v : Nat} (h : t.writeChecked 1 index field v = (.ok, u)) :
    t.curveInEdit index = true := by
  obtain ⟨address, state, _⟩ := writeChecked_ok h
  by_contra closed
  rw [writeChecked_closed t v ((addressStatus_ok_iff 1 index field).mpr address) rfl (by tauto) (Bool.not_eq_true _ ▸ closed)] at h
  exact absurd (Prod.mk.inj h).1 (by decide)

/-- A WRITE that is taken leaves the tables legal (R37, R89, R130). -/
theorem writeChecked_legal {t u : Tables} {table index field v : Nat} (h : t.writeChecked table index field v = (.ok, u))
    (legal : t.legal = true) : u.legal = true := by
  obtain ⟨address, _, taken⟩ := writeChecked_ok h
  obtain ⟨known, _, _⟩ := (addressCode_eq_zero table index field).mp address
  rw [tablesLegal_iff] at legal ⊢
  obtain ⟨curves, loads, gauges⟩ := legal
  match table with
  | 0 | 2 | 3 | 4 | 5 | 7 | 9 =>
    obtain ⟨_, _, rfl⟩ := Option.map_eq_some_iff.mp taken
    exact ⟨curves, loads, gauges⟩
  | 1 =>
    obtain ⟨w, hw, rfl⟩ := Option.map_eq_some_iff.mp taken
    have edit := writeChecked_edit h
    refine ⟨allOf_writeEntry hw curves fun hi x hx _ => legal_of_edit ((curveWrite_state hx).trans ?_), loads, gauges⟩
    unfold Tables.curveInEdit at edit
    rw [Vector.getElem?_eq_getElem hi] at edit
    exact of_decide_eq_true edit
  | 6 =>
    obtain ⟨w, hw, rfl⟩ := Option.map_eq_some_iff.mp taken
    exact ⟨curves, allOf_writeEntry hw loads fun _ _ => loadWrite_legal, gauges⟩
  | 8 =>
    obtain ⟨w, hw, rfl⟩ := Option.map_eq_some_iff.mp taken
    exact ⟨curves, loads, allOf_writeEntry hw gauges fun _ _ => gaugeWrite_legal⟩

end Sys2Proof.Machine
end

section
/-! PROOFS. What the commands leave of the working tables and of the stored image, and their legality at every step (R37, R89, R130). -/

namespace Sys2Proof.Machine

/-! What leaves both tables alone. -/

/-- The working tables and the stored image. -/
def State.bothTables (s : State) : Tables × Tables := (s.tables, s.store.image)

theorem bothTables_of_lessRuns {s t : State} (h : s.lessRuns = t.lessRuns) : s.bothTables = t.bothTables :=
  (congrArg State.bothTables h :)

theorem bothTables_of_lessLoads {s t : State} (h : s.lessLoads = t.lessLoads) : s.bothTables = t.bothTables :=
  (congrArg State.bothTables h :)

theorem bothTables_of_lessReports {s t : State} (h : s.lessReports = t.lessReports) : s.bothTables = t.bothTables :=
  (congrArg State.bothTables h :)

theorem setPort_bothTables (s : State) (p : PortId) (x : PortState) : (s.setPort p x).bothTables = s.bothTables := by
  cases p <;> rfl

theorem clearUnlatched_bothTables (c : FaultClass) (i : Nat) (s : State) : (clearUnlatched c i s).bothTables = s.bothTables :=
  bothTables_of_lessLoads (clearUnlatched_lessLoads c i s)

theorem handContexts_bothTables (before : Vector Bool 12) (new : FlashState) (s : State) :
    (handContexts before new s).bothTables = s.bothTables :=
  bothTables_of_lessLoads (handContexts_lessLoads before new s)

theorem evalConds_bothTables (affects : OperandKind → Nat → Bool) (s : State) : (evalConds affects s).bothTables = s.bothTables :=
  bothTables_of_lessRuns (evalConds_lessRuns affects s)

theorem setSlot_bothTables (k : Fin 16) (x : SlotLive) (e : Ev) : (setSlot k x e).st.bothTables = e.st.bothTables :=
  (bothTables_of_lessRuns (handOnSlots_lessRuns _ _)).trans rfl

theorem updateSlots_bothTables (vals : Fin 16 → Option Lane) (e : Ev) : (updateSlots vals e).st.bothTables = e.st.bothTables :=
  (bothTables_of_lessRuns (handOnSlots_lessRuns _ _)).trans rfl

theorem handOnVs_bothTables (e : Ev) : (handOnVs e).st.bothTables = e.st.bothTables :=
  (bothTables_of_lessRuns (handOnVs_lessRuns e)).trans rfl

theorem refreshExpired_bothTables (s : State) : (refreshExpired s).bothTables = s.bothTables :=
  (bothTables_of_lessReports (stateNeed_lessReports _)).trans rfl

theorem noteRaise_bothTables (c : FaultClass) (i : Nat) (s : State) : (noteRaise c i s).bothTables = s.bothTables :=
  (congrArg State.bothTables (noteRaise_lessPods c i s) :)

theorem reportFault_bothTables (c : FaultClass) (i value : Nat) (e : Ev) : (reportFault c i value e).st.bothTables = e.st.bothTables := by
  unfold reportFault
  split
  · refine (bothTables_of_lessLoads (matrixEvent_lessLoads _ _)).trans ?_
    exact (bothTables_of_lessLoads (captureAttempt_lessLoads c i value _)).trans (noteRaise_bothTables c i _)
  · rfl

theorem switchEvent_bothTables (pod : Fin 9) (rise fall : BitVec 12) (s : State) :
    (switchEvent pod rise fall s).bothTables = s.bothTables := by
  unfold switchEvent
  split
  · rfl
  · exact bothTables_of_lessLoads (matrixEvent_lessLoads _ _)

theorem updatePod_bothTables (p : Fin 8) (bits : BitVec 12) (s : State) : (updatePod p bits s).bothTables = s.bothTables := by
  unfold updatePod
  exact (switchEvent_bothTables _ _ _ _).trans (clearUnlatched_bothTables _ _ _)

theorem podExpired_bothTables (p : Fin 8) (e : Ev) : (podExpired p e).st.bothTables = e.st.bothTables :=
  (reportFault_bothTables _ _ _ _).trans (switchEvent_bothTables _ _ _ _)

theorem ignChanged_bothTables (level : Bool) (s : State) : (ignChanged level s).bothTables = s.bothTables := by
  have gauges : ∀ t : State, (gaugesAtIgn t).bothTables = t.bothTables := fun t => by
    unfold gaugesAtIgn
    split <;> rfl
  exact (gauges _).trans (handContexts_bothTables _ _ _)

theorem inputSettled_bothTables (i : Fin 9) (s : State) : (inputSettled i s).bothTables = s.bothTables := by
  refine anyOrder_keeps State.bothTables _ _ (fun _ _ => rfl) fun f mem t => ?_
  rcases List.mem_append.mp mem with ign | edge
  · obtain ⟨_, rfl⟩ := (List.mem_ite_nil_right ..).mp ign |>.imp_right List.mem_singleton.mp
    exact ignChanged_bothTables _ t
  · obtain ⟨_, rfl⟩ := (List.mem_ite_nil_right ..).mp edge |>.imp_right List.mem_singleton.mp
    exact switchEvent_bothTables _ _ _ t

theorem shedChanged_bothTables (level : Nat) (s : State) : (shedChanged level s).bothTables = s.bothTables :=
  evalConds_bothTables _ _

theorem enterExpired_bothTables (s : State) : (enterExpired s).bothTables = s.bothTables := by
  unfold enterExpired
  simp only
  split
  · exact shedChanged_bothTables _ _
  · rfl

theorem restoreExpired_bothTables (s : State) : (restoreExpired s).bothTables = s.bothTables := by
  unfold restoreExpired
  simp only
  split
  · exact shedChanged_bothTables _ _
  · rfl

theorem checkSample_bothTables (o : Fin 12) (taken : Bool) (e : Ev) : (checkSample o taken e).st.bothTables = e.st.bothTables := by
  have limits : (checkLimits o e).st.bothTables = e.st.bothTables := by
    unfold checkLimits
    simp only [Ev.on]
    split
    · exact clearUnlatched_bothTables _ _ _
    · exact reportFault_bothTables _ _ _ _
  unfold checkSample
  split
  · split
    · exact reportFault_bothTables _ _ _ _
    · exact limits
  · rfl

theorem completeCommit_bothTables (verified : Bool) (e : Ev) : (completeCommit verified e).st.bothTables = e.st.bothTables := by
  unfold completeCommit
  split
  · rfl
  · rfl
  · next origin _ =>
    simp only
    split
    · refine (clearUnlatched_bothTables _ _ _).trans ?_
      cases origin <;> rfl
    · refine (reportFault_bothTables _ _ _ _).trans ?_
      cases origin <;> rfl

theorem cancelTeach_bothTables (s : State) : (cancelTeach s).bothTables = s.bothTables := by
  unfold State.bothTables
  rw [cancelTeach_tables, cancelTeach_store]

theorem resetChannel_bothTables (g : Fin 4) (s : State) : (resetChannel g s).bothTables = s.bothTables :=
  (evalConds_bothTables _ _).trans (clearUnlatched_bothTables _ _ _)

/-- The live effects of a WRITE leave both tables alone. -/
theorem writeEffect_bothTables (table index field : Nat) (e : Ev) : (writeEffect table index field e).st.bothTables = e.st.bothTables := by
  unfold writeEffect
  split
  · split
    · exact setSlot_bothTables _ _ e
    · rfl
  · split
    · simp only [Ev.on, podTimeoutWritten]
      split <;> rfl
    · rfl
  · split <;> rfl
  · split
    · simp only [Ev.on, loadRewritten]
      exact (clearUnlatched_bothTables _ _ _).trans ((clearUnlatched_bothTables _ _ _).trans (clearUnlatched_bothTables _ _ _))
    · rfl
  · split
    · simp only [Ev.on, gaugeEntryWritten]
      refine (resetChannel_bothTables _ _).trans ?_
      split
      · exact cancelTeach_bothTables _
      · rfl
    · rfl
  · simp only [Ev.on, hubWritten]
    split
    · rfl
    · exact cancelTeach_bothTables _
    · rfl
    · rfl
  · rfl

theorem offerRelay_bothTables (p : PortId) (f : Frame) (e : Ev) : (offerRelay p f e).st.bothTables = e.st.bothTables := by
  unfold offerRelay
  simp only
  split
  · exact (clearUnlatched_bothTables _ _ _).trans (setPort_bothTables _ _ _)
  · exact (reportFault_bothTables _ _ _ _).trans (setPort_bothTables _ _ _)

theorem finish_bothTables (before : State) (e : Ev) : (finish before e).bothTables = e.st.bothTables :=
  bothTables_of_lessReports (finish_lessReports before e)

/-! What leaves them legal. -/

theorem tablesLegal_of_bothTables {s t : State} (same : t.bothTables = s.bothTables) (h : s.tablesLegal) : t.tablesLegal := by
  obtain ⟨tables, image⟩ := Prod.mk.inj same
  unfold State.tablesLegal
  rw [tables, image]
  exact h

/-- A part of an event that leaves legal tables legal. -/
abbrev BodyLegal (f : Ev → Ev) : Prop := ∀ e : Ev, e.st.tablesLegal → (f e).st.tablesLegal

theorem bodyLegal_of_same {f : Ev → Ev} (same : ∀ e, (f e).st.bothTables = e.st.bothTables) : BodyLegal f := fun e =>
  tablesLegal_of_bothTables (same e)

/-- A curve replaced by a legal one. -/
theorem curveSet_legal {t : Tables} (c : Fin 8) {k : Curve} (legal : t.legal = true) (new : k.legal = true) :
    ({ t with curves := t.curves.set c k } : Tables).legal = true := by
  rw [tablesLegal_iff] at legal ⊢
  obtain ⟨curves, loads, gauges⟩ := legal
  exact ⟨allOf_set c.val c.isLt curves new, loads, gauges⟩

/-- A teach completion commits a legal curve (R44, R187). -/
theorem completeTeach_legal (g : Fin 4) (c : Fin 8) {a b : Lane} (apart : readingsApart a b = true) {s : State} (h : s.tablesLegal) :
    (completeTeach g c a b s).tablesLegal := by
  let taught : State := { s with
    mgmt := { s.mgmt with window := none }
    tables := { s.tables with curves := modifyAt s.tables.curves c fun x => x.taught a b } }
  have legal : taught.tables.legal = true := curveSet_legal c h.1 (taught_legal _ apart)
  have reset : (resetChannel g taught).tablesLegal := tablesLegal_of_bothTables (resetChannel_bothTables g taught) ⟨legal, h.2⟩
  exact ⟨reset.1, reset.1⟩

theorem press_legal {s : State} (h : s.tablesLegal) : (press s).tablesLegal := by
  unfold press
  split
  · exact h
  · split <;> exact h
  · split
    · split
      · exact completeTeach_legal _ _ ‹_› h
      · exact tablesLegal_of_bothTables (cancelTeach_bothTables s) h
    · exact tablesLegal_of_bothTables (cancelTeach_bothTables s) h

theorem teachSettled_legal {s : State} (h : s.tablesLegal) : (teachSettled s).tablesLegal := by
  unfold teachSettled teachEdge
  simp only
  split
  · split
    · exact h
    · exact press_legal (s := { s with mgmt := { s.mgmt with pin := s.mgmt.pin.settle, lockout := some 2000 } }) h
  · exact h

/-! Requests. -/

/-- A service that leaves legal tables legal. -/
abbrev ServeLegal (serve : Ev → Ev × Answer) : Prop := ∀ e : Ev, e.st.tablesLegal → (serve e).1.st.tablesLegal

theorem needLanes_legal (n : Nat) (lanes : List Lane) {serve : Ev → Ev × Answer} (h : ServeLegal serve) :
    ServeLegal (needLanes n lanes serve) := fun e legal => by
  unfold needLanes
  split
  · exact legal
  · exact h e legal

theorem unlessCommitting_legal {serve : Ev → Ev × Answer} (h : ServeLegal serve) : ServeLegal (unlessCommitting serve) := fun e legal => by
  unfold unlessCommitting
  split
  · exact legal
  · exact h e legal

theorem serveRead_legal (lanes : List Lane) : ServeLegal (serveRead lanes) :=
  needLanes_legal 2 lanes fun e legal => by
    simp only
    split
    · split <;> exact legal
    · exact legal

/-- A WRITE changes the tables where its checks take it (R176). -/
theorem serveWrite_legal (lanes : List Lane) : ServeLegal (serveWrite lanes) :=
  needLanes_legal 4 lanes (unlessCommitting_legal fun e legal => by
    unfold writeField
    split
    · next u taken =>
      exact tablesLegal_of_bothTables (writeEffect_bothTables _ _ _ _) ⟨writeChecked_legal taken legal.1, legal.2⟩
    · exact legal)

theorem serveOpenCurve_legal (lanes : List Lane) : ServeLegal (serveOpenCurve lanes) :=
  needLanes_legal 1 lanes (unlessCommitting_legal fun e legal => by
    split
    · have cancelled : (if teachGaugeReads e.st.tables ⟨laneNat lanes 0, ‹_›⟩ then cancelTeach e.st else e.st).tablesLegal := by
        split
        · exact tablesLegal_of_bothTables (cancelTeach_bothTables _) legal
        · exact legal
      exact ⟨curveSet_legal _ cancelled.1 (legal_of_edit rfl), cancelled.2⟩
    · exact legal)

theorem serveCloseCurve_legal (lanes : List Lane) : ServeLegal (serveCloseCurve lanes) :=
  needLanes_legal 1 lanes (unlessCommitting_legal fun e legal => by
    split
    · simp only
      split
      · exact legal
      · split
        · exact legal
        · next sound => exact ⟨curveSet_legal _ legal.1 (closed_legal sound _), legal.2⟩
    · exact legal)

theorem serveCommit_legal (r : Requester) : ServeLegal (serveCommit r) :=
  unlessCommitting_legal fun e legal => by
    split
    · exact legal
    · exact ⟨legal.1, legal.1⟩

theorem serveReadLive_legal (lanes : List Lane) : ServeLegal (serveReadLive lanes) :=
  needLanes_legal 2 lanes fun e legal => by
    split
    · exact legal
    · split <;> exact legal

theorem serveClearFaults_legal (lanes : List Lane) : ServeLegal (serveClearFaults lanes) :=
  needLanes_legal 1 lanes (unlessCommitting_legal fun e legal => by split <;> exact legal)

theorem serveReadCapture_legal (lanes : List Lane) : ServeLegal (serveReadCapture lanes) :=
  needLanes_legal 1 lanes fun e legal => by
    split
    · exact legal
    · exact legal
    · split <;> exact legal

theorem serveReleaseCapture_legal (lanes : List Lane) : ServeLegal (serveReleaseCapture lanes) :=
  needLanes_legal 1 lanes fun e legal => by split <;> exact legal

theorem requestEvent_legal (r : Requester) (code : Nat) {serve : Ev → Ev × Answer} (h : ServeLegal serve) :
    BodyLegal (requestEvent r code serve) := fun e legal => by
  have served := h e legal
  unfold requestEvent
  split
  · split
    · next e' status data answer => rwa [answer] at served
    · next e' answer => rwa [answer] at served
  · exact legal

theorem anyRequest_legal (r : Requester) (code : Nat) (lanes : List Lane) : BodyLegal (anyRequest r code lanes) := by
  unfold anyRequest
  split
  · exact requestEvent_legal r _ fun _ legal => legal
  · exact requestEvent_legal r _ (serveRead_legal lanes)
  · exact requestEvent_legal r _ (serveWrite_legal lanes)
  · exact requestEvent_legal r _ (serveOpenCurve_legal lanes)
  · exact requestEvent_legal r _ (serveCloseCurve_legal lanes)
  · exact requestEvent_legal r _ (serveCommit_legal r)
  · exact requestEvent_legal r _ (serveReadLive_legal lanes)
  · exact requestEvent_legal r _ (serveClearFaults_legal lanes)
  · exact requestEvent_legal r _ (serveReadCapture_legal lanes)
  · exact requestEvent_legal r _ (serveReleaseCapture_legal lanes)
  · exact requestEvent_legal r _ (unlessCommitting_legal fun _ legal => legal)
  · exact requestEvent_legal r _ fun _ legal => legal

/-! The router. -/

theorem relayAction_same (p : PortId) (f : Frame) : ∀ a ∈ relayAction p f, ∀ e, (a e).st.bothTables = e.st.bothTables := by
  intro a mem e
  obtain ⟨_, rfl⟩ := (List.mem_ite_nil_left ..).mp mem |>.imp_right List.mem_singleton.mp
  exact offerRelay_bothTables _ _ e

theorem feedAction_same (node : BitVec 4) (feed : Feed) (f out : Frame) :
    ∀ a ∈ feedAction node feed f out, ∀ e, (a e).st.bothTables = e.st.bothTables := by
  intro a mem e
  unfold feedAction at mem
  split at mem
  · rw [List.mem_singleton.mp mem]
    exact updatePod_bothTables _ _ _
  · rw [List.mem_singleton.mp mem]
    exact updateSlots_bothTables _ e
  · obtain ⟨_, rfl⟩ := (List.mem_ite_nil_right ..).mp mem |>.imp_right List.mem_singleton.mp
    exact bothTables_of_lessLoads (orderEvent_lessLoads _ _ _)
  · exact absurd mem List.not_mem_nil

/-- Of what a frame's arrival does, a request alone changes tables (R20, R21). -/
theorem arrivalActions_legal (s : State) (p : PortId) (f : Frame) : ∀ a ∈ arrivalActions s p f, BodyLegal a := by
  intro a mem
  have request : BodyLegal (frameRequest p f) := anyRequest_legal _ _ _
  unfold arrivalActions at mem
  split at mem
  · rw [List.mem_singleton.mp mem]
    exact request
  · split at mem
    · rcases List.mem_cons.mp mem with rfl | mem
      · exact request
      · exact bodyLegal_of_same (relayAction_same p f a mem)
    · split at mem
      · exact bodyLegal_of_same (relayAction_same p f a mem)
      · rcases List.mem_append.mp mem with mem | mem
        · exact bodyLegal_of_same (relayAction_same p _ a ((List.mem_ite_nil_left ..).mp mem).2)
        · exact bodyLegal_of_same (feedAction_same _ _ _ _ a mem)

theorem frameBoundary_legal (p : PortId) : BodyLegal (frameBoundary p) := fun e legal => by
  have bad : (badVerdict p e).st.tablesLegal :=
    tablesLegal_of_bothTables ((reportFault_bothTables _ _ _ _).trans (setPort_bothTables _ _ _)) legal
  unfold frameBoundary
  split
  · exact tablesLegal_of_bothTables (setPort_bothTables _ _ _) legal
  · exact bad
  · exact bad
  · split
    · next f _ =>
      have good : (e.on (goodVerdict p)).st.tablesLegal :=
        tablesLegal_of_bothTables ((clearUnlatched_bothTables _ _ _).trans (setPort_bothTables _ _ _)) legal
      exact anyOrderEv_preserves (fun e => e.st.tablesLegal) _ _ (fun _ _ h => h) (arrivalActions_legal _ p f) good
    · exact bad

/-! Every command. -/

/-- The command leaves legal tables legal. -/
abbrev CommandLegal (c : Instr) : Prop := ∀ s t : State, s.tablesLegal → exec c s = .next t → t.tablesLegal

theorem event_legal {f : Ev → Ev} (body : BodyLegal f) {s t : State} (legal : s.tablesLegal) (answer : event f s = .next t) :
    t.tablesLegal := by
  obtain rfl := Host.Outcome.next.inj answer
  split
  · exact legal
  · exact tablesLegal_of_bothTables (finish_bothTables s _) (body (Ev.start s) legal)

/-- A change that stands under a condition. -/
theorem guarded_bothTables {p : Prop} [Decidable p] {s t : State} (h : t.bothTables = s.bothTables) :
    (if p then t else s).bothTables = s.bothTables := by
  split
  · exact h
  · rfl

theorem guardedEv_bothTables {p : Prop} [Decidable p] {e x : Ev} (h : x.st.bothTables = e.st.bothTables) :
    (if p then x else e).st.bothTables = e.st.bothTables := by
  split
  · exact h
  · rfl

theorem supplyReset_legal (i : StartInputs) {s : State} (legal : s.tablesLegal) : (supplyReset i s).tablesLegal := by
  have loaded : (startState i s).tablesLegal := by
    refine ⟨?_, legal.2⟩
    show (loadedTables s.store).legal = true
    unfold loadedTables
    split
    · exact legal.2
    · exact default_legal
  refine tablesLegal_of_bothTables ((finish_bothTables _ _).trans ((handOnVs_bothTables _).trans ?_)) loaded
  show State.bothTables (if s.store.valid then _ else _ : Ev).st = _
  have joined := bothTables_of_lessReports (joinState_lessReports (startState i s))
  split
  · exact joined
  · exact (reportFault_bothTables _ _ _ _).trans joined

theorem transmissionCompletion_legal (p : PortId) (i : StartInputs) : CommandLegal (.transmissionCompletion p i) := by
  intro s t legal answer
  change execTransmissionCompletion p i s = .next t at answer
  unfold execTransmissionCompletion at answer
  split at answer
  · split at answer
    · obtain rfl := Host.Outcome.next.inj answer
      exact supplyReset_legal i legal
    · refine event_legal (bodyLegal_of_same fun e => ?_) legal answer
      exact (bothTables_of_lessReports (copyReports_lessReports 16 _)).trans (setPort_bothTables _ _ _)
  · obtain rfl := Host.Outcome.next.inj answer
    exact legal

theorem resetEntry_legal : CommandLegal .resetEntry := by
  intro s t legal answer
  obtain rfl := Host.Outcome.next.inj answer
  split
  · exact legal
  · exact ⟨default_legal, legal.2⟩

theorem resetEnd_legal (i : StartInputs) : CommandLegal (.resetEnd i) := by
  intro s t legal answer
  obtain rfl := Host.Outcome.next.inj answer
  split
  · exact supplyReset_legal i legal
  · exact legal

/-- A command that is one event, whose body leaves both tables as they were. -/
theorem commandLegal_of_same {c : Instr} (f : Ev → Ev) (row : exec c = event f) (same : ∀ e, (f e).st.bothTables = e.st.bothTables) :
    CommandLegal c := fun _ _ legal answer => event_legal (bodyLegal_of_same same) legal (row ▸ answer)

/-- A request row. -/
theorem commandLegal_of_request {c : Instr} (r : Requester) (code : Nat) (lanes : List Lane) (row : exec c = event (anyRequest r code lanes)) :
    CommandLegal c := fun _ _ legal answer => event_legal (anyRequest_legal r code lanes) legal (row ▸ answer)

/-- Every command leaves legal tables legal: requests and the teach line alone change them while the hub runs. -/
theorem exec_legal (c : Instr) : CommandLegal c := by
  cases c with
  | frameBoundary p => exact fun _ _ => event_legal (frameBoundary_legal p)
  | transmitStart p => exact commandLegal_of_same _ rfl fun e => setPort_bothTables e.st p _
  | transmissionCompletion p i => exact transmissionCompletion_legal p i
  | resetEntry => exact resetEntry_legal
  | resetEnd i => exact resetEnd_legal i
  | localSample a0 a1 a2 a3 => exact commandLegal_of_same _ rfl fun e => updateSlots_bothTables _ e
  | slotAgeExpiry k => exact commandLegal_of_same _ rfl fun e => guardedEv_bothTables (setSlot_bothTables k _ e)
  | podTimeoutExpiry p => exact commandLegal_of_same _ rfl fun e => guardedEv_bothTables (podExpired_bothTables p e)
  | localPinChange i level =>
    intro _ _ legal answer
    obtain rfl := Host.Outcome.next.inj answer
    exact legal
  | debounceHoldExpiry i => exact commandLegal_of_same _ rfl fun e => guarded_bothTables (inputSettled_bothTables i e.st)
  | currentSample o tens =>
    exact commandLegal_of_same _ rfl fun e => (checkSample_bothTables o _ _).trans (evalConds_bothTables _ _)
  | softStartCount o => exact commandLegal_of_same _ rfl fun _ => rfl
  | checkWindowOpen o => exact commandLegal_of_same _ rfl fun _ => rfl
  | retryExpiry o => exact commandLegal_of_same _ rfl fun e => guarded_bothTables (t := retryExpired o e.st) rfl
  | fanSlewStep => exact commandLegal_of_same _ rfl fun _ => rfl
  | stallExpiry o => exact commandLegal_of_same _ rfl fun e => guardedEv_bothTables (e := e) (reportFault_bothTables .stall o.val _ e)
  | phaseExpiry i => exact commandLegal_of_same _ rfl fun e => guarded_bothTables (t := phaseExpired i e.st) (handContexts_bothTables _ _ e.st)
  | gapExpiry o => exact commandLegal_of_same _ rfl fun e => guarded_bothTables (s := e.st) rfl
  | modulatorStep => exact commandLegal_of_same _ rfl fun _ => rfl
  | vsUpdate sample => exact commandLegal_of_same _ rfl fun e => handOnVs_bothTables _
  | enterTimerExpiry => exact commandLegal_of_same _ rfl fun e => guarded_bothTables (enterExpired_bothTables e.st)
  | restoreTimerExpiry => exact commandLegal_of_same _ rfl fun e => guarded_bothTables (restoreExpired_bothTables e.st)
  | uptimeTick => exact commandLegal_of_same _ rfl fun _ => rfl
  | refreshExpiry =>
    exact commandLegal_of_same _ rfl fun e => guarded_bothTables (refreshExpired_bothTables e.st)
  | ident r lanes => exact commandLegal_of_request r 0 lanes rfl
  | read r lanes => exact commandLegal_of_request r 1 lanes rfl
  | write r lanes => exact commandLegal_of_request r 2 lanes rfl
  | curvePointWrite r curve field value => exact commandLegal_of_request r 2 _ rfl
  | slotConfigWrite r slot field value => exact commandLegal_of_request r 2 _ rfl
  | podTimeoutWrite r pod value => exact commandLegal_of_request r 2 _ rfl
  | conditionWrite r entry field value => exact commandLegal_of_request r 2 _ rfl
  | loadEntryWrite r output field value => exact commandLegal_of_request r 2 _ rfl
  | gaugeEntryWrite r channel field value => exact commandLegal_of_request r 2 _ rfl
  | detectMaskWrite r value => exact commandLegal_of_request r 2 _ rfl
  | refreshWrite r value => exact commandLegal_of_request r 2 _ rfl
  | teachGaugeWrite r target => exact commandLegal_of_request r 2 _ rfl
  | openCurve r lanes => exact commandLegal_of_request r 3 lanes rfl
  | closeCurve r lanes => exact commandLegal_of_request r 4 lanes rfl
  | commit r lanes => exact commandLegal_of_request r 5 lanes rfl
  | commitCompletion verified => exact commandLegal_of_same _ rfl fun e => completeCommit_bothTables verified e
  | readLive r lanes => exact commandLegal_of_request r 6 lanes rfl
  | clearFaults r lanes => exact commandLegal_of_request r 7 lanes rfl
  | readCapture r lanes => exact commandLegal_of_request r 8 lanes rfl
  | releaseCapture r lanes => exact commandLegal_of_request r 9 lanes rfl
  | restart r lanes => exact commandLegal_of_request r 10 lanes rfl
  | teachPinChange high =>
    intro _ _ legal answer
    obtain rfl := Host.Outcome.next.inj answer
    exact legal
  | teachHoldExpiry =>
    refine fun s t => event_legal fun e legal => ?_
    show State.tablesLegal (if e.st.mgmt.pin.hold.isSome then teachSettled e.st else e.st)
    split
    · exact teachSettled_legal legal
    · exact legal
  | teachLockoutExpiry => exact commandLegal_of_same _ rfl fun _ => rfl
  | windowExpiry => exact commandLegal_of_same _ rfl fun e => guarded_bothTables (cancelTeach_bothTables e.st)
  | characterStart p b => exact commandLegal_of_same _ rfl fun e => setPort_bothTables e.st p _
  | characterFault p => exact commandLegal_of_same _ rfl fun e => setPort_bothTables e.st p _

/-- Settles O7: every command leaves legal tables legal, and the command queue plays no part in it. -/
theorem tablesStayLegal : Obligations.TablesStayLegal := by
  intro s t legal taken
  unfold step at taken
  split at taken
  · obtain rfl := Host.Outcome.next.inj taken
    exact legal
  · next c rest _ => exact exec_legal c { s with pending := rest } t legal taken

end Sys2Proof.Machine
end

section
/-! PROOFS. The curve engine (R36 to R42): interpolation, validation, and the writes of a curve's points. -/

namespace Sys2Proof.Machine

/-! Division to the nearest integer (R39). -/

theorem divNearest_nonneg {p : Int} (h : 0 ≤ p) (q : Nat) : divNearest p q = ((2 * p.natAbs + q) / (2 * q) : Nat) := if_pos h

/-- The division is symmetric about 0. -/
theorem divNearest_neg (p : Int) {q : Nat} (pos : 0 < q) : divNearest (-p) q = -divNearest p q := by
  have zero : (2 * 0 + q) / (2 * q) = 0 := Nat.div_eq_of_lt (by omega)
  unfold divNearest
  rw [Int.natAbs_neg]
  rcases lt_trichotomy p 0 with neg | rfl | pos'
  · rw [if_pos (by omega), if_neg (by omega), neg_neg]
  · simp only [Int.neg_zero, le_refl, if_true, Int.natAbs_zero, zero]
    rfl
  · rw [if_neg (by omega), if_pos (by omega)]

theorem nearestAway_neg {p n : Int} {q : Nat} (h : nearestAway p q n) : nearestAway (-p) q (-n) := by
  unfold nearestAway at h ⊢
  rwa [show -p - -n * q = -(p - n * q) by ring, show -n * (q : Int) = -(n * q) by ring, Int.natAbs_neg, Int.natAbs_neg, Int.natAbs_neg]

theorem divNearest_nearestAway_nonneg {p : Int} (h : 0 ≤ p) {q : Nat} (pos : 0 < q) : nearestAway p q (divNearest p q) := by
  obtain ⟨n, rfl⟩ := Int.eq_ofNat_of_zero_le h
  rw [divNearest_nonneg h, Int.natAbs_natCast]
  have below := Nat.div_mul_le_self (2 * n + q) (2 * q)
  have above := Nat.lt_div_mul_add (a := 2 * n + q) (b := 2 * q) (by omega)
  have regroup : (2 * n + q) / (2 * q) * (2 * q) = 2 * ((2 * n + q) / (2 * q) * q) := by ring
  unfold nearestAway
  rw [regroup] at below above
  rw [← Int.natCast_mul]
  generalize (2 * n + q) / (2 * q) * q = m at below above
  omega

/-- The quotient is the nearest integer, halves away from zero (R39). -/
theorem divNearest_nearestAway (p : Int) {q : Nat} (pos : 0 < q) : nearestAway p q (divNearest p q) := by
  by_cases h : 0 ≤ p
  · exact divNearest_nearestAway_nonneg h pos
  · have mirrored := nearestAway_neg (divNearest_nearestAway_nonneg (p := -p) (by omega) pos)
    rwa [divNearest_neg p pos, neg_neg, neg_neg] at mirrored

/-- A part of a distance, rounded, is within the distance. -/
theorem divNearest_part_nonneg (d t q : Nat) (pos : 0 < q) (le : t ≤ q) :
    0 ≤ divNearest ((d : Int) * t) q ∧ divNearest ((d : Int) * t) q ≤ d := by
  have part : (2 * (d * t) + q) / (2 * q) ≤ d := by
    have mono : d * t ≤ d * q := Nat.mul_le_mul_left d le
    refine Nat.le_of_lt_succ ((Nat.div_lt_iff_lt_mul (by omega)).mpr ?_)
    calc 2 * (d * t) + q < 2 * (d * q) + 2 * q := by omega
      _ = (d + 1) * (2 * q) := by ring
  rw [← Int.natCast_mul, divNearest_nonneg (Int.natCast_nonneg _), Int.natAbs_natCast]
  exact ⟨Int.natCast_nonneg _, Int.ofNat_le.mpr part⟩

theorem divNearest_part (d : Int) (t q : Nat) (pos : 0 < q) (le : t ≤ q) :
    min 0 d ≤ divNearest (d * t) q ∧ divNearest (d * t) q ≤ max 0 d := by
  obtain ⟨n, rfl | rfl⟩ := d.eq_nat_or_neg
  · have part := divNearest_part_nonneg n t q pos le
    omega
  · have part := divNearest_part_nonneg n t q pos le
    rw [Int.neg_mul, divNearest_neg _ pos]
    omega

/-! One segment (R39). -/

/-- Within a segment the output is y of its start with the rounded part of the rise, and lies between its ends. -/
theorem segmentOutput_between {a b : Point} {r : Nat} (low : a.x ≤ r) (high : r < b.x) :
    (∃ n : Int, nearestAway (((b.y : Int) - a.y) * ((r : Int) - a.x)) (b.x - a.x) n ∧ (segmentOutput a b r : Int) = a.y + n) ∧
      min a.y b.y ≤ segmentOutput a b r ∧ segmentOutput a b r ≤ max a.y b.y := by
  have part := divNearest_part ((b.y : Int) - a.y) (r - a.x) (b.x - a.x) (by omega) (by omega)
  rw [Nat.cast_sub low] at part
  have near := divNearest_nearestAway (((b.y : Int) - a.y) * ((r : Int) - a.x)) (q := b.x - a.x) (by omega)
  unfold segmentOutput
  generalize divNearest (((b.y : Int) - a.y) * ((r : Int) - a.x)) (b.x - a.x) = n at part near ⊢
  exact ⟨⟨n, near, by omega⟩, by omega, by omega⟩

theorem segmentOutput_start (a b : Point) (h : a.x < b.x) : segmentOutput a b a.x = a.y := by
  have zero : divNearest 0 (b.x - a.x) = 0 := by
    have := divNearest_part 0 0 (b.x - a.x) (by omega) (by omega)
    simpa [le_antisymm_iff, and_comm] using this
  simp [segmentOutput, zero]

/-! The points of a legal curve (R37). -/

/-- Legal points ascend, and their outputs are on the scale. -/
theorem pointsLegal_ascend : ∀ (l : List Point) (before : Option Nat), pointsLegal before l = true →
    (∀ p ∈ l, p.y ≤ 1000) ∧ (∀ x, before = some x → ∀ p ∈ l, x < p.x) ∧ l.Pairwise fun a b => a.x < b.x
  | [], _, _ => by simp
  | p :: ps, before, h => by
    unfold pointsLegal at h
    simp only [Bool.and_eq_true, decide_eq_true_eq] at h
    obtain ⟨⟨scale, above⟩, rest⟩ := h
    obtain ⟨scales, ascend, sorted⟩ := pointsLegal_ascend ps (some p.x) rest
    have first : ∀ x, before = some x → x < p.x := by
      rintro x rfl
      exact of_decide_eq_true above
    refine ⟨List.forall_mem_cons.mpr ⟨scale, scales⟩, fun x hx => List.forall_mem_cons.mpr ⟨first x hx, fun q hq => ?_⟩,
      List.pairwise_cons.mpr ⟨ascend p.x rfl, sorted⟩⟩
    exact (first x hx).trans (ascend p.x rfl q hq)

section
variable {a : Point} {rest : List Point} (sorted : (a :: rest).Pairwise fun a b => a.x < b.x) (r : Nat)
include sorted

/-- The first point of ascending points is the lowest. -/
theorem first_lowest {i : Nat} {p : Point} (h : (a :: rest)[i]? = some p) : a.x ≤ p.x ∧ (p.x ≤ a.x → i = 0) := by
  cases i with
  | zero =>
    obtain rfl := Option.some.inj h
    exact ⟨le_rfl, fun _ => rfl⟩
  | succ i =>
    have above := (List.pairwise_cons.mp sorted).1 p (List.mem_of_getElem? h)
    omega

end

/-- From the start on, the output in a segment is that segment's (R39). -/
theorem outputFrom_segment (r : Nat) : ∀ (rest : List Point) (a : Point) (i : Nat) (p q : Point),
    (a :: rest).Pairwise (fun a b => a.x < b.x) → (a :: rest)[i]? = some p → (a :: rest)[i + 1]? = some q → p.x ≤ r → r < q.x →
    outputFrom a rest r = segmentOutput p q r
  | [], _, _, _, _, _, _, h, _, _ => by simp at h
  | b :: more, a, 0, p, q, _, hp, hq, _, high => by
    obtain rfl := Option.some.inj hp
    obtain rfl := Option.some.inj hq
    exact if_pos high
  | b :: more, a, i + 1, p, q, sorted, hp, hq, low, high => by
    have later := (List.pairwise_cons.mp sorted).2
    have lowest := (first_lowest later hp).1
    exact (if_neg (by omega)).trans (outputFrom_segment r more b i p q later hp hq low high)

/-- At or above the last point the output is its y (R38). -/
theorem outputFrom_last (r : Nat) : ∀ (rest : List Point) (a p : Point), (a :: rest).Pairwise (fun a b => a.x < b.x) →
    (a :: rest)[rest.length]? = some p → p.x ≤ r → outputFrom a rest r = p.y
  | [], a, p, _, hp, _ => by
    obtain rfl := Option.some.inj hp
    rfl
  | b :: more, a, p, sorted, hp, high => by
    have later := (List.pairwise_cons.mp sorted).2
    have lowest := (first_lowest later (i := more.length) hp).1
    exact (if_neg (by omega)).trans (outputFrom_last r more b p later hp high)

/-- The output is on the scale (R37, R39). -/
theorem outputFrom_le (r : Nat) : ∀ (rest : List Point) (a : Point), (∀ p ∈ a :: rest, p.y ≤ 1000) → a.x ≤ r →
    outputFrom a rest r ≤ 1000
  | [], a, scale, _ => scale a (by simp)
  | b :: more, a, scale, low => by
    unfold outputFrom
    split
    · have between := (segmentOutput_between low ‹_›).2.2
      have := scale a (by simp)
      have := scale b (by simp)
      omega
    · exact outputFrom_le r more b (fun p hp => scale p (List.mem_cons_of_mem a hp)) (by omega)

/-! A curve in service (R37 to R39). -/

/-- The points in use of a curve in service: two to nine that ascend, on the scale (R37). -/
theorem used_of_legal {c : Curve} (state : c.state = .inService) (legal : c.legal = true) :
    ∃ a rest, c.used = a :: rest ∧ rest.length + 1 = c.count ∧ 2 ≤ c.count ∧ c.count ≤ 9 ∧ (∀ p ∈ a :: rest, p.y ≤ 1000) ∧
      (a :: rest).Pairwise fun a b => a.x < b.x := by
  unfold Curve.legal at legal
  simp only [state, reduceCtorEq, decide_false, Bool.false_or, Bool.and_eq_true, decide_eq_true_eq] at legal
  obtain ⟨⟨two, nine⟩, points⟩ := legal
  obtain ⟨scale, _, sorted⟩ := pointsLegal_ascend c.used none points
  have length : c.used.length = c.count := by
    unfold Curve.used
    rw [List.length_take, Vector.length_toList]
    omega
  cases used : c.used with
  | nil =>
    rw [used, List.length_nil] at length
    omega
  | cons a rest =>
    rw [used] at length scale sorted
    exact ⟨a, rest, rfl, length, two, nine, scale, sorted⟩

/-- A point in use, by its number (R36). -/
theorem used_getElem? (c : Curve) {i : Nat} (h : i < c.count) : c.used[i]? = c.points[i]? := by
  unfold Curve.used
  rw [List.getElem?_take_of_lt h, Vector.getElem?_toList]

theorem output_toNat (c : Curve) {r : Lane} (reading : r ≠ 4095) (scale : c.outputNat r.toNat ≤ 1000) :
    (c.output r).toNat = c.outputNat r.toNat := by
  unfold Curve.output
  rw [if_neg (show r ≠ noReading from reading), BitVec.toNat_ofNat, Nat.mod_eq_of_lt (by omega)]

/-- Settles O27: a reading is below the first point, in one segment, or at or above the last point. -/
theorem curvesInterpolate : Obligations.CurvesInterpolate := by
  unfold Obligations.CurvesInterpolate
  intro c r state legal
  refine ⟨fun none => if_pos none, fun reading => ?_⟩
  obtain ⟨a, rest, used, length, two, nine, scale, sorted⟩ := used_of_legal state legal
  have output : c.outputNat r.toNat = if r.toNat ≤ a.x then a.y else outputFrom a rest r.toNat := by
    unfold Curve.outputNat
    rw [used]
  have onScale : c.outputNat r.toNat ≤ 1000 := by
    rw [output]
    split
    · exact scale a (by simp)
    · exact outputFrom_le _ rest a scale (by omega)
  have point : ∀ i, i < c.count → (a :: rest)[i]? = c.points[i]? := fun i hi => used ▸ used_getElem? c hi
  have first : c.points[0] = a := by
    have head := point 0 (by omega)
    rw [Vector.getElem?_eq_getElem (by decide)] at head
    exact (Option.some.inj head).symm
  rw [output_toNat c reading onScale]
  refine ⟨onScale, fun low => ?_, fun p hp high => ?_, fun i p q hi hp hq low high => ?_⟩
  · rw [output, if_pos (first ▸ low), first]
  · rw [← point _ (by omega)] at hp
    have above := first_lowest sorted hp
    rw [output, if_neg (by omega)]
    exact outputFrom_last _ rest a p sorted (by rwa [show rest.length = c.count - 1 by omega]) high
  · rw [← point _ (by omega)] at hp hq
    have segment : c.outputNat r.toNat = segmentOutput p q r.toNat := by
      rw [output]
      split
      · next below =>
        have above := first_lowest sorted hp
        obtain rfl := above.2 (by omega)
        obtain rfl := Option.some.inj hp
        rw [show r.toNat = a.x by omega, segmentOutput_start a q (by omega)]
      · exact outputFrom_segment _ rest a i p q sorted hp hq low high
    rw [segment]
    exact segmentOutput_between low high

end Sys2Proof.Machine
end

section
/-! PROOFS. OPEN_CURVE and CLOSE_CURVE (R40, R42), and CURVE_POINT_WRITE (R36, R41). -/

namespace Sys2Proof.Machine

/-! The teach sequence that an edit of a curve ends (R40, R187). -/

theorem cancelTeach_eq (s : State) : cancelTeach s = teachEnded s := by
  unfold cancelTeach teachEnded teachWaits
  cases s.mgmt.teach <;> rfl

theorem teachGaugeReads_iff (t : Tables) (c : Fin 8) :
    teachGaugeReads t c = true ↔ ∃ g, t.hub.teachGauge = some g ∧ t.gauges[g].curve = some c := by
  unfold teachGaugeReads
  cases t.hub.teachGauge <;> simp

/-! OPEN_CURVE (R40, R180). -/

/-- A service on a lane and more, while no commit runs. -/
theorem oneLane_free {s : State} (lane : Lane) (more : List Lane) (serve : Ev → Ev × Answer) (free : committing s = false) :
    needLanes 1 (lane :: more) (unlessCommitting serve) (Ev.start s) = serve (Ev.start s) := by
  unfold needLanes unlessCommitting
  rw [if_neg (by simp), if_neg (by rw [Bool.not_eq_true]; exact free)]

theorem serveOpenCurve_index {s : State} (lane : Lane) (more : List Lane) (free : committing s = false) (h : 8 ≤ lane.toNat) :
    serveOpenCurve (lane :: more) (Ev.start s) = refuse .badIndex (Ev.start s) :=
  (oneLane_free lane more _ free).trans (dif_neg (Nat.not_lt.mpr h))

theorem serveOpenCurve_taken {s : State} (lane : Lane) (more : List Lane) (c : Fin 8) (free : committing s = false)
    (h : lane.toNat = c.val) : serveOpenCurve (lane :: more) (Ev.start s) =
      ({ st := openCurve c s, reply := none, faults := [] }, some (.ok, [])) := by
  obtain ⟨c, small⟩ := c
  obtain rfl : lane.toNat = c := h
  exact (oneLane_free lane more _ free).trans (dif_pos small)

theorem openCurve_links (c : Fin 8) (s : State) : (openCurve c s).links = s.links := by
  show (if teachGaugeReads s.tables c then cancelTeach s else s).links = s.links
  split
  · exact cancelTeach_links s
  · rfl

/-- The hub with a curve opened, in the words of the statement (R40). -/
theorem openCurve_eq (c : Fin 8) (s : State) : openCurve c s =
    { (if ∃ g, s.tables.hub.teachGauge = some g ∧ s.tables.gauges[g].curve = some c then teachEnded s else s) with
      tables := { s.tables with curves := s.tables.curves.set c { s.tables.curves[c] with state := .edit } } } := by
  unfold openCurve setCurveState
  simp only [← teachGaugeReads_iff, cancelTeach_eq]
  have tables : (teachEnded s).tables = s.tables := cancelTeach_eq s ▸ cancelTeach_tables s
  split
  · rw [tables]
    rfl
  · rfl

/-! CLOSE_CURVE (R42, R180). -/

/-- A point offends among these, examined against the x before it (R42). -/
def offendsIn (before : Option Nat) (l : List Point) (i : Nat) : Prop :=
  ∃ a, l[i]? = some a ∧ (1000 < a.y ∨ ∃ x, (if i = 0 then before else (l[i - 1]?).map Point.x) = some x ∧ a.x ≤ x)

theorem offendsIn_zero (before : Option Nat) (p : Point) (ps : List Point) :
    offendsIn before (p :: ps) 0 ↔ 1000 < p.y ∨ ∃ x, before = some x ∧ p.x ≤ x := by
  simp [offendsIn]

theorem offendsIn_succ (before : Option Nat) (p : Point) (ps : List Point) (i : Nat) :
    offendsIn before (p :: ps) (i + 1) ↔ offendsIn (some p.x) ps i := by
  unfold offendsIn
  cases i <;> simp

/-- The search finds no point, or the first that offends (R42). -/
theorem offendingFrom_cons (i : Nat) (before : Option Nat) (p : Point) (ps : List Point) :
    (offendsIn before (p :: ps) 0 → offendingFrom i before (p :: ps) = some i) ∧
      (¬ offendsIn before (p :: ps) 0 → offendingFrom i before (p :: ps) = offendingFrom (i + 1) (some p.x) ps) := by
  have unfolded : offendingFrom i before (p :: ps) = if 1000 < p.y then some i else match before with
      | some x => if p.x ≤ x then some i else offendingFrom (i + 1) (some p.x) ps
      | none => offendingFrom (i + 1) (some p.x) ps := by
    cases before <;> rfl
  rw [offendsIn_zero, unfolded]
  by_cases high : 1000 < p.y
  · simp [high]
  · cases before with
    | none => simp [high]
    | some x => by_cases low : p.x ≤ x <;> simp [high, low]

theorem offendingFrom_none : ∀ (l : List Point) (i : Nat) (before : Option Nat), (∀ k, ¬ offendsIn before l k) →
    offendingFrom i before l = none
  | [], _, _, _ => rfl
  | p :: ps, i, before, sound => by
    rw [(offendingFrom_cons i before p ps).2 (sound 0)]
    exact offendingFrom_none ps (i + 1) (some p.x) fun k => mt (offendsIn_succ before p ps k).mpr (sound (k + 1))

theorem offendingFrom_first : ∀ (l : List Point) (i k : Nat) (before : Option Nat), offendsIn before l k →
    (∀ j, j < k → ¬ offendsIn before l j) → offendingFrom i before l = some (i + k)
  | [], _, _, _, ⟨_, h, _⟩, _ => by simp at h
  | p :: ps, i, 0, before, offends, _ => (offendingFrom_cons i before p ps).1 offends
  | p :: ps, i, k + 1, before, offends, first => by
    rw [(offendingFrom_cons i before p ps).2 (first 0 (by omega)), offendingFrom_first ps (i + 1) k (some p.x)
      ((offendsIn_succ before p ps k).mp offends) fun j hj => mt (offendsIn_succ before p ps j).mpr (first (j + 1) (by omega))]
    exact congrArg some (by omega)

/-- Among the points in use, the statement's offending points are those of the search. -/
theorem offends_iff (c : Curve) {i : Nat} (h : i < c.count) : c.offends i ↔ offendsIn none c.used i := by
  unfold Curve.offends offendsIn
  rw [used_getElem? c h]
  cases i with
  | zero => simp
  | succ i =>
    rw [if_neg (by omega), Nat.add_sub_cancel, used_getElem? c (by omega)]
    simp

theorem offendsIn_used (c : Curve) {i : Nat} (h : offendsIn none c.used i) : i < c.count := by
  obtain ⟨a, ha, _⟩ := h
  have inside := (List.getElem?_eq_some_iff.mp ha).1
  unfold Curve.used at inside
  rw [List.length_take] at inside
  omega

theorem offending_of_count {c : Curve} (two : 2 ≤ c.count) (nine : c.count ≤ 9) : c.offending = offendingFrom 0 none c.used := by
  unfold Curve.offending
  rw [if_neg (by omega), if_neg (by omega)]

theorem serveCloseCurve_index {s : State} (lane : Lane) (more : List Lane) (free : committing s = false) (h : 8 ≤ lane.toNat) :
    serveCloseCurve (lane :: more) (Ev.start s) = refuse .badIndex (Ev.start s) :=
  (oneLane_free lane more _ free).trans (dif_neg (Nat.not_lt.mpr h))

theorem serveCloseCurve_curve {s : State} (lane : Lane) (more : List Lane) (c : Fin 8) (free : committing s = false)
    (h : lane.toNat = c.val) : serveCloseCurve (lane :: more) (Ev.start s) =
      match s.tables.curves[c].state with
      | .inService => refuse .notEdit (Ev.start s)
      | .edit =>
        match s.tables.curves[c].offending with
        | some i => (Ev.start s, some (.badCurve, [laneOf i]))
        | none => ({ st := setCurveState c .inService s, reply := none, faults := [] }, some (.ok, [])) := by
  obtain ⟨c, small⟩ := c
  obtain rfl : lane.toNat = c := h
  exact (oneLane_free lane more _ free).trans (dif_pos small)

section
variable {s : State} (r : Requester) (lane : Lane) (more : List Lane) {c : Fin 8} (takes : s.takesRequests)
  (free : committing s = false) (h : lane.toNat = c.val)
include takes free h

/-- A curve in EDIT with an offending point is answered with its index. -/
theorem exec_closeCurve_bad (edit : s.tables.curves[c].state = .edit) {i : Nat} (bad : s.tables.curves[c].offending = some i) :
    exec (.closeCurve r (lane :: more)) s = .next (answered s r 4 8 [laneOf i]) := by
  refine (event_request s s r 4 _ .badCurve [laneOf i] takes takes.copied ?_ (by decide)).trans ?_
  · rw [serveCloseCurve_curve lane more c free h, edit, bad]
    rfl
  · rw [afterNeed_still rfl rfl rfl]
    rfl

end

/-- Settles O28: the services of the two rows, and the search for the first offending point. -/
theorem curvesOpenAndClose : Obligations.CurvesOpenAndClose := by
  unfold Obligations.CurvesOpenAndClose
  refine ⟨fun s r lane more takes free => ⟨?_, fun big => ?_, fun c h => ?_⟩,
    fun s r lane more takes free => ⟨?_, fun big => ?_, fun c h => ⟨fun serves => ?_, fun edit nine => ⟨fun few => ?_,
      fun i two hi offends first => ?_, fun two sound => ?_⟩⟩⟩⟩
  · exact event_refused s r 3 _ .badReq takes rfl (by decide)
  · exact event_refused s r 3 _ .badIndex takes (serveOpenCurve_index lane more free big) (by decide)
  · have made := onward_copiesMade (onward_of_links (openCurve_links c s)) takes.copied
    have answer := event_request s (openCurve c s) r 3 _ .ok [] takes made (serveOpenCurve_taken lane more c free h) (by decide)
    rw [openCurve_eq] at answer
    exact answer
  · exact event_refused s r 4 _ .badReq takes rfl (by decide)
  · exact event_refused s r 4 _ .badIndex takes (serveCloseCurve_index lane more free big) (by decide)
  · refine event_refused s r 4 _ .notEdit takes ?_ (by decide)
    rw [serveCloseCurve_curve lane more c free h, serves]
  · exact exec_closeCurve_bad r lane more takes free h edit (if_pos few)
  · refine exec_closeCurve_bad r lane more takes free h edit ?_
    rw [offending_of_count two nine, offendingFrom_first _ 0 i none ((offends_iff _ hi).mp offends)
      fun j hj => mt (offends_iff _ (by omega)).mpr (first j hj), Nat.zero_add]
  · have none : s.tables.curves[c].offending = none := by
      rw [offending_of_count two nine]
      exact offendingFrom_none _ 0 none fun k offends =>
        sound k (offendsIn_used _ offends) ((offends_iff _ (offendsIn_used _ offends)).mpr offends)
    have still : afterNeed s (setCurveState c .inService s) = setCurveState c .inService s := afterNeed_still rfl rfl rfl
    refine (event_request s (setCurveState c .inService s) r 4 _ .ok [] takes takes.copied ?_ (by decide)).trans (by rw [still]; rfl)
    rw [serveCloseCurve_curve lane more c free h, edit, none]

/-! A WRITE row of its own (R174, R176). -/

/-- The row's address, field and value are those of its lanes. -/
theorem serveWrite_row {s : State} {table : Nat} (small : table < 16) (index : BitVec 8) (field : Lane) (v : BitVec 24)
    (free : committing s = false) :
    serveWrite (writeLanes table index field v) (Ev.start s) = writeField table index.toNat field.toNat v.toNat (Ev.start s) := by
  have hi := index.isLt
  have hv := v.isLt
  refine (serveWrite_free s _ _ _ _ [] free).trans ?_
  unfold lanesValue
  simp only [laneOf_toNat]
  congr 1 <;> omega

section
variable {s : State} (r : Requester) {table : Nat} (small : table < 16) {index : BitVec 8} {field : Lane} {v : BitVec 24}
  (takes : s.takesRequests) (free : committing s = false)
include small takes free

/-- A row that a check refuses is answered with its status (R176). -/
theorem event_write_refused {status : Status} {t : Tables}
    (checked : s.tables.writeChecked table index.toNat field.toNat v.toNat = (status, t)) (bad : status ≠ .ok) :
    event (requestEvent r 2 (serveWrite (writeLanes table index field v))) s = .next (answered s r 2 status.code []) := by
  refine event_refused s r 2 _ status takes ?_ (by decide)
  rw [serveWrite_row small index field v free]
  exact writeField_refused checked bad

/-- A row that is taken and has no other effect is answered OK (R176). -/
theorem event_write_taken {u : Tables} (checked : s.tables.writeChecked table index.toNat field.toNat v.toNat = (.ok, u))
    (plain : ∀ e, writeEffect table index.toNat field.toNat e = e) :
    event (requestEvent r 2 (serveWrite (writeLanes table index field v))) s = .next (answered { s with tables := u } r 2 0 []) := by
  have still : afterNeed s { s with tables := u } = { s with tables := u } := afterNeed_still rfl rfl rfl
  refine (event_request s { s with tables := u } r 2 _ .ok [] takes takes.copied ?_ (by decide)).trans (by rw [still]; rfl)
  rw [serveWrite_row small index field v free, writeField_taken checked, plain]
  rfl

/-- A row without an entry of its index is answered BADINDEX. -/
theorem event_write_badIndex (known : table ≤ 9) (beyond : tableEntries table ≤ index.toNat) :
    event (requestEvent r 2 (serveWrite (writeLanes table index field v))) s = .next (answered s r 2 3 []) := by
  have bad : addressStatus table index.toNat field.toNat = .badIndex := by
    unfold addressStatus
    rw [if_neg (by omega), if_pos beyond]
  exact event_write_refused r small takes free ((writeChecked_address _ _ (by rw [bad]; decide)).trans (by rw [bad])) (by decide)

/-- A row without a field of its number is answered BADFIELD. -/
theorem event_write_badField (known : table ≤ 9) (entry : index.toNat < tableEntries table) (beyond : tableFields table ≤ field.toNat) :
    event (requestEvent r 2 (serveWrite (writeLanes table index field v))) s = .next (answered s r 2 4 []) := by
  have bad : addressStatus table index.toNat field.toNat = .badField := by
    unfold addressStatus
    rw [if_neg (by omega), if_neg (by omega), if_pos beyond]
  exact event_write_refused r small takes free ((writeChecked_address _ _ (by rw [bad]; decide)).trans (by rw [bad])) (by decide)

end

/-- The write of one entry of a table. -/
theorem writeEntry_fin {α : Type} {n : Nat} (v : Vector α n) (i : Fin n) (f : α → Option α) :
    writeEntry v i.val f = (f v[i]).map fun x => v.set i x := dif_pos i.isLt

/-! CURVE_POINT_WRITE (R36, R41). -/

theorem curveAddress {index field : Nat} (c : Fin 8) (h : index = c.val) (small : field < 20) : addressStatus 1 index field = .ok :=
  (addressStatus_ok_iff _ _ _).mpr ((addressCode_eq_zero _ _ _).mpr ⟨by decide, h ▸ c.isLt, small⟩)

/-- The checks of a point of a curve in EDIT: the value alone decides (R41). -/
theorem writeChecked_point {t : Tables} {index field : Nat} (v : Nat) (c : Fin 8) (h : index = c.val) (small : field < 19)
    (edit : t.curves[c].state = .edit) : t.writeChecked 1 index field v =
      match t.curves[c].writeField field v with
      | some x => (.ok, { t with curves := t.curves.set c x })
      | none => (.badValue, t) := by
  subst h
  have opened : t.curveInEdit c.val = true := by
    unfold Tables.curveInEdit
    rw [Vector.getElem?_eq_getElem c.isLt]
    exact decide_eq_true edit
  unfold Tables.writeChecked Tables.writeField
  rw [curveAddress c rfl (by omega)]
  simp only
  rw [if_neg (by omega), if_neg (by simp [opened]), writeEntry_fin]
  cases t.curves[c].writeField field v <;> rfl

section
variable {s : State} (r : Requester) {curve : BitVec 8} {field : Lane} (v : BitVec 24) (takes : s.takesRequests)
  (free : committing s = false) {c : Fin 8} (h : curve.toNat = c.val)
include takes free h

/-- A field of a curve in EDIT takes the values of its range (R41). -/
theorem exec_curvePointWrite_edit (small : field.toNat < 19) (edit : s.tables.curves[c].state = .edit) :
    exec (.curvePointWrite r curve field v) s = .next (match s.tables.curves[c].writeField field.toNat v.toNat with
      | some x => answered { s with tables := { s.tables with curves := s.tables.curves.set c x } } r 2 0 []
      | none => answered s r 2 5 []) := by
  have checked := writeChecked_point v.toNat c h small edit
  cases taken : s.tables.curves[c].writeField field.toNat v.toNat with
  | none =>
    rw [taken] at checked
    exact event_write_refused r (by decide) takes free checked (by decide)
  | some x =>
    rw [taken] at checked
    exact event_write_taken r (by decide) takes free checked fun _ => rfl

/-- The answer to a value of one interval. -/
theorem exec_curvePointWrite_ranged (small : field.toNat < 19) (edit : s.tables.curves[c].state = .edit) {hi : Nat} {x : Curve}
    (value : s.tables.curves[c].writeField field.toNat v.toNat = ranged v.toNat 0 hi x) : exec (.curvePointWrite r curve field v) s =
      .next (if v.toNat ≤ hi then answered { s with tables := { s.tables with curves := s.tables.curves.set c x } } r 2 0 []
        else answered s r 2 5 []) := by
  rw [exec_curvePointWrite_edit r v takes free h small edit, value]
  unfold ranged
  by_cases within : v.toNat ≤ hi <;> simp [within]

end

/-- Settles O29: the checks of a WRITE to a curve, and the ranges of its fields. -/
theorem curvePointsAreWrittenInEdit : Obligations.CurvePointsAreWrittenInEdit := by
  unfold Obligations.CurvePointsAreWrittenInEdit
  intro s r curve field v takes free cmd
  refine ⟨fun big => event_write_badIndex r (by decide) takes free (by decide) big, fun c h => ?_⟩
  have entry : curve.toNat < 8 := h ▸ c.isLt
  refine ⟨fun big => ?_, fun small serves => ?_, fun edit => ⟨fun count => ?_, fun i x => ?_, fun i y => ?_⟩⟩
  · by_cases state : field.toNat = 19
    · exact event_write_refused r (by decide) takes free
        (writeChecked_state s.tables v.toNat (curveAddress c h (by omega)) rfl state) (by decide)
    · exact event_write_badField r (by decide) takes free (by decide) entry (show 20 ≤ field.toNat by omega)
  · have closed := curveInEdit_eq_false entry fun d hd => (Fin.ext (hd.trans h) : d = c) ▸ serves
    exact event_write_refused r (by decide) takes free
      (writeChecked_closed s.tables v.toNat (curveAddress c h (by omega)) rfl (by omega) closed) (by decide)
  · subst count
    exact exec_curvePointWrite_ranged r v takes free h (by decide) edit rfl
  · refine exec_curvePointWrite_ranged r v takes free h (by omega) edit ?_
    unfold Curve.writeField
    rw [if_neg (by omega), x, pointOfField_x i.val i.isLt]
  · refine exec_curvePointWrite_ranged r v takes free h (by omega) edit ?_
    unfold Curve.writeField
    rw [if_neg (by omega), y, pointOfField_y i.val i.isLt]

end Sys2Proof.Machine
end

section
/-! PROOFS. The events of slots alone: LOCAL_SAMPLE, SLOT_AGE_EXPIRY and SLOT_CONFIG_WRITE (R45 to R51), in the words of the statements. -/

namespace Sys2Proof.Machine

/-! An event of slots from its change to its end. -/

/-- The hub with other slots: their configurations and their live state. -/
def State.withSlots (s : State) (configs : Vector SlotConfig 16) (live : Vector SlotLive 16) : State :=
  { s with tables := { s.tables with slots := configs }, slots := live }

/-- What an event of these slots has made of `s`, the slots themselves apart. -/
structure State.slotsFollowed (changed : Fin 16 → Bool) (s t : State) : Prop where
  gauges : gaugesFollow s t changed
  conds : conditionsFollow s t changed
  senders : sendersFollow s t changed
  edges : slotEdgesMove s t changed

/-- It is read from what reports leave alone. -/
theorem slotsFollowed_of_lessReports {changed : Fin 16 → Bool} {s t w : State} (same : t.lessReports = w.lessReports)
    (h : s.slotsFollowed changed w) : s.slotsFollowed changed t := by
  obtain ⟨gauges, conds, senders, edges⟩ := h
  have gauges' : gaugesFollow s w.lessReports changed := gauges
  have conds' : conditionsFollow s w.lessReports changed := conds
  have senders' : sendersFollow s w.lessReports changed := senders
  have edges' : slotEdgesMove s w.lessReports changed := edges
  rw [← same] at gauges' conds' senders' edges'
  exact ⟨gauges', conds', senders', edges'⟩

/-- The hand-on of a slot event and its end, whatever reply it brings (R49). -/
theorem slotEvent_followed {changed : Fin 16 → Bool} {s : State} {configs : Vector SlotConfig 16} {live : Vector SlotLive 16} {e x : Ev}
    (start : e.st = s.withSlots configs live) (body : x.st = (handOnSlots changed e).st) (before : State) :
    (finish before x).slots = live ∧ s.slotsFollowed changed (finish before x) ∧
      (finish before x).bystanders = (s.withSlots configs live).bystanders := by
  have made := handOnSlots_made changed e
  have edges := handOnSlots_edges changed e
  rw [start, ← body] at made edges
  have ended : (finish before x).lessReports = x.st.lessReports := finish_lessReports before x
  have followed : s.slotsFollowed changed x.st :=
    ⟨(handedOn_gauges made :), (handedOn_conditions made :), (handedOn_senders made :), edges⟩
  have rest : (finish before x).bystanders = x.st.lessRuns.lessReports := (congrArg State.lessRuns ended :)
  refine ⟨?_, slotsFollowed_of_lessReports ended followed, rest.trans (congrArg State.lessReports made.rest)⟩
  exact (congrArg State.slots ended).trans (fields_of_lessRuns made.rest).2.1

/-! The capture attempt of a run that loses its reading (R143, R165). -/

/-- What a capture attempt reads stands at a round of the condition unit. -/
theorem evalConds_captured (reads : OperandKind → Nat → Bool) (s : State) (i value : Nat) :
    captured (evalConds reads s) .sender i value = captured s .sender i value ∧
      ((evalConds reads s).faults.capture, (evalConds reads s).faults.lost) = (s.faults.capture, s.faults.lost) := by
  have links := evalConds_lessLinks reads s
  obtain ⟨capture, lost⟩ := capture_of_lessLinks links
  have tables : (evalConds reads s).tables = s.tables := (congrArg State.tables links :)
  refine ⟨captured_congr .sender i value (isSet_of_lessLinks links .sender i (by decide)) tables capture lost
    (congrArg (fun t : State => t.supply.vs) links :) (congrArg (fun t : State => t.faults.uptime) links :), ?_⟩
  rw [capture, lost]

/-- A run that ends in FAULT makes the capture attempt of its SENDER report (R143, R165). -/
theorem runChannel_captured (g : Fin 4) (r : Lane) (e : Ev)
    (fault : (gaugeRun e.st.tables e.st.tables.gauges[g] e.st.supply.ign e.st.supply.vs r e.st.gauges[g]).state = .fault) :
    ((runChannel g r e).st.faults.capture, (runChannel g r e).st.faults.lost) = captured e.st .sender g.val
      (gaugeRun e.st.tables e.st.tables.gauges[g] e.st.supply.ign e.st.supply.vs r e.st.gauges[g]).lastRaw.toNat := by
  have reports := (gaugeRun_fault _ _ _ _ _ _).mp fault
  unfold runChannel
  simp only
  generalize gaugeRun e.st.tables e.st.tables.gauges[g] e.st.supply.ign e.st.supply.vs r e.st.gauges[g] = new at fault
  rw [if_neg (fun leaves : e.st.gauges[g].state = .fault ∧ new.state ≠ .fault => leaves.2 fault), reports]
  let moved : Ev := { e with st := { e.st with gauges := modifyAt e.st.gauges g fun _ => new } }
  obtain ⟨n, order⟩ := anyOrderEv_options (condsConcerned moved.st (affectsGauge g)) true (Ev.on (evalConds (affectsGauge g)))
    (reportFault .sender g.val new.lastRaw.toNat) moved
  have round : ∀ x : Ev, captured ((if condsConcerned moved.st (affectsGauge g) then Ev.on (evalConds (affectsGauge g)) else id) x).st
        .sender g.val new.lastRaw.toNat = captured x.st .sender g.val new.lastRaw.toNat ∧
      (((if condsConcerned moved.st (affectsGauge g) then Ev.on (evalConds (affectsGauge g)) else id) x).st.faults.capture,
        ((if condsConcerned moved.st (affectsGauge g) then Ev.on (evalConds (affectsGauge g)) else id) x).st.faults.lost) =
        (x.st.faults.capture, x.st.faults.lost) := by
    intro x
    split
    · exact evalConds_captured _ x.st _ _
    · exact ⟨rfl, rfl⟩
  unfold gaugeConds
  rcases order with order | order
  · refine (congrArg (fun x : Ev => (x.st.faults.capture, x.st.faults.lost)) order).trans ?_
    exact (reportFault_captured .sender g.val _ _ (by decide)).trans (round _).1
  · refine (congrArg (fun x : Ev => (x.st.faults.capture, x.st.faults.lost)) order).trans ?_
    exact (round _).2.trans (reportFault_captured .sender g.val _ _ (by decide))

/-- A hand-on to one channel is its run, beside the round of the condition unit where an entry reads the slots. -/
theorem handedTo_one {s : State} {changed : Fin 16 → Bool} {g : Fin 4} (runs : runsIn s changed g = true)
    (alone : ∀ h, h ≠ g → runsIn s changed h = false) :
    handedTo s changed = (if condsConcerned s (affectsSlots changed) then [none] else []) ++ [some g] := by
  have one : (List.finRange 4).filter (runsIn s changed) = [g] := by
    refine List.perm_singleton.mp ((List.perm_ext_iff_of_nodup ((List.nodup_finRange 4).filter _) (List.nodup_singleton _)).mpr fun h => ?_)
    rw [List.mem_filter, List.mem_singleton]
    by_cases own : h = g
    · simp [own, runs]
    · simp [own, alone h own]
  unfold handedTo
  rw [one]
  rfl

/-- Where one channel runs and ends in FAULT, the hand-on makes the capture attempt of its SENDER report, in either order (R165). -/
theorem handOnSlots_captured {changed : Fin 16 → Bool} {e : Ev} {g : Fin 4} (runs : runsIn e.st changed g = true)
    (alone : ∀ h, h ≠ g → runsIn e.st changed h = false) (fault : (ranTo e.st g).state = .fault) :
    ((handOnSlots changed e).st.faults.capture, (handOnSlots changed e).st.faults.lost) =
      captured e.st .sender g.val (ranTo e.st g).lastRaw.toNat := by
  let round := condsConcerned e.st (affectsSlots changed)
  have acts : (handedTo e.st changed).map (handOn e.st changed) =
      (if round then [Ev.on (evalConds (affectsSlots changed))] else []) ++ (if true then [runChannel g (sourceValue e.st g)] else []) := by
    rw [handedTo_one runs alone, List.map_append]
    exact congrArg (· ++ _) (by split <;> rfl)
  have handed := handOnSlots_eq changed e
  rw [acts] at handed
  obtain ⟨n, order⟩ := anyOrderEv_options round true (Ev.on (evalConds (affectsSlots changed))) (runChannel g (sourceValue e.st g)) e
  have first : ∃ x : Ev, (if round then Ev.on (evalConds (affectsSlots changed)) else id) (e.counted n) = x ∧
      e.st.sameOperands x.st ∧ captured x.st .sender g.val (ranTo e.st g).lastRaw.toNat =
        captured e.st .sender g.val (ranTo e.st g).lastRaw.toNat := by
    have counted : e.st.sameOperands (e.counted n).st := ⟨rfl, rfl, rfl⟩
    refine ⟨_, rfl, ?_⟩
    split
    · exact ⟨sameOperands_trans counted (evalConds_sameOperands (affectsSlots changed) (e.counted n).st),
        (evalConds_captured (affectsSlots changed) (e.counted n).st _ _).1⟩
    · exact ⟨counted, rfl⟩
  rw [handed]
  rcases order with order | order
  · rw [order]
    obtain ⟨x, made, same, offered⟩ := first
    obtain ⟨tables, _, supply⟩ := fields_of_lessRuns same.rest
    have ran : gaugeRun x.st.tables x.st.tables.gauges[g] x.st.supply.ign x.st.supply.vs (sourceValue e.st g) x.st.gauges[g] = ranTo e.st g := by
      rw [tables, supply, same.gauges]
      rfl
    have run := runChannel_captured g (sourceValue e.st g) x (by rw [ran]; exact fault)
    rw [ran, offered] at run
    rw [made]
    exact run
  · rw [order]
    have run := runChannel_captured g (sourceValue e.st g) (e.counted n) fault
    by_cases reads : round = true
    · rw [if_pos reads]
      exact (evalConds_captured _ _ g.val 0).2.trans run
    · rw [if_neg reads]
      exact run

/-! The samples of AN0 to AN3 (R50). -/

/-- LOCAL_SAMPLE updates every slot to which an input is bound, and hands it on (R47, R49, R50). -/
theorem localSample_followed (s : State) (an0 an1 an2 an3 : Lane) (running : s.inReset = false) :
    let taken := localValues s #v[an0, an1, an2, an3]
    ∃ t, exec (.localSample an0 an1 an2 an3) s = .next t ∧
      (∀ k : Fin 16, t.slots[k] = slotTaking s.tables.slots[k] (taken k) s.slots[k]) ∧
      s.slotsFollowed (fun k => (taken k).isSome) t ∧ t.bystanders = { s with slots := t.slots }.bystanders := by
  intro taken
  let live := tabulate fun k : Fin 16 => slotAfter s.tables.slots[k] (taken k) s.slots[k]
  obtain ⟨slots, followed, rest⟩ := slotEvent_followed (changed := fun k => (taken k).isSome) (s := s) (configs := s.tables.slots)
    (live := live) (e := (Ev.start s).on fun t => { t with slots := live }) rfl rfl s
  refine ⟨_, event_running _ s running, fun k => ?_, followed, ?_⟩
  · refine (congrArg (fun l : Vector SlotLive 16 => l[k]) slots).trans (updated_slots taken s k)
  · refine rest.trans ?_
    rw [← slots]
    rfl

/-! The expiry of a slot's age timer (R48). -/

/-- One slot set, as the hub with other slots. -/
theorem setSlot_start (k : Fin 16) (x : SlotLive) (s : State) :
    ({ s with slots := modifyAt s.slots k fun _ => x } : State) = s.withSlots s.tables.slots (s.slots.set k x) := rfl

/-- The channel sourced from slot `k` is the one that runs in an event of `k`. -/
theorem runsIn_own {s : State} {g : Fin 4} {k : Fin 16} (source : s.tables.gauges[g].source = some k) :
    runsIn s (fun j => decide (j = k)) g = true := by
  rw [(runsIn_some _ source).1]
  exact decide_eq_true rfl

theorem runsIn_other {s : State} {g : Fin 4} {k : Fin 16} (source : s.tables.gauges[g].source ≠ some k) :
    runsIn s (fun j => decide (j = k)) g = false := by
  rcases Option.eq_none_or_eq_some s.tables.gauges[g].source with none | ⟨j, some⟩
  · exact runsIn_none none
  · rw [(runsIn_some _ some).1]
    exact decide_eq_false fun own => source (by rw [some, own])

/-- A slot whose timer is stopped cannot expire (R48). -/
theorem slotAgeExpiry_stopped (s : State) (k : Fin 16) (running : s.inReset = false)
    (stopped : s.slots[k].state ≠ .fresh ∨ s.slots[k].age = none) : exec (.slotAgeExpiry k) s = .next s := by
  refine (event_running _ s running).trans (congrArg _ ?_)
  have guard : ¬ (s.slots[k].state = .fresh ∧ s.slots[k].age.isSome = true) := fun ⟨fresh, runs⟩ =>
    stopped.elim (absurd fresh) (Option.isSome_iff_ne_none.mp runs)
  exact (congrArg (finish s) (if_neg guard)).trans (afterNeed_still rfl rfl rfl)

/-- A FRESH slot whose timer runs becomes STALE, and is handed on (R48, R49). -/
theorem slotAgeExpiry_runs (s : State) (k : Fin 16) (running : s.inReset = false) (fresh : s.slots[k].state = .fresh)
    (runs : s.slots[k].age ≠ none) :
    exec (.slotAgeExpiry k) s = .next (finish s (setSlot k SlotLive.expired (Ev.start s))) := by
  refine (event_running _ s running).trans (congrArg _ (congrArg (finish s) ?_))
  exact if_pos ⟨fresh, Option.isSome_iff_ne_none.mpr runs⟩

/-- Settles O30: the hand-on of the slots that a sampling or an expiry changes, whose parts come in an open order. -/
theorem slotsTakeSamplesAndAge : Obligations.SlotsTakeSamplesAndAge := by
  refine ⟨fun s an0 an1 an2 an3 running => ?_, fun s k running => ⟨slotAgeExpiry_stopped s k running, fun fresh runs => ?_⟩⟩
  · obtain ⟨t, stepped, slots, followed, rest⟩ := localSample_followed s an0 an1 an2 an3 running
    exact ⟨t, stepped, slots, followed.gauges, followed.conds, followed.senders, followed.edges, rest⟩
  · let start := (Ev.start s).on fun t => { t with slots := modifyAt t.slots k fun _ => SlotLive.expired }
    obtain ⟨slots, followed, rest⟩ := slotEvent_followed (changed := fun j => decide (j = k)) (s := s) (configs := s.tables.slots)
      (live := s.slots.set k SlotLive.expired) (e := start) (setSlot_start k _ s) rfl s
    refine ⟨_, slotAgeExpiry_runs s k running fresh runs, slots, followed.gauges, followed.conds, followed.senders, followed.edges, ?_, ?_⟩
    · intro g source alone fault
      have ran := (handOnSlots_made (fun j => decide (j = k)) start).gauges g
      have own : runsIn start.st (fun j => decide (j = k)) g = true := runsIn_own source
      rw [if_pos ((mem_handedTo_some _ _ _).mpr own)] at ran
      have ended := congrArg State.gauges (finish_lessReports s (setSlot k SlotLive.expired (Ev.start s)))
      have gauge : (finish s (setSlot k SlotLive.expired (Ev.start s))).gauges[g] = ranTo start.st g :=
        (congrArg (fun l : Vector GaugeLive 4 => l[g]) ended).trans ran
      rw [gauge] at fault ⊢
      rw [finish_faults_eq]
      exact handOnSlots_captured own (fun h other => runsIn_other (alone h other)) fault
    · refine rest.trans ?_
      rw [← slots]
      rfl

end Sys2Proof.Machine
end

section
/-! PROOFS. SLOT_CONFIG_WRITE (R45, R51). -/

namespace Sys2Proof.Machine

/-! The write and its effect (R51, R176). -/

theorem slotAddress {index field : Nat} (k : Fin 16) (h : index = k.val) (small : field < 8) : addressStatus 2 index field = .ok :=
  (addressStatus_ok_iff _ _ _).mpr ((addressCode_eq_zero _ _ _).mpr ⟨by decide, h ▸ k.isLt, small⟩)

/-- The write of a slot's configuration, in the words of its own field write. -/
theorem writeField_slot (t : Tables) {index : Nat} (field v : Nat) (k : Fin 16) (h : index = k.val) :
    t.writeField 2 index field v = (t.slots[k].writeField field v).map fun c => { t with slots := t.slots.set k c } := by
  subst h
  unfold Tables.writeField
  simp only [writeEntry_fin, Option.map_map]
  rfl

/-- A field write that is taken names a field (R45). -/
theorem slotWrite_field {c x : SlotConfig} {field v : Nat} (taken : c.writeField field v = some x) : field < 8 :=
  (List.getElem?_eq_some_iff.mp ((slotWrite c field v).reads x taken)).1

/-- It changes that field alone. -/
theorem slotWrite_onlyField {c x : SlotConfig} {field v : Nat} (taken : c.writeField field v = some x) :
    onlyField (slotNumbers c) (slotNumbers x) field v :=
  ⟨(slotWrite c field v).reads x taken, fun f other => (slotWrite c field v).keeps x taken f other (.inr (.inr (by decide)))⟩

/-- The effect of the write is the slot emptied and handed on (R51). -/
theorem writeEffect_slot (k : Fin 16) (field : Nat) (e : Ev) : writeEffect 2 k.val field e = setSlot k SlotLive.empty e :=
  dif_pos k.isLt

/-- The hub with one slot configured and emptied (R51). -/
def slotEmptied (k : Fin 16) (c : SlotConfig) (s : State) : State :=
  s.withSlots (s.tables.slots.set k c) (s.slots.set k SlotLive.empty)

section
variable {s : State} (r : Requester) {slot : BitVec 8} {field : Lane} {v : BitVec 24} (takes : s.takesRequests)
  (free : committing s = false) {k : Fin 16} (h : slot.toNat = k.val)
include takes free h

/-- A value out of range is refused (R45, R176). -/
theorem exec_slotConfigWrite_badValue (small : field.toNat < 8)
    (refused : s.tables.slots[k].writeField field.toNat v.toNat = none) :
    exec (.slotConfigWrite r slot field v) s = .next (answered s r 2 5 []) := by
  have none : s.tables.writeField 2 slot.toNat field.toNat v.toNat = none := by
    rw [writeField_slot s.tables _ _ k h, refused]
    rfl
  exact event_write_refused r (by decide) takes free (writeChecked_value _ _ (slotAddress k h small) (by decide) none) (by decide)

variable {c : SlotConfig} (taken : s.tables.slots[k].writeField field.toNat v.toNat = some c)
include taken

omit takes in
/-- The service of a row that is taken: the slot is emptied and handed on (R51). -/
theorem serveWrite_slot : serveWrite (writeLanes 2 slot field v) (Ev.start s) =
    (handOnSlots (fun j => decide (j = k)) ((Ev.start s).on (slotEmptied k c)), some (.ok, [])) := by
  have written : s.tables.writeField 2 slot.toNat field.toNat v.toNat = some { s.tables with slots := s.tables.slots.set k c } := by
    rw [writeField_slot s.tables _ _ k h, taken]
    rfl
  rw [serveWrite_row (by decide) slot field v free, writeField_taken (e := Ev.start s) (writeChecked_taken s.tables v.toNat
    (slotAddress k h (slotWrite_field taken)) (by decide) written), h, writeEffect_slot]
  rfl

/-- The row that is taken ends with the hand-on, and a reply beside it. -/
theorem exec_slotConfigWrite_taken : ∃ x : Ev, exec (.slotConfigWrite r slot field v) s = .next (finish s x) ∧
    x.st = (handOnSlots (fun j => decide (j = k)) ((Ev.start s).on (slotEmptied k c))).st := by
  refine ⟨_, event_running _ s takes.running, ?_⟩
  have accepts : acceptsRequest (Ev.start s).st = true := takesRequests_accepts s takes
  unfold requestEvent
  rw [if_pos accepts, serveWrite_slot free h taken]

/-- Where nothing reads the slot, its write and the reply are all. -/
theorem exec_slotConfigWrite_unread (quiet : condsConcerned s (affectsSlots fun j => decide (j = k)) = false)
    (unread : ∀ g : Fin 4, s.tables.gauges[g].source ≠ some k) :
    exec (.slotConfigWrite r slot field v) s = .next (answered (slotEmptied k c s) r 2 0 []) := by
  have still : afterNeed s (slotEmptied k c s) = slotEmptied k c s := afterNeed_still rfl rfl rfl
  refine (event_request s (slotEmptied k c s) r 2 _ .ok [] takes takes.copied ?_ (by decide)).trans (by rw [still]; rfl)
  have idle : ∀ g, runsIn ((Ev.start s).on (slotEmptied k c)).st (fun j => decide (j = k)) g = false :=
    fun g => runsIn_other (unread g)
  have unconcerned : condsConcerned (slotEmptied k c s) (affectsSlots fun j => decide (j = k)) = false := quiet
  rw [serveWrite_slot free h taken, handOnSlots_idle idle]
  refine congrArg (·, _) ?_
  show Ev.on _ { st := slotEmptied k c s, reply := none, faults := [] } = _
  unfold Ev.on
  rw [evalConds_unconcerned _ _ unconcerned]

end

/-- Settles O31: the checks of the row, and the hand-on of the emptied slot beside its reply. -/
theorem slotWritesEmptyTheSlot : Obligations.SlotWritesEmptyTheSlot := by
  unfold Obligations.SlotWritesEmptyTheSlot
  intro s r slot field v takes free cmd
  refine ⟨fun big => event_write_badIndex r (by decide) takes free (by decide) big, fun k h => ⟨fun beyond => ?_, fun _ => ?_,
    fun small refused => exec_slotConfigWrite_badValue r takes free h small refused, fun c taken => ⟨slotWrite_onlyField taken, ?_,
    exec_slotConfigWrite_unread r takes free h taken⟩⟩⟩
  · exact event_write_badField r (by decide) takes free (by decide) (show slot.toNat < 16 from h ▸ k.isLt) beyond
  · exact (slotWrite _ _ _).takes.trans (by rw [and_true])
  · obtain ⟨x, stepped, body⟩ := exec_slotConfigWrite_taken r takes free h taken
    obtain ⟨slots, followed, rest⟩ := slotEvent_followed (s := s) (configs := s.tables.slots.set k c)
      (live := s.slots.set k SlotLive.empty) (e := (Ev.start s).on (slotEmptied k c)) rfl body s
    exact ⟨_, stepped, slots, followed.gauges, followed.conds, followed.senders,
      followed.edges, rest⟩

end Sys2Proof.Machine
end

section
/-! PROOFS. TEACH presses: the press, the reset of the teach gauge, and the commit of the curve taught (R44, R130, R185 to R187). -/

namespace Sys2Proof.Machine

/-! The reset of a channel (R130, R143, R145). -/

/-- What the reset of channel g has made of `s`. -/
structure State.channelReset (g : Fin 4) (s t : State) : Prop where
  gauges : t.gauges = s.gauges.set g s.gauges[g].rewritten
  sender : t.faults.isSet .sender g.val = (s.faults.isSet .sender g.val && s.tables.hub.latches .sender)
  conds : conditionsTake s t (affectsGauge g)
  edges : edgesMove s t
  rest : t.lessLoads.lessConds = { s with gauges := t.gauges }.lessLoads.lessConds

/-- The reset does what R130, R143 and R145 say. -/
theorem resetChannel_made (g : Fin 4) (s : State) : s.channelReset g (resetChannel g s) := by
  let parked : State := { s with gauges := modifyAt s.gauges g GaugeLive.rewritten }
  let cleared := clearUnlatched .sender g.val parked
  have links := evalConds_lessLinks (affectsGauge g) cleared
  have same := evalConds_sameOperands (affectsGauge g) cleared
  have tables : cleared.tables = s.tables := clearUnlatched_tables _ _ _
  have conds : cleared.conds = s.conds := clearUnlatched_conds _ _ _
  have outs : cleared.outs = s.outs := clearUnlatched_outs _ _ _
  have flash : cleared.flash = s.flash := clearUnlatched_flash _ _ _
  have gauges : (resetChannel g s).gauges = parked.gauges := same.gauges.trans (clearUnlatched_gauges _ _ _)
  refine ⟨gauges, ?_, fun c => ?_, ?_, ?_⟩
  · refine (isSet_of_lessLinks links .sender g.val (by decide)).trans ((isSet_clearUnlatched parked _ _ _ _).trans ?_)
    simp [parked]
  · refine (evalConds_conds _ cleared c).trans ((condAfter_eq _ _ c).trans ?_)
    exact condTaken_congr _ c tables (by rw [conds]) ⟨same.rest.symm, same.currents.symm, same.gauges.symm⟩
  · exact edgesMove_congr tables.symm conds.symm outs.symm flash.symm rfl rfl rfl (evalConds_edgesMove _ cleared)
  · rw [gauges]
    exact (evalConds_lessLoads _ cleared).trans (congrArg State.lessConds (clearUnlatched_lessLoads _ _ _))

/-! What a press finds (R186). -/

/-- The hub with the TEACH line settled (R185). -/
def teachLineSettled (s : State) : State :=
  { s with mgmt := { s.mgmt with pin := { pin := s.mgmt.pin.pin, settled := some s.mgmt.pin.pin, hold := none } } }

/-- The hub at a press: the line settled, and the lockout begun (R185). -/
def teachPressed (s : State) : State :=
  { teachLineSettled s with mgmt := { (teachLineSettled s).mgmt with lockout := some 2000 } }

theorem pressSource_ready {s : State} {g : Fin 4} {k : Fin 16} {c : Fin 8} (h : pressReady s g k c) :
    pressSource s = some (g, c, s.slots[k].value) := by
  obtain ⟨gauge, source, curve, fresh, reads, serves, free⟩ := h
  unfold pressSource
  simp only [gauge, source, curve]
  exact if_pos ⟨fresh, reads, serves, free⟩

theorem pressSource_none {s : State} (h : ∀ g k c, ¬ pressReady s g k c) : pressSource s = none := by
  unfold pressSource
  cases gauge : s.tables.hub.teachGauge with
  | none => rfl
  | some g =>
    cases source : s.tables.gauges[g].source with
    | none => simp only [source]
    | some k =>
      cases curve : s.tables.gauges[g].curve with
      | none => simp only [source, curve]
      | some c =>
        simp only [source, curve]
        exact if_neg fun ⟨fresh, reads, serves, free⟩ => h g k c ⟨gauge, source, curve, fresh, reads, serves, free⟩

theorem readingsApart_iff (a b : Lane) : readingsApart a b = true ↔ 16 ≤ (a.toNat - b.toNat) + (b.toNat - a.toNat) := by
  unfold readingsApart
  rw [Bool.or_eq_true, decide_eq_true_eq, decide_eq_true_eq]
  omega

/-! A press, by the teach state (R186, R187). -/

section
variable {s : State}

theorem press_first (idle : s.mgmt.teach = .idle) {g : Fin 4} {k : Fin 16} {c : Fin 8} (ready : pressReady s g k c) :
    press s = { s with mgmt := { s.mgmt with teach := .haveEmpty s.slots[k].value, window := some 30000 } } := by
  unfold press
  rw [idle, pressSource_ready ready]
  rfl

theorem press_second {empty full : Lane} (waits : s.mgmt.teach = .haveEmpty empty) {g : Fin 4} {k : Fin 16} {c : Fin 8}
    (ready : pressReady s g k c) (reads : s.slots[k].value = full) : press s =
      if 16 ≤ (empty.toNat - full.toNat) + (full.toNat - empty.toNat) then completeTeach g c empty full s else teachEnded s := by
  unfold press
  rw [waits, pressSource_ready ready, reads]
  simp only [readingsApart_iff, cancelTeach_eq]

theorem press_ignored (busy : s.mgmt.teach = .committing) : press s = s := by
  unfold press
  rw [busy]

theorem press_unready (free : s.mgmt.teach ≠ .committing) (unready : ∀ g k c, ¬ pressReady s g k c) : press s = teachEnded s := by
  unfold press
  rw [pressSource_none unready]
  cases teach : s.mgmt.teach with
  | committing => exact absurd teach free
  | haveEmpty _ => exact cancelTeach_eq s
  | idle =>
    unfold teachEnded teachWaits
    rw [teach]
    rfl

end

/-! The expiry of the TEACH hold (R185). -/

section
variable {s : State} (running : s.inReset = false)
include running

theorem exec_teachHoldExpiry_stopped (stopped : s.mgmt.pin.hold = none) : exec .teachHoldExpiry s = .next s := by
  refine (event_running _ s running).trans (congrArg _ ((wholeEvent_on _ s).trans ?_))
  rw [if_neg (by simp [stopped])]
  exact afterNeed_still rfl rfl rfl

theorem exec_teachHoldExpiry (runs : s.mgmt.pin.hold ≠ none) : exec .teachHoldExpiry s = .next (afterNeed s (teachSettled s)) := by
  refine (event_running _ s running).trans (congrArg _ ((wholeEvent_on _ s).trans ?_))
  rw [if_pos (Option.isSome_iff_ne_none.mpr runs)]

/-- Where the settling line makes no press, nothing else happens (R185). -/
theorem exec_teachHoldExpiry_noPress (runs : s.mgmt.pin.hold ≠ none)
    (quiet : s.mgmt.pin.settled ≠ some true ∨ s.mgmt.pin.pin = true ∨ s.mgmt.lockout ≠ none ∨ s.mgmt.service = .restarting) :
    exec .teachHoldExpiry s = .next (teachLineSettled s) := by
  have settles : teachSettled s = teachLineSettled s := by
    unfold teachSettled
    simp only
    split
    · rename_i falls
      refine if_pos ?_
      rcases quiet with high | high | lockout | restarts
      · exact absurd falls.1 high
      · exact absurd (high.symm.trans falls.2) (by decide)
      · exact .inl (Option.isSome_iff_ne_none.mpr lockout)
      · exact .inr restarts
    · rfl
  rw [exec_teachHoldExpiry running runs, settles]
  exact congrArg _ (afterNeed_still rfl rfl rfl)

/-- A falling edge outside the lockout is a press (R185). -/
theorem exec_teachHoldExpiry_press (runs : s.mgmt.pin.hold ≠ none) (high : s.mgmt.pin.settled = some true) (low : s.mgmt.pin.pin = false)
    (unlocked : s.mgmt.lockout = none) (serving : s.mgmt.service ≠ .restarting) :
    exec .teachHoldExpiry s = .next (afterNeed s (press (teachPressed s))) := by
  have edge : teachSettled s = press (teachPressed s) := by
    refine (if_pos ⟨high, low⟩).trans (if_neg ?_)
    rintro (locked | restarts)
    · exact Option.isSome_iff_ne_none.mp locked unlocked
    · exact serving restarts
  rw [exec_teachHoldExpiry running runs, edge]

end

/-! The accepted second press (R44, R130, R182, R187). -/

/-- The hub with the curve taught, before the gauge's reset. -/
def curveTaught (c : Fin 8) (empty full : Lane) (s : State) : State :=
  { s with
    mgmt := { s.mgmt with window := none }
    tables := { s.tables with curves := s.tables.curves.set c (s.tables.curves[c].taught empty full) } }

/-- The commit of the taught curve, over the reset of its gauge. -/
def teachCommitted (s : State) : State :=
  { s with
    store := { valid := false, image := s.tables }
    mgmt := { s.mgmt with teach := .committing, service := .committing .teach } }

theorem completeTeach_eq (g : Fin 4) (c : Fin 8) (empty full : Lane) (s : State) :
    completeTeach g c empty full s = teachCommitted (resetChannel g (curveTaught c empty full s)) := rfl

theorem afterNeed_lessReports (s u : State) : (afterNeed s u).lessReports = u.lessReports :=
  finish_lessReports s { st := u, reply := none, faults := [] }

/-- The conditions taken and the edges that acted are read from what reports leave alone. -/
theorem conditionsAndEdges_of_lessReports {reads : OperandKind → Nat → Bool} {s t w : State} (same : t.lessReports = w.lessReports)
    (conds : conditionsTake s w reads) (edges : edgesMove s w) : conditionsTake s t reads ∧ edgesMove s t := by
  have conds' : conditionsTake s w.lessReports reads := conds
  have edges' : edgesMove s w.lessReports := edges
  rw [← same] at conds' edges'
  exact ⟨conds', edges'⟩

/-- The commit changes nothing that they read. -/
theorem conditionsAndEdges_of_commit {reads : OperandKind → Nat → Bool} {s t : State} (conds : conditionsTake s t reads)
    (edges : edgesMove s t) : conditionsTake s (teachCommitted t) reads ∧ edgesMove s (teachCommitted t) := by
  have operands : ∀ kind index, operandIn (teachCommitted t) kind index = operandIn t kind index := fun kind index =>
    operandIn_congr (fun _ => rfl) (fun _ => rfl) rfl rfl
  refine ⟨fun c => (conds c).trans ?_, edges⟩
  simp only [operands]

/-- The curve taught and the teach line are nothing that they start from. -/
theorem conditionsAndEdges_of_taught {reads : OperandKind → Nat → Bool} {s t : State} {c : Fin 8} {empty full : Lane}
    (conds : conditionsTake (curveTaught c empty full (teachPressed s)) t reads)
    (edges : edgesMove (curveTaught c empty full (teachPressed s)) t) : conditionsTake s t reads ∧ edgesMove s t :=
  ⟨conds, edges⟩

section
variable (s : State) (g : Fin 4) (c : Fin 8) (empty full : Lane)

/-- The gauge and its flag after the accepted second press (R130, R143). -/
theorem completeTeach_gauge {t : State} (same : t.lessReports = (completeTeach g c empty full (teachPressed s)).lessReports) :
    t.gauges = s.gauges.set g s.gauges[g].rewritten ∧
      t.faults.isSet .sender g.val = (s.faults.isSet .sender g.val && s.tables.hub.latches .sender) := by
  rw [completeTeach_eq] at same
  have made := resetChannel_made g (curveTaught c empty full (teachPressed s))
  refine ⟨(congrArg State.gauges same :).trans made.gauges, ?_⟩
  have faults : t.faults = (resetChannel g (curveTaught c empty full (teachPressed s))).faults := (congrArg State.faults same :)
  rw [faults]
  exact made.sender

/-- The conditions on the gauge, and their edges (R68, R69, R145). -/
theorem completeTeach_conditions {t : State} (same : t.lessReports = (completeTeach g c empty full (teachPressed s)).lessReports) :
    conditionsTake s t (affectsGauge g) ∧ edgesMove s t := by
  rw [completeTeach_eq] at same
  have made := resetChannel_made g (curveTaught c empty full (teachPressed s))
  obtain ⟨conds, edges⟩ := conditionsAndEdges_of_taught made.conds made.edges
  obtain ⟨conds', edges'⟩ := conditionsAndEdges_of_commit conds edges
  exact conditionsAndEdges_of_lessReports same conds' edges'

/-- The rest of the hub: the curve, the commit and the teach state (R44, R182, R187). -/
theorem completeTeach_rest {t : State} (same : t.lessReports = (completeTeach g c empty full (teachPressed s)).lessReports) :
    t.lessReports.lessLoads.lessConds =
      (teachCommitted { curveTaught c empty full (teachPressed s) with gauges := t.gauges }).lessReports.lessLoads.lessConds := by
  rw [completeTeach_eq] at same
  have made := resetChannel_made g (curveTaught c empty full (teachPressed s))
  have gauges : t.gauges = (resetChannel g (curveTaught c empty full (teachPressed s))).gauges := (congrArg State.gauges same :)
  rw [same, gauges]
  exact (congrArg (fun x : State => (teachCommitted x).lessReports) made.rest :)

end

/-- Settles O60: a press by the teach state, and the reset and the commit of the second one. -/
theorem teachPressesAct : Obligations.TeachPressesAct := by
  unfold Obligations.TeachPressesAct
  intro s running pin settled pressed
  refine ⟨exec_teachHoldExpiry_stopped running, fun runs => ⟨exec_teachHoldExpiry_noPress running runs,
    fun high low unlocked serving => ?_⟩⟩
  have stepped : exec .teachHoldExpiry s = .next (afterNeed s (press (teachPressed s))) :=
    exec_teachHoldExpiry_press running runs high low unlocked serving
  have second : ∀ (g : Fin 4) (k : Fin 16) (c : Fin 8) (empty : Lane), pressReady s g k c → s.mgmt.teach = .haveEmpty empty → _ :=
    fun g k c empty ready waits =>
      press_second (s := teachPressed s) (full := s.slots[k].value) waits (g := g) (k := k) (c := c) ready rfl
  refine ⟨fun busy => ?_, fun g k c ready => ⟨fun idle => ?_, fun empty waits => ⟨fun near => ?_, fun apart => ?_⟩⟩,
    fun unready free => ?_⟩
  · rw [stepped, press_ignored (s := teachPressed s) busy]
    exact congrArg _ (afterNeed_still rfl rfl rfl)
  · rw [stepped, press_first (s := teachPressed s) idle (g := g) (k := k) (c := c) ready]
    rfl
  · rw [stepped, second g k c empty ready waits, if_neg (Nat.not_le.mpr near)]
    rfl
  · rw [stepped, second g k c empty ready waits, if_pos apart]
    have same := afterNeed_lessReports s (completeTeach g c empty s.slots[k].value (teachPressed s))
    obtain ⟨gauges, sender⟩ := completeTeach_gauge s g c empty s.slots[k].value same
    obtain ⟨conds, edges⟩ := completeTeach_conditions s g c empty s.slots[k].value same
    have reads : (fun kind index => decide (kind = .gauge ∧ index = g.val)) = affectsGauge g := by
      funext kind index
      exact Bool.decide_and _ _
    exact ⟨_, rfl, gauges, sender, reads ▸ conds, edges, completeTeach_rest s g c empty s.slots[k].value same⟩
  · rw [stepped, press_unready (s := teachPressed s) free fun g k c => unready g k c]
    rfl

end Sys2Proof.Machine
end

section
/-! PROOFS. The condition unit's comparisons (R65, R66), the debouncers' pins (R60, R61, R185), and the writes of pod timeouts and
condition entries (R55, R63, R70). -/

namespace Sys2Proof.Machine

/-! One evaluation (R65 to R67). -/

theorem plain_iff (p : Predicate) (a b : Nat) : p.plain a b = true ↔ plainly p a b := by
  cases p <;> simp [Predicate.plain, plainly]

theorem whenUnordered_iff (p : Predicate) : p.whenUnordered = true ↔ p = .unord ∨ p = .neq ∨ p = .nlt ∨ p = .nle := by
  cases p <;> decide

/-- A true entry falls exactly where its release test holds (R66). -/
theorem keeps_eq_false (p : Predicate) (a b h : Nat) : p.keeps a b h = false ↔ releasedBy p a b h := by
  cases p <;> simp [Predicate.keeps, releasedBy, Nat.lt_sub_iff_add_lt]

theorem evaluate_unordered (e : CondEntry) (live : CondLive) {a b : Option Nat} (h : a = none ∨ b = none) :
    evaluate e live a b = { truth := e.predicate.whenUnordered, unordered := true } := by
  rcases h with rfl | rfl
  · rfl
  · cases a <;> rfl

theorem evaluate_ordered (e : CondEntry) (live : CondLive) (x y : Nat) : evaluate e live (some x) (some y) =
    { truth := if !live.unordered && decide (e.bKind = .const) && live.truth then e.predicate.keeps x y e.hysteresis
        else e.predicate.plain x y
      unordered := false } := rfl

/-- Settles O36, by the table of predicates and the release test. -/
theorem conditionsCompare : Obligations.ConditionsCompare := by
  unfold Obligations.ConditionsCompare
  intro e live x y a b
  refine ⟨fun unordered => ?_, rfl, fun plain => ?_, fun const ordered held => ?_⟩
  · rw [evaluate_unordered e live unordered]
    exact ⟨rfl, whenUnordered_iff _⟩
  · have test : (!live.unordered && decide (e.bKind = .const) && live.truth) = false := by
      rcases plain with kind | mark | truth <;> simp [*]
    rw [evaluate_ordered, test]
    exact plain_iff _ _ _
  · rw [evaluate_ordered, const, ordered, held]
    exact keeps_eq_false _ _ _ _

/-! Pins (R60, R61, R185). -/

theorem modifyAt_still {α : Type} {n : Nat} (v : Vector α n) (i : Fin n) {f : α → α} (h : f v[i] = v[i]) : modifyAt v i f = v := by
  unfold modifyAt
  rw [h]
  exact Vector.set_getElem_self i.isLt

theorem pinChange_same (length : Nat) (d : Debouncer) : d.pinChange length d.pin = d := if_pos rfl

/-- A pin that moves takes its level, and runs the hold timer by the settled level, where there is one (R60, R61). -/
theorem pinChange_moved {length : Nat} {level : Bool} {d : Debouncer} (h : level ≠ d.pin) : d.pinChange length level =
    { pin := level
      settled := d.settled
      hold := match d.settled with
        | none => d.hold
        | some l => if level = l then none else some length } := by
  unfold Debouncer.pinChange
  rw [if_neg h]
  obtain ⟨pin, settled, hold⟩ := d
  cases settled <;> rfl

theorem exec_localPinChange {s : State} (running : s.inReset = false) (i : Fin 9) (level : Bool) : exec (.localPinChange i level) s =
    .next { s with inputs := modifyAt s.inputs i (Debouncer.pinChange s.tables.hub.debounce level) } := by
  show Host.Outcome.next _ = _
  rw [running]
  rfl

theorem exec_teachPinChange {s : State} (running : s.inReset = false) (level : Bool) : exec (.teachPinChange level) s =
    .next { s with mgmt := { s.mgmt with pin := s.mgmt.pin.pinChange 20 level } } := by
  show Host.Outcome.next _ = _
  rw [running]
  rfl

/-- Settles O34: both lines run the one debouncer. -/
theorem pinsRunTheirDebouncers : Obligations.PinsRunTheirDebouncers := by
  unfold Obligations.PinsRunTheirDebouncers
  intro s i level running moved
  refine ⟨?_, fun moves => ?_, ?_, fun moves => ?_⟩
  · rw [exec_localPinChange running, modifyAt_still s.inputs i (pinChange_same _ _)]
  · have step := exec_localPinChange running i level
    rw [modifyAt, pinChange_moved moves] at step
    exact step
  · rw [exec_teachPinChange running, pinChange_same]
  · have step := exec_teachPinChange running level
    rw [pinChange_moved moves] at step
    exact step

/-! A WRITE row whose effect changes the hub alone (R174, R176). -/

/-- A row that is taken is answered OK, with the STATE need of what its effect has made. -/
theorem event_write_effect {s u : State} (r : Requester) {table : Nat} (small : table < 16) {index : BitVec 8} {field : Lane}
    {v : BitVec 24} {t : Tables} (takes : s.takesRequests) (free : committing s = false)
    (checked : s.tables.writeChecked table index.toNat field.toNat v.toNat = (.ok, t))
    (effect : writeEffect table index.toNat field.toNat (Ev.start { s with tables := t }) = Ev.start u) (made : u.copiesMade) :
    event (requestEvent r 2 (serveWrite (writeLanes table index field v))) s = .next (answered (afterNeed s u) r 2 0 []) := by
  refine event_request s u r 2 _ .ok [] takes made ?_ (by decide)
  rw [serveWrite_row small index field v free, writeField_taken (e := Ev.start s) checked]
  exact congrArg (·, some (Status.ok, [])) effect

theorem tableAddress {table index field : Nat} (known : table ≤ 9) (entry : index < tableEntries table)
    (small : field < tableFields table) : addressStatus table index field = .ok :=
  (addressStatus_ok_iff _ _ _).mpr ((addressCode_eq_zero _ _ _).mpr ⟨known, entry, small⟩)

/-! POD_TIMEOUT_WRITE (R55). -/

theorem writeField_podTimeout (t : Tables) {index : Nat} (field v : Nat) (p : Fin 8) (h : index = p.val) :
    t.writeField 3 index field v = (ranged v 0 255 v).map fun x => { t with podTimeouts := t.podTimeouts.set p x } := by
  subst h
  unfold Tables.writeField
  simp only [writeEntry_fin, Option.map_map]
  rfl

/-- The hub with a pod's timeout written, and the timer of a known pod running with it or stopped (R55). -/
def podTimeoutSet (p : Fin 8) (v : BitVec 24) (s : State) : State :=
  { s with
    tables := { s.tables with podTimeouts := s.tables.podTimeouts.set p v.toNat }
    pods := if s.pods[linkPod p].known then
        s.pods.set (linkPod p) { s.pods[linkPod p] with timer := if v = 0 then none else some (v.toNat * 100) }
      else s.pods }

theorem podTimeoutWritten_eq (p : Fin 8) (v : BitVec 24) (s : State) :
    podTimeoutWritten p { s with tables := { s.tables with podTimeouts := s.tables.podTimeouts.set p v.toNat } } = podTimeoutSet p v s := by
  have timer : podTimerStart (s.tables.podTimeouts.set p v.toNat)[p] = if v = 0 then none else some (v.toNat * 100) := by
    have zero : v.toNat = 0 ↔ v = 0 := by rw [← BitVec.toNat_inj]; rfl
    simp [podTimerStart, zero]
  unfold podTimeoutWritten podTimeoutSet
  simp only [timer]
  split <;> rfl

section
variable {s : State} (r : Requester) {pod : BitVec 8} {v : BitVec 24} (takes : s.takesRequests) (free : committing s = false)
  {p : Fin 8} (h : pod.toNat = p.val)
include takes free h

theorem exec_podTimeoutWrite_badValue (big : 256 ≤ v.toNat) : exec (.podTimeoutWrite r pod v) s = .next (answered s r 2 5 []) := by
  have refused : s.tables.writeField 3 pod.toNat 0 v.toNat = none := by
    rw [writeField_podTimeout s.tables 0 _ p h, ranged, if_neg (by omega)]
    rfl
  have entry : pod.toNat < tableEntries 3 := h ▸ p.isLt
  exact event_write_refused r (by decide) takes free
    (writeChecked_value _ _ (tableAddress (by decide) entry (by decide)) (by decide) refused) (by decide)

theorem exec_podTimeoutWrite_taken (small : v.toNat < 256) :
    exec (.podTimeoutWrite r pod v) s = .next (answered (podTimeoutSet p v s) r 2 0 []) := by
  have taken : s.tables.writeField 3 pod.toNat 0 v.toNat =
      some { s.tables with podTimeouts := s.tables.podTimeouts.set p v.toNat } := by
    rw [writeField_podTimeout s.tables 0 _ p h, ranged, if_pos (by omega)]
    rfl
  have checked := writeChecked_taken _ _ (tableAddress (by decide) (show pod.toNat < tableEntries 3 from h ▸ p.isLt) (by decide))
    (by decide) taken
  have still : afterNeed s (podTimeoutSet p v s) = podTimeoutSet p v s := afterNeed_still rfl rfl rfl
  refine (event_write_effect r (by decide) takes free checked (u := podTimeoutSet p v s) ?_ takes.copied).trans (by rw [still])
  rw [h]
  exact (dif_pos p.isLt).trans (congrArg Ev.start (podTimeoutWritten_eq p v s))

end

/-! CONDITION_WRITE (R63, R70). -/

theorem writeField_condition (t : Tables) {index : Nat} (field v : Nat) (c : Fin 16) (h : index = c.val) :
    t.writeField 4 index field v = (t.conds[c].writeField field v).map fun e => { t with conds := t.conds.set c e } := by
  subst h
  unfold Tables.writeField
  simp only [writeEntry_fin, Option.map_map]
  rfl

/-- The hub with an entry written, its truth false and its mark clear (R70). -/
def conditionSet (c : Fin 16) (e : CondEntry) (s : State) : State :=
  { s with
    tables := { s.tables with conds := s.tables.conds.set c e }
    conds := s.conds.set c { truth := false, unordered := false } }

theorem conditionWrite_onlyField {c e : CondEntry} {field v : Nat} (taken : c.writeField field v = some e) :
    onlyField (condNumbers c) (condNumbers e) field v :=
  ⟨(conditionWrite c field v).reads e taken, fun f other => (conditionWrite c field v).keeps e taken f other (.inr (.inr (by decide)))⟩

theorem conditionWrite_field {c e : CondEntry} {field v : Nat} (taken : c.writeField field v = some e) : field < 7 :=
  (List.getElem?_eq_some_iff.mp ((conditionWrite c field v).reads e taken)).1

section
variable {s : State} (r : Requester) {entry : BitVec 8} {field : Lane} {v : BitVec 24} (takes : s.takesRequests)
  (free : committing s = false) {c : Fin 16} (h : entry.toNat = c.val)
include takes free h

theorem exec_conditionWrite_badValue (small : field.toNat < 7) (refused : s.tables.conds[c].writeField field.toNat v.toNat = none) :
    exec (.conditionWrite r entry field v) s = .next (answered s r 2 5 []) := by
  have none : s.tables.writeField 4 entry.toNat field.toNat v.toNat = none := by
    rw [writeField_condition s.tables _ _ c h, refused]
    rfl
  have address := tableAddress (table := 4) (by decide) (show entry.toNat < 16 from h ▸ c.isLt) small
  exact event_write_refused r (by decide) takes free (writeChecked_value _ _ address (by decide) none) (by decide)

theorem exec_conditionWrite_taken {e : CondEntry} (taken : s.tables.conds[c].writeField field.toNat v.toNat = some e) :
    exec (.conditionWrite r entry field v) s = .next (answered (conditionSet c e s) r 2 0 []) := by
  have written : s.tables.writeField 4 entry.toNat field.toNat v.toNat = some { s.tables with conds := s.tables.conds.set c e } := by
    rw [writeField_condition s.tables _ _ c h, taken]
    rfl
  have checked := writeChecked_taken _ _ (tableAddress (table := 4) (by decide) (show entry.toNat < 16 from h ▸ c.isLt)
    (conditionWrite_field taken)) (by decide) written
  have still : afterNeed s (conditionSet c e s) = conditionSet c e s := afterNeed_still rfl rfl rfl
  refine (event_write_effect r (by decide) takes free checked (u := conditionSet c e s) ?_ takes.copied).trans (by rw [still])
  rw [h]
  exact dif_pos c.isLt

end

/-- Settles O33: the checks of the two rows, and their effects. -/
theorem podAndConditionWrites : Obligations.PodAndConditionWrites := by
  unfold Obligations.PodAndConditionWrites
  intro s r entry field v takes free
  refine ⟨fun big => event_write_badIndex r (by decide) takes free (by decide) big,
    fun p h => ⟨exec_podTimeoutWrite_badValue r takes free h, exec_podTimeoutWrite_taken r takes free h⟩,
    fun big => event_write_badIndex r (by decide) takes free (by decide) big, fun c h => ⟨fun beyond => ?_, fun _ => ?_,
    exec_conditionWrite_badValue r takes free h, fun e taken => ⟨conditionWrite_onlyField taken, exec_conditionWrite_taken r takes free h taken⟩⟩⟩
  · exact event_write_badField r (by decide) takes free (by decide) (show entry.toNat < 16 from h ▸ c.isLt) beyond
  · exact (conditionWrite _ _ _).takes.trans (by rw [and_true])

end Sys2Proof.Machine
end

section
/-! PROOFS. GAUGE_ENTRY_WRITE and TEACH_GAUGE_WRITE (R129, R130, R177, R187). -/

namespace Sys2Proof.Machine

/-! The write of a gauge entry and its effect (R130, R176, R187). -/

theorem writeField_gauge (t : Tables) {index : Nat} (field v : Nat) (g : Fin 4) (h : index = g.val) :
    t.writeField 8 index field v = (t.gauges[g].writeField field v).map fun e => { t with gauges := t.gauges.set g e } := by
  subst h
  unfold Tables.writeField
  simp only [writeEntry_fin, Option.map_map]
  rfl

theorem gaugeWrite_onlyField {x e : GaugeEntry} {field v : Nat} (taken : x.writeField field v = some e) :
    onlyField (gaugeNumbers x) (gaugeNumbers e) field v :=
  ⟨(gaugeWrite x field v).reads e taken, fun f other => (gaugeWrite x field v).keeps e taken f other (.inr (.inr (by decide)))⟩

theorem gaugeWrite_field {x e : GaugeEntry} {field v : Nat} (taken : x.writeField field v = some e) : field < 7 :=
  (List.getElem?_eq_some_iff.mp ((gaugeWrite x field v).reads e taken)).1

/-- The management engine with a waiting teach sequence ended (R187). -/
def MgmtState.teachEnded (m : MgmtState) : MgmtState :=
  match m.teach with
  | .haveEmpty _ => { m with teach := .idle, window := none }
  | .idle => m
  | .committing => m

theorem teachEnded_eq (s : State) : Machine.teachEnded s = { s with mgmt := s.mgmt.teachEnded } := by
  rw [← cancelTeach_eq]
  unfold cancelTeach MgmtState.teachEnded
  cases s.mgmt.teach <;> rfl

/-- The management engine after a write to channel g: a sequence that waits on it has ended (R187). -/
def mgmtAfterWrite (g : Fin 4) (s : State) : MgmtState :=
  if s.tables.hub.teachGauge = some g then s.mgmt.teachEnded else s.mgmt

theorem mgmtAfterWrite_eq (g : Fin 4) (s : State) :
    (if s.tables.hub.teachGauge = some g then teachEnded s else s) = { s with mgmt := mgmtAfterWrite g s } := by
  rw [teachEnded_eq]
  unfold mgmtAfterWrite
  split <;> rfl

/-- The hub with the entry of a channel written, before the channel's reset (R130, R187). -/
def gaugeSet (g : Fin 4) (e : GaugeEntry) (s : State) : State :=
  { s with tables := { s.tables with gauges := s.tables.gauges.set g e }, mgmt := mgmtAfterWrite g s }

/-- The effect of the write is the reset of the channel, with the teach line as it then stands (R130, R187). -/
theorem gaugeEntryWritten_eq (g : Fin 4) (e : GaugeEntry) (s : State) :
    gaugeEntryWritten g { s with tables := { s.tables with gauges := s.tables.gauges.set g e } } = resetChannel g (gaugeSet g e s) := by
  unfold gaugeEntryWritten
  rw [cancelTeach_eq]
  exact congrArg (resetChannel g) (mgmtAfterWrite_eq g { s with tables := { s.tables with gauges := s.tables.gauges.set g e } })

/-- The hub as the write leaves it, conditions on the channel apart. -/
def gaugeReset (g : Fin 4) (e : GaugeEntry) (s : State) : State :=
  { clearUnlatched .sender g.val (if s.tables.hub.teachGauge = some g then teachEnded s else s) with
    tables := { s.tables with gauges := s.tables.gauges.set g e }
    gauges := s.gauges.set g { s.gauges[g] with
      state := .waiting, f := 0, p := 0, d := 0, underdrive := false, lastRaw := 4095 } }

theorem gaugeReset_eq (g : Fin 4) (e : GaugeEntry) (s : State) : gaugeReset g e s =
    clearUnlatched .sender g.val { gaugeSet g e s with gauges := modifyAt s.gauges g GaugeLive.rewritten } := by
  unfold gaugeReset
  rw [mgmtAfterWrite_eq]
  unfold clearUnlatched gaugeSet
  simp only
  split <;> rfl

/-- A channel that no condition reads is reset, and that is all. -/
theorem resetChannel_unread {g : Fin 4} {e : GaugeEntry} {s : State} (quiet : condsConcerned s (affectsGauge g) = false) :
    resetChannel g (gaugeSet g e s) = gaugeReset g e s := by
  refine (evalConds_unconcerned _ _ ?_).trans (gaugeReset_eq g e s).symm
  have tables := clearUnlatched_tables .sender g.val { gaugeSet g e s with gauges := modifyAt s.gauges g GaugeLive.rewritten }
  unfold condsConcerned at quiet ⊢
  rw [show (gaugeSet g e s).gauges = s.gauges from rfl, tables]
  exact quiet

section
variable {s : State} (r : Requester) {channel : BitVec 8} {field : Lane} {v : BitVec 24} (takes : s.takesRequests)
  (free : committing s = false) {g : Fin 4} (h : channel.toNat = g.val)
include takes free h

theorem event_gaugeWrite_badValue (small : field.toNat < 7) (refused : s.tables.gauges[g].writeField field.toNat v.toNat = none) :
    event (requestEvent r 2 (serveWrite (writeLanes 8 channel field v))) s = .next (answered s r 2 5 []) := by
  have none : s.tables.writeField 8 channel.toNat field.toNat v.toNat = none := by
    rw [writeField_gauge s.tables _ _ g h, refused]
    rfl
  have address := tableAddress (table := 8) (by decide) (show channel.toNat < 4 from h ▸ g.isLt) small
  exact event_write_refused r (by decide) takes free (writeChecked_value _ _ address (by decide) none) (by decide)

variable {e : GaugeEntry} (taken : s.tables.gauges[g].writeField field.toNat v.toNat = some e)
include taken

omit takes in
/-- The row that is taken resets the channel (R130). -/
theorem serveWrite_gauge : serveWrite (writeLanes 8 channel field v) (Ev.start s) =
    (Ev.start (resetChannel g (gaugeSet g e s)), some (.ok, [])) := by
  have written : s.tables.writeField 8 channel.toNat field.toNat v.toNat =
      some { s.tables with gauges := s.tables.gauges.set g e } := by
    rw [writeField_gauge s.tables _ _ g h, taken]
    rfl
  have checked := writeChecked_taken _ _ (tableAddress (table := 8) (by decide) (show channel.toNat < 4 from h ▸ g.isLt)
    (gaugeWrite_field taken)) (by decide) written
  rw [serveWrite_row (by decide) channel field v free, writeField_taken (e := Ev.start s) checked, h]
  refine congrArg (·, some (Status.ok, [])) ((dif_pos g.isLt).trans ?_)
  exact congrArg Ev.start (gaugeEntryWritten_eq g e s)

/-- What it leaves, the reports of its end apart (R64, R68, R69, R130, R187). -/
theorem event_gaugeWrite_made : ∃ t, event (requestEvent r 2 (serveWrite (writeLanes 8 channel field v))) s = .next t ∧
    t.gauges = (gaugeReset g e s).gauges ∧ conditionsTake s t (affectsGauge g) ∧ edgesMove s t ∧
    t.lessReports.lessLoads.lessConds = (gaugeReset g e s).lessReports.lessLoads.lessConds := by
  have made := resetChannel_made g (gaugeSet g e s)
  have accepts : acceptsRequest (Ev.start s).st = true := takesRequests_accepts s takes
  obtain ⟨t, stepped, same⟩ : ∃ t, event (requestEvent r 2 (serveWrite (writeLanes 8 channel field v))) s = .next t ∧
      t.lessReports = (resetChannel g (gaugeSet g e s)).lessReports := by
    refine ⟨_, event_running _ s takes.running, (finish_lessReports s _).trans ?_⟩
    unfold requestEvent
    rw [if_pos accepts, serveWrite_gauge free h taken]
    rfl
  have gauges : t.gauges = (gaugeReset g e s).gauges := (congrArg State.gauges same :).trans made.gauges
  have conds : conditionsTake s (resetChannel g (gaugeSet g e s)) (affectsGauge g) := made.conds
  have edges : edgesMove s (resetChannel g (gaugeSet g e s)) := made.edges
  obtain ⟨conds', edges'⟩ := conditionsAndEdges_of_lessReports same conds edges
  refine ⟨t, stepped, gauges, conds', edges', ?_⟩
  have rest : t.lessReports.lessLoads.lessConds = (resetChannel g (gaugeSet g e s)).lessReports.lessLoads.lessConds := by rw [same]
  refine rest.trans ((congrArg State.lessReports made.rest :).trans ?_)
  rw [made.gauges, gaugeReset_eq]
  exact (congrArg (fun u => u.lessReports.lessConds) (clearUnlatched_lessLoads .sender g.val
    { gaugeSet g e s with gauges := modifyAt s.gauges g GaugeLive.rewritten }) :).symm

/-- Where no condition reads the channel, the reset and the reply are all. -/
theorem event_gaugeWrite_unread (quiet : condsConcerned s (affectsGauge g) = false) :
    event (requestEvent r 2 (serveWrite (writeLanes 8 channel field v))) s =
      .next (answered (afterNeed s (gaugeReset g e s)) r 2 0 []) := by
  refine event_request s _ r 2 _ .ok [] takes ?_ ((serveWrite_gauge free h taken).trans ?_) (by decide)
  · rw [gaugeReset_eq]
    exact copiesMade_of_ports (by simp [gaugeSet]) (by simp [gaugeSet]) (by simp [gaugeSet]) takes.copied
  · rw [resetChannel_unread quiet]
    rfl

end

/-! The teach gauge field of the hub table (R177, R187). -/

theorem ofCodeOr255_codeOr255 {n : Nat} (big : n ≤ 255) (g : Option (Fin n)) : ofCodeOr255 n (codeOr255 g) = some g := by
  unfold ofCodeOr255 codeOr255
  cases g with
  | none => exact if_pos rfl
  | some i => exact (if_neg (by have := i.isLt; simp only; omega)).trans (dif_pos i.isLt)

theorem ofCodeOr255_none {n v : Nat} (beyond : n ≤ v) (other : v ≠ 255) : ofCodeOr255 n v = none := by
  unfold ofCodeOr255
  rw [if_neg other, dif_neg (by omega)]

/-- The write of the field names a gauge or none, and ends a sequence that waits (R177, R187). -/
theorem exec_teachGaugeField {s : State} (r : Requester) (v : BitVec 24) (takes : s.takesRequests) (free : committing s = false)
    {g : Option (Fin 4)} (h : v.toNat = codeOr255 g) :
    let u := { teachEnded s with tables := { s.tables with hub := { s.tables.hub with teachGauge := g } } }
    exec (.teachGaugeWrite r (.gaugeField v)) s = .next (answered (afterNeed s u) r 2 0 []) := by
  intro u
  have taken : s.tables.hub.writeField 20 v.toNat = some { s.tables.hub with teachGauge := g } := by
    rw [h]
    exact congrArg (Option.map _) (ofCodeOr255_codeOr255 (by decide) g)
  have effect : hubWritten 20 { s with tables := { s.tables with hub := { s.tables.hub with teachGauge := g } } } = u := by
    refine (cancelTeach_eq _).trans ?_
    simp only [u, teachEnded_eq]
  have made : u.copiesMade := by
    simp only [u, teachEnded_eq]
    exact takes.copied
  refine event_request s u r 2 _ .ok [] takes made ?_ (by decide)
  refine (serveWrite_hub s 20 v free).trans ((writeField_hub s 20 v.toNat (by decide)).trans ?_)
  rw [taken]
  simp only [effect]

/-- Settles O48: the checks of the row, the reset of the channel with the conditions on it, and the teach gauge field. -/
theorem gaugeWritesResetTheChannel : Obligations.GaugeWritesResetTheChannel := by
  unfold Obligations.GaugeWritesResetTheChannel
  refine ⟨fun s r channel field v takes free cmd row => ?_, fun s r v takes free => ⟨fun g h => exec_teachGaugeField r v takes free (by cases g <;> exact h),
    fun beyond other => ?_⟩⟩
  · have stepped : exec cmd s = event (requestEvent r 2 (serveWrite (writeLanes 8 channel field v))) s := by
      simp only [List.mem_cons, List.not_mem_nil, or_false] at row
      rcases row with rfl | rfl <;> rfl
    rw [stepped]
    refine ⟨fun big => event_write_badIndex r (by decide) takes free (by decide) big, fun g h => ⟨fun beyond => ?_, fun _ => ?_,
      event_gaugeWrite_badValue r takes free h, fun e taken => ⟨gaugeWrite_onlyField taken, ?_, event_gaugeWrite_unread r takes free h taken⟩⟩⟩
    · exact event_write_badField r (by decide) takes free (by decide) (show channel.toNat < 4 from h ▸ g.isLt) beyond
    · refine (gaugeWrite _ _ _).takes.trans ?_
      have three : field = 3 ↔ field.toNat = 3 := by rw [← BitVec.toNat_inj]; rfl
      have four : field = 4 ↔ field.toNat = 4 := by rw [← BitVec.toNat_inj]; rfl
      rw [three, four]
    · obtain ⟨t, stepped, gauges, conds, edges, rest⟩ := event_gaugeWrite_made r takes free h taken
      have reads : (fun kind index => decide (kind = .gauge ∧ index = g.val)) = affectsGauge g := by
        funext kind index
        exact Bool.decide_and _ _
      exact ⟨t, stepped, gauges, reads ▸ conds, edges, rest⟩
  · have refused : s.tables.hub.writeField 20 v.toNat = none := congrArg (Option.map _) (ofCodeOr255_none beyond other)
    exact event_hubRefused s r 20 v takes free (by decide) refused

end Sys2Proof.Machine
end

section
/-! PROOFS. POD_TIMEOUT_EXPIRY (R57, R58, R79 to R82). -/

namespace Sys2Proof.Machine

/-! A report of POD (R58, R160). -/

/-- The hub with the flag of a pod raised, which then waits for its next update (R58). -/
def podNoted (p : Fin 8) (s : State) : State :=
  { s with
    faults := s.faults.setFlag .pod p.val
    pods := modifyAt s.pods (linkPod p) fun x => { x with seen := false } }

/-- A POD raise: the flag and its note, the capture attempt, and the links (R160). -/
theorem reportFault_pod (p : Fin 8) (e : Ev) (off : e.st.faults.isSet .pod p.val = false) (on : e.st.tables.hub.detects .pod = true) :
    reportFault .pod p.val 0 e = (captureAttempt .pod p.val 0 (e.on (podNoted p))).on (matrixEvent (.fault .pod)) := by
  have note : ∀ s : State, noteRaise .pod p.val { s with faults := s.faults.setFlag .pod p.val } = podNoted p s :=
    fun s => dif_pos (Nat.lt_succ_of_lt p.isLt)
  unfold reportFault
  rw [if_pos (by rw [off, on]; rfl)]
  simp only [note]

/-- What a capture attempt makes is read from the capture slots, LOST, Vs and the uptime alone. -/
theorem captureAttempt_congr (c : FaultClass) (i value : Nat) (e x : Ev) (capture : x.st.faults.capture = e.st.faults.capture)
    (lost : x.st.faults.lost = e.st.faults.lost) (vs : x.st.supply.vs = e.st.supply.vs) (uptime : x.st.faults.uptime = e.st.faults.uptime) :
    ((captureAttempt c i value x).st.faults.capture, (captureAttempt c i value x).st.faults.lost) =
      ((captureAttempt c i value e).st.faults.capture, (captureAttempt c i value e).st.faults.lost) := by
  unfold captureAttempt freeSlot
  rw [capture, vs, uptime]
  split_ifs <;> simp [capture, lost]

/-- A pod whose POD report has been taken: a raise waits for its next update (R58). -/
def PodLive.reported (raises : Bool) (x : PodLive) : PodLive := { x with seen := x.seen && !raises }

/-- The hub with the reading of a pod changed by its report (R58). -/
def podMarked (p : Fin 8) (raises : Bool) (s : State) : State :=
  { s with pods := modifyAt s.pods (linkPod p) (PodLive.reported raises) }

/-- The report of POD for a pod is a raise (R160). -/
def podRaises (p : Fin 8) (s : State) : Bool := s.tables.hub.detects .pod && !s.faults.isSet .pod p.val

/-- What a POD report has made of `s`. -/
structure State.podReported (p : Fin 8) (s t : State) : Prop where
  rest : t.lessLoads = (podMarked p (podRaises p s) s).lessLoads
  flag : t.faults.isSet .pod p.val = (s.faults.isSet .pod p.val || s.tables.hub.detects .pod)
  captures : (t.faults.capture, t.faults.lost) = captured s .pod p.val 0
  quiet : s.faults.isSet .pod p.val = true ∨ s.tables.hub.detects .pod = false ∨ wakesMatrix s (.fault .pod) = false →
    t.outs = s.outs ∧ t.flash = s.flash

/-- A report that is no raise changes nothing (R160). -/
theorem podReport_ignored (p : Fin 8) (s : State) (ignored : s.faults.isSet .pod p.val = true ∨ s.tables.hub.detects .pod = false) :
    s.podReported p s := by
  have calm : podRaises p s = false := by
    unfold podRaises
    rcases ignored with h | h <;> simp only [h, Bool.false_and, Bool.not_true, Bool.and_false]
  refine ⟨?_, ?_, ?_, fun _ => ⟨rfl, rfl⟩⟩
  · rw [calm, podMarked, modifyAt_still s.pods (linkPod p) (by simp [PodLive.reported])]
  · rcases ignored with h | h <;> simp [h]
  · exact (if_pos ignored).symm

theorem podReport_raised (p : Fin 8) (e : Ev) (off : e.st.faults.isSet .pod p.val = false) (on : e.st.tables.hub.detects .pod = true) :
    e.st.podReported p (reportFault .pod p.val 0 e).st := by
  let attempted := captureAttempt .pod p.val 0 (e.on (podNoted p))
  have links := matrixEvent_lessLinks (.fault .pod) attempted.st
  have made : (reportFault .pod p.val 0 e).st = matrixEvent (.fault .pod) attempted.st := congrArg Ev.st (reportFault_pod p e off on)
  have reported : PodLive.reported (podRaises p e.st) = fun x => { x with seen := false } := by
    funext x
    simp [PodLive.reported, podRaises, off, on]
  rw [made]
  refine ⟨?_, ?_, ?_, fun quiet => ?_⟩
  · rw [podMarked, reported]
    exact (matrixEvent_lessLoads _ _).trans (captureAttempt_lessLoads _ _ _ _)
  · refine (isSet_of_lessLinks links .pod _ (by decide)).trans ((captureAttempt_isSet _ _ _ _ _ _).trans ?_)
    have low : p.val < 12 := by omega
    exact (isSet_setFlag _ _ _ _ _).trans (by simp [on, low])
  · obtain ⟨capture, lost⟩ := capture_of_lessLinks links
    rw [← captureAttempt_captured .pod p.val 0 e off on]
    exact (congrArg₂ Prod.mk capture lost).trans (captureAttempt_congr _ _ _ e _ rfl rfl rfl rfl)
  · have asleep : wakesMatrix e.st (.fault .pod) = false := by simpa [off, on] using quiet
    have tables : attempted.st.tables = e.st.tables := captureAttempt_tables _ _ _ _
    have still := matrixEvent_asleep attempted.st (.fault .pod) ((wakesMatrix_of_tables tables _).trans asleep)
    rw [still]
    exact ⟨captureAttempt_outs _ _ _ _, captureAttempt_flash _ _ _ _⟩

theorem podReport_made (p : Fin 8) (e : Ev) : e.st.podReported p (reportFault .pod p.val 0 e).st := by
  cases off : e.st.faults.isSet .pod p.val
  · cases on : e.st.tables.hub.detects .pod
    · rw [reportFault_ignored _ _ _ _ (.inr on)]
      exact podReport_ignored p e.st (.inr on)
    · exact podReport_raised p e off on
  · rw [reportFault_ignored _ _ _ _ (.inl off)]
    exact podReport_ignored p e.st (.inl off)

/-! The expiry (R57). -/

/-- The hub with a pod gone silent, before its bits fall (R57). -/
def podLost (p : Fin 8) (s : State) : State :=
  { s with pods := modifyAt s.pods (linkPod p) fun x => { x with bits := 0, known := false, timer := none } }

/-- Its set bits fall as one event (R57). -/
def podFallen (p : Fin 8) (s : State) : State := switchEvent (linkPod p) 0 s.pods[linkPod p].bits (podLost p s)

theorem podFallen_lessLinks (p : Fin 8) (s : State) : (podFallen p s).lessLinks = (podLost p s).lessLinks := switchEvent_lessLinks _ _ _ _

theorem podFallen_lessLoads (p : Fin 8) (s : State) : (podFallen p s).lessLoads = (podLost p s).lessLoads := by
  unfold podFallen switchEvent
  split
  · rfl
  · exact matrixEvent_lessLoads _ _

/-- The fall of the bits leaves to the POD report what it reads. -/
theorem podFallen_reads (p : Fin 8) (s : State) : (podFallen p s).tables = s.tables ∧
    (podFallen p s).faults.isSet .pod p.val = s.faults.isSet .pod p.val ∧
    captured (podFallen p s) .pod p.val 0 = captured s .pod p.val 0 := by
  have links := podFallen_lessLinks p s
  have tables : (podFallen p s).tables = s.tables := (congrArg State.tables links :)
  have flag : (podFallen p s).faults.isSet .pod p.val = s.faults.isSet .pod p.val := isSet_of_lessLinks links .pod _ (by decide)
  obtain ⟨capture, lost⟩ := capture_of_lessLinks links
  exact ⟨tables, flag, captured_congr .pod p.val 0 flag tables capture lost (congrArg (fun t : State => t.supply.vs) links :)
    (congrArg (fun t : State => t.faults.uptime) links :)⟩

/-- The demands follow the fall of the bits (R57, R78 to R82). -/
theorem podFallen_moved (p : Fin 8) (s : State) :
    movedBy (resolvedVerbs (firingSet s (.switch (linkPod p) 0 s.pods[linkPod p].bits))) s (podFallen p s) := by
  rw [← firingSet_congr (s := s) (u := podLost p s) rfl rfl]
  exact movedBy_congr (switchEvent_moved _ _ _ (podLost p s)) rfl rfl rfl rfl rfl

/-- The timer of an unknown pod, or one that is stopped, cannot expire (R57). -/
theorem podTimeoutExpiry_stopped (s : State) (p : Fin 8) (running : s.inReset = false)
    (stopped : s.pods[linkPod p].known = false ∨ s.pods[linkPod p].timer = none) : exec (.podTimeoutExpiry p) s = .next s := by
  refine (event_running _ s running).trans (congrArg _ ?_)
  have guard : ¬ (s.pods[linkPod p].known = true ∧ s.pods[linkPod p].timer.isSome = true) := by
    rintro ⟨known, runs⟩
    rcases stopped with h | h
    · exact absurd (h.symm.trans known) (by decide)
    · exact absurd h (Option.isSome_iff_ne_none.mp runs)
  exact (congrArg (finish s) (if_neg guard)).trans (afterNeed_still rfl rfl rfl)

theorem podTimeoutExpiry_runs (s : State) (p : Fin 8) (running : s.inReset = false) (known : s.pods[linkPod p].known = true)
    (runs : s.pods[linkPod p].timer ≠ none) : exec (.podTimeoutExpiry p) s =
      .next (finish s (reportFault .pod p.val 0 (Ev.start (podFallen p s)))) := by
  refine (event_running _ s running).trans (congrArg _ (congrArg (finish s) ?_))
  exact if_pos ⟨known, Option.isSome_iff_ne_none.mpr runs⟩

/-- Settles O32: the fall of the bits, then the POD report. -/
theorem silentPodsTimeOut : Obligations.SilentPodsTimeOut := by
  unfold Obligations.SilentPodsTimeOut
  intro s p running old
  refine ⟨podTimeoutExpiry_stopped s p running, fun known runs => ⟨_, podTimeoutExpiry_runs s p running known runs, ?_⟩⟩
  let x := reportFault .pod p.val 0 (Ev.start (podFallen p s))
  obtain ⟨rest, flag, captures, quiet⟩ := podReport_made p (Ev.start (podFallen p s))
  obtain ⟨tables, held, reads⟩ := podFallen_reads p s
  have ended := finish_lessReports s x
  have fallen : (podFallen p s).pods = (podLost p s).pods := (congrArg State.pods (podFallen_lessLinks p s) :)
  have faults := finish_faults_eq s x
  have raises : podRaises p (podFallen p s) = podRaises p s := by
    unfold podRaises
    rw [tables, held]
  have pods : (finish s x).pods = (podMarked p (podRaises p s) (podLost p s)).pods := by
    refine (congrArg State.pods ended :).trans ((congrArg State.pods rest :).trans ?_)
    show modifyAt (podFallen p s).pods (linkPod p) (PodLive.reported (podRaises p (podFallen p s))) = _
    rw [raises, fallen]
    rfl
  have own : (finish s x).pods[linkPod p] =
      { s.pods[linkPod p] with bits := 0, known := false, timer := none, seen := old.seen && !podRaises p s } := by
    rw [pods, podMarked, getElem_modifyAt_self, podLost, getElem_modifyAt_self]
    rfl
  have whole : (finish s x).lessReports.lessLoads = ({ s with pods := (finish s x).pods } : State).lessReports.lessLoads := by
    rw [pods, ended]
    refine (congrArg State.lessReports rest :).trans ?_
    rw [show (Ev.start (podFallen p s)).st = podFallen p s from rfl, raises]
    exact (congrArg (fun u : State => (podMarked p (podRaises p s) u).lessReports) (podFallen_lessLoads p s) :)
  refine ⟨by rw [own], by rw [own], by rw [own], fun q other => ?_, ?_, ?_, ?_, (congrArg State.conds whole :),
    (congrArg State.gauges whole :), (congrArg (fun u : State => u.lessConds.lessGauges) whole :), fun calm => ?_⟩
  · rw [pods, podMarked, getElem_modifyAt_ne _ _ _ _ other, podLost, getElem_modifyAt_ne _ _ _ _ other]
  · rw [faults, flag]
    exact congrArg₂ _ held (by rw [← tables]; rfl)
  · rw [faults]
    exact captures.trans reads
  · rw [own, podRaises]
    cases s.tables.hub.detects .pod <;> cases s.faults.isSet .pod p.val <;> simp
  · obtain ⟨outs, flash⟩ := quiet (by
      show (podFallen p s).faults.isSet .pod p.val = true ∨ (podFallen p s).tables.hub.detects .pod = false ∨
        wakesMatrix (podFallen p s) (.fault .pod) = false
      rwa [held, wakesMatrix_of_tables tables, tables])
    exact demandsFollow_of_moved (movedBy_congr (podFallen_moved p s) rfl rfl rfl ((congrArg State.outs ended :).trans outs)
      ((congrArg State.flash ended :).trans flash))

end Sys2Proof.Machine
end

section
/-! PROOFS. The shed timers (R89, R92 to R96, R122, R125, R153 to R155), over a round of the condition unit that follows a change of
its own (R68, R69), and outputs whose levels and drives are formed anew. -/

namespace Sys2Proof.Machine

/-! A round of the condition unit after a change that leaves tables and conditions alone (R68, R69). -/

/-- The round evaluates the entries concerned with the operands as they then stand. -/
theorem evalConds_taken {reads : OperandKind → Nat → Bool} {s u : State} (tables : u.tables = s.tables) (conds : u.conds = s.conds) :
    conditionsTake s (evalConds reads u) reads := fun c => by
  have same := evalConds_sameOperands reads u
  refine (evalConds_conds _ u c).trans ((condAfter_eq _ _ c).trans ?_)
  exact condTaken_congr reads c tables (by rw [conds]) ⟨same.rest.symm, same.currents.symm, same.gauges.symm⟩

/-- How edges move the demands is read from tables, conditions and demands. -/
theorem edgesMove_of_demands {s t u v : State} (tables : u.tables = s.tables) (conds : u.conds = s.conds)
    (outs : ∀ o, demandView o u = demandView o s) (flash : ∀ i, (u.flash.source i).demand = (s.flash.source i).demand)
    (conds' : v.conds = t.conds) (outs' : ∀ o, demandView o v = demandView o t)
    (flash' : ∀ i, (v.flash.source i).demand = (t.flash.source i).demand) (h : edgesMove s t) : edgesMove u v := by
  have demand : ∀ o : Fin 12, u.outs[o].demand = s.outs[o].demand := fun o => congrArg (fun x => x.1) (outs o)
  have fan : ∀ o : Fin 12, (u.outs[o].fanLevel, u.outs[o].fanMemory) = (s.outs[o].fanLevel, s.outs[o].fanMemory) :=
    fun o => congrArg (fun x => x.2) (outs o)
  have demand' : ∀ o : Fin 12, v.outs[o].demand = t.outs[o].demand := fun o => congrArg (fun x => x.1) (outs' o)
  have fan' : ∀ o : Fin 12, (v.outs[o].fanLevel, v.outs[o].fanMemory) = (t.outs[o].fanLevel, t.outs[o].fanMemory) :=
    fun o => congrArg (fun x => x.2) (outs' o)
  unfold edgesMove firingSet at h ⊢
  simp only [tables, conds, conds', demand, demand', fan, fan', flash, flash']
  exact h

/-- The edges of the round act, where nothing before it has moved a demand. -/
theorem evalConds_edges {reads : OperandKind → Nat → Bool} {s u : State} (tables : u.tables = s.tables) (conds : u.conds = s.conds)
    (outs : ∀ o, demandView o u = demandView o s) (flash : u.flash = s.flash) : edgesMove s (evalConds reads u) :=
  edgesMove_of_demands tables.symm conds.symm (fun o => (outs o).symm) (fun _ => by rw [flash]) rfl (fun _ => rfl) (fun _ => rfl)
    (evalConds_edgesMove reads u)

/-! Outputs whose levels and drives are formed anew (R95, R96). -/

theorem redriveAll_out (s : State) (o : Fin 12) :
    (redriveAll s).outs[o] = redrive s.tables.loads[o] s.flash s.supply.ign s.supply.shed s.outs[o] := getElem_tabulate_fin _ o

theorem relevelFans_fan {s : State} {o : Fin 12} (h : s.tables.loads[o].kind = .fan) : (relevelFans s).outs[o] =
    { s.outs[o] with effective := effectiveOf s.tables s.tables.loads[o] s.supply.ign s.supply.shed s.outs[o].fanLevel } := by
  rw [← effectiveLevel_eq]
  exact (getElem_tabulate_fin _ o).trans (if_pos h)

theorem relevelFans_other {s : State} {o : Fin 12} (h : s.tables.loads[o].kind ≠ .fan) : (relevelFans s).outs[o] = s.outs[o] :=
  (getElem_tabulate_fin _ o).trans (if_neg h)

/-- A drive recomputed leaves demand, levels and trips alone, and the protection. -/
theorem redrive_kept (e : LoadEntry) (flash : FlashState) (ign : Bool) (shed : Nat) (x : OutLive) :
    (redrive e flash ign shed x).effective = x.effective ∧ (redrive e flash ign shed x).trips = x.trips := by
  unfold redrive
  split
  · split
    · split <;> exact ⟨rfl, rfl⟩
    · exact ⟨rfl, rfl⟩
  · split <;> exact ⟨rfl, rfl⟩

theorem relevelFans_kept (s : State) (o : Fin 12) : demandView o (relevelFans s) = demandView o s ∧
    (relevelFans s).outs[o].protection = s.outs[o].protection ∧ (relevelFans s).outs[o].trips = s.outs[o].trips := by
  unfold demandView
  by_cases h : s.tables.loads[o].kind = .fan
  · rw [relevelFans_fan h]
    exact ⟨rfl, rfl, rfl⟩
  · rw [relevelFans_other h]
    exact ⟨rfl, rfl, rfl⟩

/-- The hub with the levels of its fans and every drive formed anew. -/
def levelled (s : State) : State := redriveAll (relevelFans s)

theorem levelled_lessLinks (s : State) : (levelled s).lessLinks = s.lessLinks := rfl

theorem levelled_kept (s : State) (o : Fin 12) : demandView o (levelled s) = demandView o s ∧
    (levelled s).outs[o].protection = s.outs[o].protection ∧ (levelled s).outs[o].trips = s.outs[o].trips := by
  obtain ⟨demand, protection, trips⟩ := relevelFans_kept s o
  refine ⟨(redriveAll_demand (relevelFans s) o).trans demand, ?_, ?_⟩ <;> rw [levelled, redriveAll_out]
  · exact (redrive_drive _ _ _ _ _).2.2.trans protection
  · exact (redrive_kept _ _ _ _ _).2.trans trips

/-- A lamp or stop lamp is driven in NORMAL just as its request says (R92, R94, R96). -/
theorem levelled_lamp {s : State} {o : Fin 12} (h : s.tables.loads[o].kind = .lamp ∨ s.tables.loads[o].kind = .stop) :
    (levelled s).outs[o].drive = (s.outs[o].demand && decide (s.outs[o].protection = .normal) &&
      (decide (s.tables.loads[o].domain = .always) || s.supply.ign) &&
      !(decide (1 ≤ s.tables.loads[o].shedClass) && decide (4 - s.tables.loads[o].shedClass ≤ s.supply.shed))) := by
  have other : s.tables.loads[o].kind ≠ .fan := by rcases h with h | h <;> rw [h] <;> decide
  have wants : requested s.tables.loads[o] s.flash s.supply.ign s.supply.shed s.outs[o] =
      (s.outs[o].demand && domainAllows s.tables.loads[o] s.supply.ign && !isShed s.tables.loads[o] s.supply.shed) := by
    unfold requested
    rcases h with h | h <;> rw [h]
  rw [levelled, redriveAll_out, relevelFans_other other]
  refine (redrive_drive _ _ _ _ _).1.trans ?_
  unfold wantsDrive
  refine (congrArg (· && _) wants).trans ?_
  rw [domainAllows_eq, isShed_eq]
  ac_rfl

/-- The effective level of a fan is formed with IGN and the shed level as they stand (R95). -/
theorem levelled_fan {s : State} {o : Fin 12} (h : s.tables.loads[o].kind = .fan) : (levelled s).outs[o].effective =
    effectiveOf s.tables s.tables.loads[o] s.supply.ign s.supply.shed s.outs[o].fanLevel := by
  rw [levelled, redriveAll_out, relevelFans_fan h]
  exact (redrive_kept _ _ _ _ _).1

/-- A flashed output is driven as its side's light or its brake part says (R93, R122, R125). -/
theorem levelled_flashed {s : State} {o : Fin 12} (h : s.tables.loads[o].kind = .indicator ∨ s.tables.loads[o].kind = .stopturn) :
    (levelled s).outs[o] = flashedDrive s.flash s.supply.ign s.tables.loads[o] s.outs[o] := by
  have other : s.tables.loads[o].kind ≠ .fan := by rcases h with h | h <;> rw [h] <;> decide
  rw [levelled, redriveAll_out, relevelFans_other other]
  rcases h with h | h
  · exact redrive_indicator _ _ _ _ _ h
  · exact redrive_stopturn _ _ _ _ _ h

/-! A change of the shed level (R155). -/

/-- The hub with the shed level at `level`. -/
def atShed (level : Nat) (s : State) : State := { s with supply := { s.supply with shed := level } }

theorem shedChanged_eq (level : Nat) (s : State) : shedChanged level s = evalConds affectsShed (levelled (atShed level s)) := rfl

theorem shedChanged_rest (level : Nat) (s : State) : (shedChanged level s).lessLoads.lessConds = (atShed level s).lessLoads.lessConds :=
  evalConds_lessLoads affectsShed (levelled (atShed level s))

/-- The conditions on the level are evaluated, and their edges act (R68, R69). -/
theorem shedChanged_conditions (level : Nat) (s : State) :
    conditionsTake s (shedChanged level s) affectsShed ∧ edgesMove s (shedChanged level s) :=
  ⟨evalConds_taken (u := levelled (atShed level s)) rfl rfl,
    evalConds_edges (u := levelled (atShed level s)) rfl rfl (fun o => (levelled_kept (atShed level s) o).1) rfl⟩

/-- Where no condition reads the level, levels and drives are all that follows it. -/
theorem shedChanged_unread (level : Nat) {s : State} (quiet : condsConcerned s affectsShed = false) :
    shedChanged level s = levelled (atShed level s) := evalConds_unconcerned _ _ quiet

/-- What the expiry of either timer makes of `u`, the hub with the timer started again (R153, R154). -/
def shedMoved (level : Nat) (s u : State) : State := if level = s.supply.shed then u else shedChanged level u

theorem exec_enterTimerExpiry {s : State} (running : s.inReset = false) (runs : s.supply.enter ≠ none) :
    exec .enterTimerExpiry s = .next (afterNeed s (shedMoved (if s.supply.shed < 3 then s.supply.shed + 1 else s.supply.shed) s
      { s with supply := { s.supply with enter := some (s.tables.hub.enterDwell * 1000) } })) := by
  refine (event_running _ s running).trans (congrArg (fun t => Host.Outcome.next (afterNeed s t)) ?_)
  refine (if_pos (Option.isSome_iff_ne_none.mpr runs)).trans ?_
  show enterExpired s = _
  unfold enterExpired shedMoved
  by_cases low : s.supply.shed < 3 <;> simp [low]

theorem exec_restoreTimerExpiry {s : State} (running : s.inReset = false) (runs : s.supply.restore ≠ none) :
    exec .restoreTimerExpiry s = .next (afterNeed s (shedMoved (s.supply.shed - 1) s
      { s with supply := { s.supply with restore := some (s.tables.hub.restoreDwell * 1000) } })) := by
  refine (event_running _ s running).trans (congrArg (fun t => Host.Outcome.next (afterNeed s t)) ?_)
  refine (if_pos (Option.isSome_iff_ne_none.mpr runs)).trans ?_
  show restoreExpired s = _
  unfold restoreExpired shedMoved
  by_cases high : 0 < s.supply.shed
  · simp [high, show s.supply.shed - 1 ≠ s.supply.shed by omega]
  · simp [Nat.eq_zero_of_not_pos high]

/-- The hub with a shed timer started again. -/
def shedTimed (s : State) (enter restore : Option Nat) : State :=
  { s with supply := { s.supply with enter := enter, restore := restore } }

/-- Settles O50: the level moves, with it drives and fan levels, and then the conditions that read it. -/
theorem shedTimersMoveTheLevel : Obligations.ShedTimersMoveTheLevel := by
  unfold Obligations.ShedTimersMoveTheLevel
  intro s c level u running row
  obtain ⟨stepped, enter, restore, rfl⟩ : exec c s = .next (afterNeed s (shedMoved level s u)) ∧ ∃ enter restore,
      u = shedTimed s enter restore := by
    rcases row with ⟨rfl, runs, rfl, rfl⟩ | ⟨rfl, runs, rfl, rfl⟩
    · exact ⟨exec_enterTimerExpiry running runs, _, s.supply.restore, rfl⟩
    · exact ⟨exec_restoreTimerExpiry running runs, s.supply.enter, _, rfl⟩
  refine ⟨_, stepped, ?_⟩
  clear row stepped
  by_cases stands : level = s.supply.shed
  · subst stands
    have still : afterNeed s (shedTimed s enter restore) = shedTimed s enter restore := afterNeed_still rfl rfl rfl
    rw [shedMoved, if_pos rfl, still]
    exact ⟨rfl, rfl, rfl, fun _ => rfl, fun moves => absurd rfl moves, fun moves => absurd rfl moves⟩
  rw [shedMoved, if_neg stands]
  let u := shedTimed s enter restore
  have same := afterNeed_lessReports s (shedChanged level u)
  have rest := shedChanged_rest level u
  have supply : (afterNeed s (shedChanged level u)).supply = { u.supply with shed := level } :=
    (congrArg State.supply same :).trans (congrArg State.supply rest :)
  have gauges : (afterNeed s (shedChanged level u)).gauges = s.gauges := (congrArg State.gauges same :).trans (congrArg State.gauges rest :)
  have bystanders : (afterNeed s (shedChanged level u)).bystanders = (atShed level u).bystanders :=
    (congrArg (fun t : State => t.lessLoads.lessConds.lessGauges) same :).trans (congrArg (fun t : State => t.lessReports.lessGauges) rest :)
  obtain ⟨conds, edges⟩ : conditionsTake s (shedChanged level u) affectsShed ∧ edgesMove s (shedChanged level u) :=
    shedChanged_conditions level u
  refine ⟨supply, gauges, ?_, fun h => absurd h stands, fun _ => conditionsAndEdges_of_lessReports same conds edges, fun _ quiet => ?_⟩
  · rw [supply]
    exact bystanders
  have outs : (afterNeed s (shedChanged level u)).outs = (levelled (atShed level u)).outs :=
    (congrArg State.outs same :).trans (congrArg State.outs (shedChanged_unread level (s := u) quiet) :)
  rw [outs]
  refine ⟨fun o kind => levelled_lamp (s := atShed level u) kind, fun o kind => levelled_fan (s := atShed level u) kind, fun o kind => ?_,
    fun o => ?_⟩
  · rw [flashedOutput_same _ _ _ _ _ kind]
    exact levelled_flashed (s := atShed level u) kind
  · obtain ⟨demands, protection, trips⟩ := levelled_kept (atShed level u) o
    exact ⟨congrArg (fun x => x.1) demands, congrArg (fun x => x.2.1) demands, protection, trips⟩

end Sys2Proof.Machine
end

section
/-! PROOFS. CURRENT_SAMPLE: the sample, the conditions that read it, and its checks (R68, R69, R98 to R101, R108). -/

namespace Sys2Proof.Machine

/-! A round of the condition unit, and what comes after it in the same command. -/

/-- The entries evaluated stand where operands and conditions do. -/
theorem conditionsTake_kept {reads : OperandKind → Nat → Bool} {s u t : State} (h : conditionsTake s u reads) (same : u.sameOperands t)
    (conds : t.conds = u.conds) : conditionsTake s t reads := fun c => by
  rw [conds]
  exact (h c).trans (condTaken_congr (u := s) (s := s) reads c rfl rfl ⟨same.rest.symm, same.currents.symm, same.gauges.symm⟩)

theorem modifyAt_modifyAt {α : Type} {n : Nat} (v : Vector α n) (i : Fin n) (f g : α → α) :
    modifyAt (modifyAt v i f) i g = modifyAt v i (g ∘ f) := by
  simp [modifyAt]

/-- The flag of a raise that no link names (R160). -/
theorem reportFault_asleep_isSet (c : FaultClass) (i value : Nat) (e : Ev) (hi : i < 12) (other : c ≠ .pod)
    (asleep : wakesMatrix e.st (.fault c) = false) :
    (reportFault c i value e).st.faults.isSet c i = (e.st.faults.isSet c i || e.st.tables.hub.detects c) := by
  cases clear : e.st.faults.isSet c i
  · cases detects : e.st.tables.hub.detects c
    · rw [reportFault_ignored c i value e (.inr detects), clear]
      rfl
    · rw [reportFault_alone c i value e clear detects asleep other]
      exact (isSet_setFlag e.st.faults c c i i).trans (by simp [hi])
  · rw [reportFault_ignored c i value e (.inl clear), clear]
    rfl

/-! The sample (R98). -/

/-- The hub with the sample of an output taken. -/
def sampleTaken (o : Fin 12) (tens : Nat) (s : State) : State :=
  { s with outs := modifyAt s.outs o fun x => { x with current := sensed x tens } }

/-- The same, with the conditions that read it evaluated. -/
def sampleRead (o : Fin 12) (tens : Nat) (s : State) : State := evalConds (affectsCurrent o) (sampleTaken o tens s)

theorem exec_currentSample {s : State} (running : s.inReset = false) (o : Fin 12) (tens : Nat) : exec (.currentSample o tens) s =
    .next (finish s (checkSample o (decide (s.outs[o].window = .opened)) (Ev.start (sampleRead o tens s)))) := event_running _ s running

theorem sampleTaken_demand (o q : Fin 12) (tens : Nat) (s : State) : demandView q (sampleTaken o tens s) = demandView q s := by
  unfold demandView sampleTaken
  by_cases own : q = o
  · subst own
    rw [getElem_modifyAt_self]
  · rw [getElem_modifyAt_ne _ _ _ _ own]

theorem sampleRead_currents (o q : Fin 12) (tens : Nat) (s : State) :
    (sampleRead o tens s).outs[q].current = if q = o then sensed s.outs[o] tens else s.outs[q].current := by
  refine (congrFun (evalConds_currents (affectsCurrent o) (sampleTaken o tens s)) q).trans ?_
  unfold State.currents sampleTaken
  by_cases own : q = o
  · subst own
    rw [getElem_modifyAt_self, if_pos rfl]
  · rw [getElem_modifyAt_ne _ _ _ _ own, if_neg own]

theorem sampleRead_rest (o : Fin 12) (tens : Nat) (s : State) : (sampleRead o tens s).lessLoads.lessConds = s.lessLoads.lessConds :=
  evalConds_lessLoads (affectsCurrent o) (sampleTaken o tens s)

/-- The conditions that read the sample are evaluated, and their edges act (R68, R69). -/
theorem sampleRead_conditions (o : Fin 12) (tens : Nat) (s : State) :
    conditionsTake s (sampleRead o tens s) (affectsCurrent o) ∧ edgesMove s (sampleRead o tens s) :=
  ⟨evalConds_taken (u := sampleTaken o tens s) rfl rfl,
    evalConds_edges (u := sampleTaken o tens s) rfl rfl (fun q => sampleTaken_demand o q tens s) rfl⟩

/-- Where no condition reads it, the sample is all. -/
theorem sampleRead_unread (o : Fin 12) (tens : Nat) {s : State} (quiet : condsConcerned s (affectsCurrent o) = false) :
    sampleRead o tens s = sampleTaken o tens s := evalConds_unconcerned _ _ quiet

/-! The checks (R99 to R101, R108). They leave the currents and all that is no load alone. -/

/-- Nothing but loads, and of those no current, differs. -/
structure State.checkKept (s t : State) : Prop where
  rest : t.lessLoads = s.lessLoads
  currents : t.currents = s.currents

theorem checkKept_trans {s t u : State} (h : s.checkKept t) (h' : t.checkKept u) : s.checkKept u :=
  ⟨h'.rest.trans h.rest, h'.currents.trans h.currents⟩

theorem sameOperands_of_checkKept {s t : State} (h : s.checkKept t) : s.sameOperands t :=
  ⟨lessRuns_of_lessLoads h.rest, h.currents, (congrArg State.gauges h.rest :)⟩

theorem reportFault_checkKept (c : FaultClass) (i value : Nat) (e : Ev) (other : c ≠ .pod) :
    e.st.checkKept (reportFault c i value e).st :=
  ⟨reportFault_lessLoads c i value e other, reportFault_currents c i value e other⟩

theorem clearUnlatched_checkKept (c : FaultClass) (i : Nat) (s : State) : s.checkKept (clearUnlatched c i s) :=
  ⟨clearUnlatched_lessLoads c i s, currents_of_outs (clearUnlatched_outs c i s)⟩

theorem modifyOut_checkKept (o : Fin 12) (f : OutLive → OutLive) (s : State) (keeps : ∀ x, (f x).current = x.current) :
    s.checkKept { s with outs := modifyAt s.outs o f } := by
  refine ⟨rfl, funext fun q => ?_⟩
  unfold State.currents
  by_cases own : q = o
  · subst own
    rw [getElem_modifyAt_self, keeps]
  · rw [getElem_modifyAt_ne _ _ _ _ own]

theorem protect_current (x : OutLive) (trips : Nat) : (x.protect trips).current = x.current := by
  unfold OutLive.protect
  split <;> rfl

theorem stallTest_current (e : LoadEntry) (x : OutLive) : (stallTest e x).current = x.current := by
  unfold stallTest
  split
  · split <;> rfl
  · rfl

theorem tripEnd_checkKept (o : Fin 12) (s : State) : s.checkKept (tripEnd o s) :=
  checkKept_trans (modifyOut_checkKept o (fun x => x.protect x.trips) s fun x => protect_current x _)
    (modifyOut_checkKept o _ _ fun _ => redrive_current _ _ _ _ _)

/-- The hub with an output at the start of its trip (R101). -/
def tripStarted (o : Fin 12) (s : State) : State :=
  { s with outs := modifyAt s.outs o fun x => { x.tripStart with openGone := false } }

theorem tripOutput_st (o : Fin 12) (e : Ev) : (tripOutput o e).st =
    tripEnd o (reportFault .overload o.val e.st.outs[o].current (e.on (tripStarted o))).st := rfl

theorem tripOutput_checkKept (o : Fin 12) (e : Ev) : e.st.checkKept (tripOutput o e).st :=
  have started : e.st.checkKept (tripStarted o e.st) := modifyOut_checkKept o _ _ fun _ => rfl
  have reported := reportFault_checkKept .overload o.val e.st.outs[o].current (e.on (tripStarted o)) (by decide)
  checkKept_trans (checkKept_trans started reported) (tripEnd_checkKept o _)

/-- The hub with the mark of R162 that the cause of OPEN is gone, or not. -/
def openMarked (o : Fin 12) (gone : Bool) (s : State) : State :=
  { s with outs := modifyAt s.outs o fun y => { y with openGone := gone } }

/-- The hub with the stall test of a fan made (R108). -/
def stallTested (o : Fin 12) (entry : LoadEntry) (s : State) : State := { s with outs := modifyAt s.outs o (stallTest entry) }

theorem checkLimits_within {o : Fin 12} {e : Ev} (h : e.st.tables.loads[o].imin ≤ e.st.outs[o].current) : checkLimits o e =
    e.on fun s => stallTested o e.st.tables.loads[o] (clearUnlatched .openLoad o.val (openMarked o true s)) := by
  unfold checkLimits
  simp only [decide_eq_true h, if_true]
  rfl

theorem checkLimits_open {o : Fin 12} {e : Ev} (h : e.st.outs[o].current < e.st.tables.loads[o].imin) : checkLimits o e =
    (reportFault .openLoad o.val e.st.outs[o].current (e.on (openMarked o false))).on (stallTested o e.st.tables.loads[o]) := by
  unfold checkLimits
  simp only [decide_eq_false (Nat.not_le.mpr h), Bool.false_eq_true, if_false]
  rfl

theorem openMarked_checkKept (o : Fin 12) (gone : Bool) (s : State) : s.checkKept (openMarked o gone s) :=
  modifyOut_checkKept o _ _ fun _ => rfl

theorem stallTested_checkKept (o : Fin 12) (entry : LoadEntry) (s : State) : s.checkKept (stallTested o entry s) :=
  modifyOut_checkKept o _ _ (stallTest_current entry)

theorem checkLimits_checkKept (o : Fin 12) (e : Ev) : e.st.checkKept (checkLimits o e).st := by
  rcases Nat.lt_or_ge e.st.outs[o].current e.st.tables.loads[o].imin with low | within
  · rw [checkLimits_open low]
    exact checkKept_trans (checkKept_trans (openMarked_checkKept o false e.st)
      (reportFault_checkKept .openLoad o.val _ (e.on (openMarked o false)) (by decide))) (stallTested_checkKept o _ _)
  · rw [checkLimits_within within]
    exact checkKept_trans (checkKept_trans (openMarked_checkKept o true e.st) (clearUnlatched_checkKept .openLoad o.val _))
      (stallTested_checkKept o _ _)

theorem checkSample_checkKept (o : Fin 12) (taken : Bool) (e : Ev) : e.st.checkKept (checkSample o taken e).st := by
  unfold checkSample
  split
  · split
    · exact tripOutput_checkKept o e
    · exact checkLimits_checkKept o e
  · exact ⟨rfl, rfl⟩

/-- A sample outside the window is not checked (R99). -/
theorem checkSample_untaken (o : Fin 12) (e : Ev) : checkSample o false e = e := if_neg fun h => absurd h.1 (by decide)

theorem checkSample_over {o : Fin 12} {e : Ev} (window : e.st.outs[o].window = .opened)
    (above : e.st.tables.loads[o].imax < e.st.outs[o].current) : checkSample o true e = tripOutput o e :=
  (if_pos ⟨rfl, window⟩).trans (if_pos above)

theorem checkSample_under {o : Fin 12} {e : Ev} (window : e.st.outs[o].window = .opened)
    (below : e.st.outs[o].current ≤ e.st.tables.loads[o].imax) : checkSample o true e = checkLimits o e :=
  (if_pos ⟨rfl, window⟩).trans (if_neg (Nat.not_lt.mpr below))

/-! A check that reports nothing moves no demand. -/

/-- A change of one output that keeps its demand, level and memory. -/
theorem modifyOut_demand (o q : Fin 12) (f : OutLive → OutLive) (s : State)
    (keeps : ∀ x, ((f x).demand, (f x).fanLevel, (f x).fanMemory) = (x.demand, x.fanLevel, x.fanMemory)) :
    demandView q { s with outs := modifyAt s.outs o f } = demandView q s := by
  unfold demandView
  by_cases own : q = o
  · subst own
    rw [getElem_modifyAt_self, keeps]
  · rw [getElem_modifyAt_ne _ _ _ _ own]

theorem stallTest_demand (e : LoadEntry) (x : OutLive) :
    ((stallTest e x).demand, (stallTest e x).fanLevel, (stallTest e x).fanMemory) = (x.demand, x.fanLevel, x.fanMemory) := by
  unfold stallTest
  split
  · split <;> rfl
  · rfl

theorem checkLimits_within_demand {o : Fin 12} {e : Ev} (h : e.st.tables.loads[o].imin ≤ e.st.outs[o].current) :
    (∀ q, demandView q (checkLimits o e).st = demandView q e.st) ∧ (checkLimits o e).st.flash = e.st.flash := by
  rw [checkLimits_within h]
  refine ⟨fun q => ?_, clearUnlatched_flash _ _ _⟩
  refine (modifyOut_demand o q (stallTest _) _ (stallTest_demand _)).trans ?_
  have cleared : demandView q (clearUnlatched .openLoad o.val (openMarked o true e.st)) = demandView q (openMarked o true e.st) := by
    unfold demandView
    rw [clearUnlatched_outs]
  exact cleared.trans (modifyOut_demand o q _ _ fun _ => rfl)

theorem checkSample_within_demand {o : Fin 12} {taken : Bool} {e : Ev} (h : taken = false ∨
      (e.st.tables.loads[o].imin ≤ e.st.outs[o].current ∧ e.st.outs[o].current ≤ e.st.tables.loads[o].imax)) :
    (∀ q, demandView q (checkSample o taken e).st = demandView q e.st) ∧ (checkSample o taken e).st.flash = e.st.flash := by
  rcases h with rfl | ⟨low, high⟩
  · rw [checkSample_untaken]
    exact ⟨fun _ => rfl, rfl⟩
  · unfold checkSample
    split
    · rw [if_neg (Nat.not_lt.mpr high)]
      exact checkLimits_within_demand low
    · exact ⟨fun _ => rfl, rfl⟩

/-! The trip (R101). -/

/-- An output tripped. -/
def OutLive.tripped (x : OutLive) : OutLive :=
  { x with
    drive := false, duty := 0, softStart := none, window := .closed, stall := none, actual := 0
    openGone := false, trips := x.trips + 1
    protection := if x.trips + 1 < 3 then .tripped else .locked
    retry := if x.trips + 1 < 3 then some 1000 else none }

/-- An output that is not driven and not NORMAL stays as it is (R96). -/
theorem redrive_protected {e : LoadEntry} {flash : FlashState} {ign : Bool} {shed : Nat} {x : OutLive} (off : x.drive = false)
    (protected' : x.protection ≠ .normal) : redrive e flash ign shed x = x := by
  have still : wantsDrive e flash ign shed x = false := by
    unfold wantsDrive
    rw [decide_eq_false protected', Bool.and_false]
  unfold redrive
  simp [still, off]

theorem tripped_eq (x : OutLive) :
    ({ x.tripStart with openGone := false } : OutLive).protect ({ x.tripStart with openGone := false } : OutLive).trips = x.tripped := by
  show OutLive.protect _ (x.trips + 1) = _
  unfold OutLive.protect OutLive.tripped
  by_cases low : x.trips + 1 < 3
  · simp only [low, if_true]
    rfl
  · simp only [low, if_false]
    rfl

theorem tripped_stays (e : LoadEntry) (flash : FlashState) (ign : Bool) (shed : Nat) (x : OutLive) :
    redrive e flash ign shed x.tripped = x.tripped := by
  refine redrive_protected rfl ?_
  unfold OutLive.tripped
  dsimp only
  split <;> decide

/-- A trip ends in the output tripped, where nothing has moved it meanwhile. -/
theorem tripEnd_outs {o : Fin 12} {s u : State} (h : u.outs = (tripStarted o s).outs) :
    (tripEnd o u).outs = modifyAt s.outs o OutLive.tripped := by
  unfold tripEnd redriveOne
  dsimp only
  rw [h, tripStarted, modifyAt_modifyAt, modifyAt_modifyAt]
  exact congrArg (modifyAt s.outs o) (funext fun x => (congrArg (redrive _ _ _ _) (tripped_eq x)).trans (tripped_stays _ _ _ _ x))

/-- A trip that no link hears of (R101, R160, R165). -/
theorem tripOutput_made (o : Fin 12) (u : State) (asleep : wakesMatrix u (.fault .overload) = false) :
    let t := (tripOutput o (Ev.start u)).st
    t.outs = modifyAt u.outs o OutLive.tripped ∧ t.flash = u.flash ∧
      t.faults.isSet .overload o.val = (u.faults.isSet .overload o.val || u.tables.hub.detects .overload) ∧
      (t.faults.capture, t.faults.lost) = captured u .overload o.val u.outs[o].current := by
  let started : Ev := (Ev.start u).on (tripStarted o)
  obtain ⟨outs, flash⟩ := reportFault_asleep .overload o.val u.outs[o].current started (by decide) asleep
  exact ⟨tripEnd_outs outs, flash, reportFault_asleep_isSet .overload o.val _ started o.isLt (by decide) asleep,
    reportFault_captured .overload o.val _ started (by decide)⟩

/-! Samples that are no overload (R100, R108). -/

/-- The stall timer after a checked sample (R108). -/
def stallAfter (e : LoadEntry) (x : OutLive) (i : Nat) : Option Nat :=
  if e.kind = .fan ∧ x.drive = true then (if e.stallLimit < i then some (x.stall.getD 2000) else none) else x.stall

theorem stallTest_eq (e : LoadEntry) (x : OutLive) : stallTest e x = { x with stall := stallAfter e x x.current } := by
  unfold stallTest stallAfter
  split
  · split <;> rfl
  · rfl

/-- An open load that no link hears of (R100, R160, R165). -/
theorem checkLimits_open_made {o : Fin 12} {u : State} (low : u.outs[o].current < u.tables.loads[o].imin)
    (asleep : wakesMatrix u (.fault .openLoad) = false) :
    let t := (checkLimits o (Ev.start u)).st
    t.outs = modifyAt u.outs o (fun x => { x with openGone := false, stall := stallAfter u.tables.loads[o] x x.current }) ∧
      t.flash = u.flash ∧ t.faults.isSet .openLoad o.val = (u.faults.isSet .openLoad o.val || u.tables.hub.detects .openLoad) ∧
      (t.faults.capture, t.faults.lost) = captured u .openLoad o.val u.outs[o].current := by
  intro t
  let marked : Ev := (Ev.start u).on (openMarked o false)
  obtain ⟨outs, flash⟩ := reportFault_asleep .openLoad o.val u.outs[o].current marked (by decide) asleep
  have made : t = stallTested o u.tables.loads[o] (reportFault .openLoad o.val u.outs[o].current marked).st :=
    congrArg Ev.st (checkLimits_open (e := Ev.start u) low)
  rw [made]
  refine ⟨?_, flash, reportFault_asleep_isSet .openLoad o.val _ marked o.isLt (by decide) asleep,
    reportFault_captured .openLoad o.val _ marked (by decide)⟩
  refine (congrArg (fun v => modifyAt v o (stallTest u.tables.loads[o])) outs).trans ((modifyAt_modifyAt u.outs o _ _).trans ?_)
  exact congrArg (modifyAt u.outs o) (funext fun x => stallTest_eq _ _)

/-- An output whose sample is within limits (R100, R108). -/
def OutLive.within (e : LoadEntry) (x : OutLive) : OutLive := { x with openGone := true, stall := stallAfter e x x.current }

/-- A sample within limits, whose unlatched OPEN flag is cleared (R100). -/
theorem checkLimits_within_made {o : Fin 12} {u : State} (within : u.tables.loads[o].imin ≤ u.outs[o].current) :
    checkLimits o (Ev.start u) = Ev.start (clearUnlatched .openLoad o.val { u with
      outs := modifyAt u.outs o (OutLive.within u.tables.loads[o]) }) := by
  have commutes : ∀ s : State, stallTested o u.tables.loads[o] (clearUnlatched .openLoad o.val s) =
      clearUnlatched .openLoad o.val (stallTested o u.tables.loads[o] s) := fun s => by
    cases latch : s.tables.hub.latches .openLoad <;> simp [clearUnlatched, stallTested, latch]
  refine (checkLimits_within (e := Ev.start u) within).trans (congrArg Ev.start ((commutes _).trans ?_))
  refine congrArg (fun v => clearUnlatched .openLoad o.val { u with outs := v }) ((modifyAt_modifyAt u.outs o _ _).trans ?_)
  exact congrArg (modifyAt u.outs o) (funext fun x => stallTest_eq _ _)

/-! The whole command. -/

/-- Whatever links act, the sample is taken, and the conditions that read it (R68, R98). -/
theorem currentSample_followed (o : Fin 12) (taken : Bool) (tens : Nat) (s : State) :
    let t := finish s (checkSample o taken (Ev.start (sampleRead o tens s)))
    (∀ q : Fin 12, t.outs[q].current = if q = o then sensed s.outs[o] tens else s.outs[q].current) ∧
      conditionsTake s t (affectsCurrent o) ∧ t.gauges = s.gauges ∧ t.bystanders = s.bystanders := by
  intro t
  let u := sampleRead o tens s
  let x := checkSample o taken (Ev.start u)
  have ended : t.lessReports = x.st.lessReports := finish_lessReports s x
  have kept : u.checkKept x.st := checkSample_checkKept o taken (Ev.start u)
  have rest := sampleRead_rest o tens s
  refine ⟨fun q => ?_, ?_, ?_, ?_⟩
  · rw [show t.outs = x.st.outs from (congrArg State.outs ended :)]
    exact (congrFun kept.currents q).trans (sampleRead_currents o q tens s)
  · have conds : conditionsTake s x.st (affectsCurrent o) := conditionsTake_kept (sampleRead_conditions o tens s).1
      (sameOperands_of_checkKept kept) (congrArg State.conds kept.rest :)
    have conds' : conditionsTake s x.st.lessReports (affectsCurrent o) := conds
    rwa [← ended] at conds'
  · exact (congrArg State.gauges ended :).trans ((congrArg State.gauges kept.rest :).trans (congrArg State.gauges rest :))
  · refine (congrArg (fun v : State => v.lessRuns) ended :).trans ?_
    refine (congrArg (fun v : State => v.lessReports.lessConds.lessGauges) kept.rest :).trans ?_
    exact (congrArg (fun v : State => v.lessReports.lessGauges) rest :)

/-- A check that reports nothing leaves the demands to the edges (R69). -/
theorem currentSample_edges {o : Fin 12} {tens : Nat} {s : State} (h : s.outs[o].window ≠ .opened ∨
      (s.tables.loads[o].imin ≤ sensed s.outs[o] tens ∧ sensed s.outs[o] tens ≤ s.tables.loads[o].imax)) :
    edgesMove s (finish s (checkSample o (decide (s.outs[o].window = .opened)) (Ev.start (sampleRead o tens s)))) := by
  let u := sampleRead o tens s
  let x := checkSample o (decide (s.outs[o].window = .opened)) (Ev.start u)
  have ended := finish_lessReports s x
  have tables : u.tables = s.tables := (congrArg State.tables (sampleRead_rest o tens s) :)
  have current : u.outs[o].current = sensed s.outs[o] tens := (sampleRead_currents o o tens s).trans (if_pos rfl)
  have kept : u.checkKept x.st := checkSample_checkKept o _ (Ev.start u)
  obtain ⟨demands, flash⟩ := checkSample_within_demand (o := o) (taken := decide (s.outs[o].window = .opened)) (e := Ev.start u) (by
    refine h.imp (fun outside => decide_eq_false outside) fun within => ?_
    show u.tables.loads[o].imin ≤ u.outs[o].current ∧ u.outs[o].current ≤ u.tables.loads[o].imax
    rwa [tables, current])
  have edges : edgesMove s x.st.lessReports := edgesMove_of_demands (s := s) (t := u) rfl rfl (fun _ => rfl) (fun _ => rfl)
    (congrArg State.conds kept.rest :) demands (fun i => by rw [show x.st.lessReports.flash = u.flash from flash])
    (sampleRead_conditions o tens s).2
  rwa [← ended] at edges

/-- The drives, where one output changes and keeps its drive. -/
theorem drives_modifyOut (o : Fin 12) (f : OutLive → OutLive) (s : State) (keeps : ∀ x, (f x).drive = x.drive) :
    drives { s with outs := modifyAt s.outs o f } = drives s := by
  unfold drives
  refine congrArg tabulate (funext fun q => ?_)
  by_cases own : q = o
  · subst own
    exact (congrArg OutLive.drive (getElem_modifyAt_self _ _ _)).trans (keeps _)
  · exact congrArg OutLive.drive (getElem_modifyAt_ne _ _ _ _ own)

/-- A change of one output that keeps its drive, and the clearing of a flag, make no STATE need (R169). -/
theorem afterNeed_modifyOut (c : FaultClass) (o : Fin 12) (f : OutLive → OutLive) (s : State) (keeps : ∀ x, (f x).drive = x.drive) :
    afterNeed s (clearUnlatched c o.val { s with outs := modifyAt s.outs o f }) =
      clearUnlatched c o.val { s with outs := modifyAt s.outs o f } :=
  afterNeed_still ((drives_clearUnlatched _ _ _).trans (drives_modifyOut o f s keeps)) (lane1Items_clearUnlatched _ _ _)
    (by rw [clearUnlatched_reports])

/-- Settles O39: the sample, the conditions that read it, then the check that applies. -/
theorem currentSamplesAreChecked : Obligations.CurrentSamplesAreChecked := by
  unfold Obligations.CurrentSamplesAreChecked
  intro s o tens running cmd x e i stall withOut
  have step : exec cmd s = .next (finish s (checkSample o (decide (x.window = .opened)) (Ev.start (sampleRead o tens s)))) :=
    exec_currentSample running o tens
  have reads : (fun (kind : OperandKind) (index : Nat) => decide (kind = .current ∧ index = o.val)) = affectsCurrent o :=
    funext fun kind => funext fun index => Bool.decide_and _ _
  refine ⟨⟨_, step, ?_⟩, fun quiet => ?_⟩
  · rw [reads]
    obtain ⟨currents, conds, gauges, bystanders⟩ := currentSample_followed o (decide (x.window = .opened)) tens s
    exact ⟨currents, conds, currentSample_edges, gauges, bystanders⟩
  rw [step, sampleRead_unread o tens quiet]
  let u := sampleTaken o tens s
  have own : u.outs[o] = { x with current := i } := getElem_modifyAt_self _ _ _
  have opened : x.window = .opened → u.outs[o].window = .opened := fun h => by rw [own]; exact h
  have current : u.outs[o].current = i := by rw [own]
  have sampled : ∀ f : OutLive → OutLive, modifyAt u.outs o f = s.outs.set o (f { x with current := i }) := fun f =>
    modifyAt_modifyAt s.outs o _ f
  refine ⟨fun outside => ?_, fun window above asleep => ⟨_, rfl, ?_⟩, fun window high low asleep => ⟨_, rfl, ?_⟩,
    fun window low high => ?_⟩
  · rw [decide_eq_false outside, checkSample_untaken]
    exact congrArg _ (afterNeed_still (drives_modifyOut o _ s fun _ => rfl) rfl rfl)
  · rw [decide_eq_true window, checkSample_over (e := Ev.start u) (opened window) (by show _ < u.outs[o].current; rwa [current])]
    have ended := finish_lessReports s (tripOutput o (Ev.start u))
    obtain ⟨outs, flash, flag, captures⟩ := tripOutput_made o u asleep
    rw [finish_faults_eq]
    refine ⟨flag, (congrArg State.flash ended :).trans flash, ?_, (congrArg State.outs ended :).trans (outs.trans (sampled _))⟩
    rw [captures, current]
    rfl
  · rw [decide_eq_true window, checkSample_under (e := Ev.start u) (opened window) (by show u.outs[o].current ≤ _; rwa [current])]
    have ended := finish_lessReports s (checkLimits o (Ev.start u))
    obtain ⟨outs, flash, flag, captures⟩ := checkLimits_open_made (o := o) (u := u) (by rwa [current]) asleep
    rw [finish_faults_eq]
    refine ⟨flag, (congrArg State.flash ended :).trans flash, ?_, (congrArg State.outs ended :).trans (outs.trans (sampled _))⟩
    rw [captures, current]
    rfl
  · rw [decide_eq_true window, checkSample_under (e := Ev.start u) (opened window) (by show u.outs[o].current ≤ _; rwa [current]),
      checkLimits_within_made (by rwa [current])]
    have made : ({ u with outs := modifyAt u.outs o (OutLive.within e) } : State) =
        { s with outs := modifyAt s.outs o (OutLive.within e ∘ fun y => { y with current := sensed y tens }) } :=
      congrArg (fun v => { s with outs := v }) (modifyAt_modifyAt s.outs o _ _)
    refine congrArg _ ((congrArg (fun v => afterNeed s (clearUnlatched .openLoad o.val v)) made).trans ?_)
    exact afterNeed_modifyOut .openLoad o _ s fun _ => rfl

end Sys2Proof.Machine
end

section
/-! PROOFS. VS_UPDATE: the damping rule (R149), and its hand-on to timers, reports, duties and conditions (R139, R148 to R154). -/

namespace Sys2Proof.Machine

/-! The damping rule (R135, R149). -/

theorem natAbs_tdiv_two_pow (k : Nat) (d : Int) : (d.tdiv (2 ^ k)).natAbs = d.natAbs / 2 ^ k := by
  rw [Int.natAbs_tdiv, Int.natAbs_pow]
  rfl

/-- Near its goal a value moves by 1. -/
theorem dampStep_near {k : Nat} {d : Int} (h : d.natAbs < 2 ^ k) : dampStep k d = d.sign := by
  have zero : d.tdiv (2 ^ k) = 0 := Int.natAbs_eq_zero.mp ((natAbs_tdiv_two_pow k d).trans (Nat.div_eq_of_lt h))
  unfold dampStep
  rw [zero, if_pos rfl]
  rcases lt_trichotomy d 0 with neg | rfl | pos
  · rw [if_neg (by omega), if_pos neg, Int.sign_eq_neg_one_of_neg neg]
  · rfl
  · rw [if_pos pos, Int.sign_eq_one_of_pos pos]

/-- Further from it, by its part of the difference. -/
theorem dampStep_far {k : Nat} {d : Int} (h : 2 ^ k ≤ d.natAbs) : dampStep k d = d.tdiv (2 ^ k) := by
  refine if_neg fun zero => ?_
  have quotient := (natAbs_tdiv_two_pow k d).symm.trans (Int.natAbs_eq_zero.mpr zero)
  exact absurd (Nat.div_pos h (Nat.two_pow_pos k)) (by omega)

theorem damp_eq (k held goal : Nat) : (damp k held goal : Int) = held + dampStep k ((goal : Int) - held) := by
  obtain ⟨up, down, _⟩ := dampStep_within k ((goal : Int) - held)
  unfold damp
  omega

/-! Acts in an open order, of which one acts once. -/

/-- What one act makes of what all others keep stands at the end of the row, where the act is in it once. -/
theorem runAll_once {α σ : Type} (act : α → σ → σ) (P Q : σ → Prop) (a : α) (reach : ∀ t, P t → Q (act a t)) :
    ∀ (l : List α) (s : σ), l.Nodup → a ∈ l → (∀ b ∈ l, b ≠ a → ∀ t, P t → P (act b t)) → (∀ b ∈ l, b ≠ a → ∀ t, Q t → Q (act b t)) →
      P s → Q (runAll (l.map act) s)
  | [], _, _, mem, _, _, _ => absurd mem (by simp)
  | b :: bs, s, nodup, mem, keepP, keepQ, h => by
    obtain ⟨fresh, nodup⟩ := List.nodup_cons.mp nodup
    rcases List.mem_cons.mp mem with rfl | later
    · refine runAll_keeps Q (bs.map act) (act a s) (fun f hf t ht => ?_) (reach s h)
      obtain ⟨c, hc, rfl⟩ := List.mem_map.mp hf
      exact keepQ c (List.mem_cons_of_mem a hc) (fun e => fresh (e ▸ hc)) t ht
    · have other : b ≠ a := fun e => fresh (e ▸ later)
      exact runAll_once act P Q a reach bs (act b s) nodup later (fun c hc => keepP c (List.mem_cons_of_mem b hc))
        (fun c hc => keepQ c (List.mem_cons_of_mem b hc)) (keepP b List.mem_cons_self other s h)

/-! The parts of a Vs update: the report of a class, or the SUPPLY conditions (R148). -/

/-- A part takes place. -/
def vsDue (s : State) : Option FaultClass → Bool
  | some .undervolt => decide (s.supply.vs < s.tables.hub.uv)
  | some .overvolt => decide (s.tables.hub.ov < s.supply.vs)
  | none => condsConcerned s affectsSupply
  | some _ => false

/-- What a part does. -/
def vsPart (vs : Nat) : Option FaultClass → Ev → Ev
  | some c => reportFault c 0 vs
  | none => Ev.on (evalConds affectsSupply)

/-- The parts that take place. -/
def vsParts (s : State) : List (Option FaultClass) := [some .undervolt, some .overvolt, none].filter (vsDue s)

theorem vsActions_eq (s : State) : vsActions s = (vsParts s).map (vsPart s.supply.vs) := by
  unfold vsActions vsParts
  by_cases low : s.supply.vs < s.tables.hub.uv <;> by_cases high : s.tables.hub.ov < s.supply.vs <;>
    cases concerned : condsConcerned s affectsSupply <;> simp [vsDue, vsPart, low, high, concerned]

theorem vsParts_nodup (s : State) : (vsParts s).Nodup := List.Nodup.filter _ (by decide)

theorem mem_vsParts {s : State} {part : Option FaultClass} (h : part = some .undervolt ∨ part = some .overvolt ∨ part = none) :
    part ∈ vsParts s ↔ vsDue s part = true := by
  unfold vsParts
  simp only [List.mem_filter, List.mem_cons, List.not_mem_nil, or_false, h, true_and]

theorem vsPart_class {s : State} {c : FaultClass} (h : some c ∈ vsParts s) : c = .undervolt ∨ c = .overvolt := by
  have mem : some c ∈ [some FaultClass.undervolt, some .overvolt, none] := (List.mem_filter.mp h).1
  simpa using mem

/-- The parts in some order, from the hub as they find it. -/
theorem handOnVs_runs (s : State) : ∃ n, ∃ l : List (Option FaultClass), l.Perm (vsParts s) ∧
    handOnVs (Ev.start s) = runAll (l.map (vsPart s.supply.vs)) ((Ev.start (vsHeld s)).counted n) := by
  obtain ⟨n, l, perm, runs⟩ := anyOrderEv_tags (vsPart s.supply.vs) (vsParts s) (Ev.start (vsHeld s))
  refine ⟨n, l, perm, ?_⟩
  rw [← runs, ← vsActions_eq]
  exact handOnVs_eq (Ev.start s)

/-- What all parts keep, the hand-on keeps, but that it counts open orders. -/
theorem handOnVs_keeps {P : State → Prop} (s : State) (counts : ∀ (t : State) n, P t → P { t with choices := n })
    (keeps : ∀ part ∈ vsParts s, ∀ t : Ev, P t.st → P (vsPart s.supply.vs part t).st) (h : P (vsHeld s)) : P (handOnVs (Ev.start s)).st := by
  obtain ⟨n, l, perm, runs⟩ := handOnVs_runs s
  rw [runs]
  refine runAll_keeps (fun t : Ev => P t.st) _ _ (fun f hf t ht => ?_) (counts _ n h)
  obtain ⟨part, mem, rfl⟩ := List.mem_map.mp hf
  exact keeps part (perm.mem_iff.mp mem) t ht

/-- What one part makes of what the others keep, the hand-on makes. -/
theorem handOnVs_once {P Q : State → Prop} (s : State) (part : Option FaultClass) (counts : ∀ (t : State) n, P t → P { t with choices := n })
    (mem : part ∈ vsParts s) (reach : ∀ t : Ev, P t.st → Q (vsPart s.supply.vs part t).st)
    (keepP : ∀ other ∈ vsParts s, other ≠ part → ∀ t : Ev, P t.st → P (vsPart s.supply.vs other t).st)
    (keepQ : ∀ other ∈ vsParts s, other ≠ part → ∀ t : Ev, Q t.st → Q (vsPart s.supply.vs other t).st)
    (h : P (vsHeld s)) : Q (handOnVs (Ev.start s)).st := by
  obtain ⟨n, l, perm, runs⟩ := handOnVs_runs s
  rw [runs]
  exact runAll_once (vsPart s.supply.vs) (fun t : Ev => P t.st) (fun t : Ev => Q t.st) part reach l _
    (perm.nodup_iff.mpr (vsParts_nodup s)) (perm.mem_iff.mpr mem) (fun b hb => keepP b (perm.mem_iff.mp hb))
    (fun b hb => keepQ b (perm.mem_iff.mp hb)) (counts _ n h)

/-! The hub as the parts find it. -/

/-- But for flags, they find the monitor's own part and the duties (R139, R148). -/
theorem vsHeld_lessFlags (s : State) :
    vsHeld s = { reformDuties { s with supply := monitorAtVs s.tables.hub s.supply } with faults := (vsHeld s).faults } := by
  have clear : ∀ (b : Bool) (c : FaultClass) (t : State),
      (if b then clearUnlatched c 0 t else t) = { t with faults := (if b then clearUnlatched c 0 t else t).faults } := fun b c t => by
    cases b
    · rfl
    · simp only [if_true]
      unfold clearUnlatched
      split <;> rfl
  let s1 : State := { s with supply := monitorAtVs s.tables.hub s.supply }
  let s2 := if s1.supply.uvGone then clearUnlatched .undervolt 0 s1 else s1
  let s3 := if s1.supply.ovGone then clearUnlatched .overvolt 0 s2 else s2
  have cleared : s3 = { s1 with faults := s3.faults } :=
    (clear _ _ s2).trans (congrArg (fun t : State => { t with faults := s3.faults }) (clear _ _ s1))
  exact congrArg reformDuties cleared

theorem vsHeld_tables (s : State) : (vsHeld s).tables = s.tables := (congrArg State.tables (vsHeld_lessFlags s) :)

theorem vsHeld_conds (s : State) : (vsHeld s).conds = s.conds := (congrArg State.conds (vsHeld_lessFlags s) :)

theorem vsHeld_outs (s : State) : (vsHeld s).outs = s.outs := (congrArg State.outs (vsHeld_lessFlags s) :)

theorem vsHeld_flash (s : State) : (vsHeld s).flash = s.flash := (congrArg State.flash (vsHeld_lessFlags s) :)

theorem vsHeld_supply (s : State) : (vsHeld s).supply = monitorAtVs s.tables.hub s.supply := (congrArg State.supply (vsHeld_lessFlags s) :)

/-- The capture slots, LOST and the uptime stand (R150, R151). -/
theorem vsHeld_captures (s : State) :
    (vsHeld s).faults.capture = s.faults.capture ∧ (vsHeld s).faults.lost = s.faults.lost ∧ (vsHeld s).faults.uptime = s.faults.uptime :=
  vsHeld_keeps s (fun f => f.capture = s.faults.capture ∧ f.lost = s.faults.lost ∧ f.uptime = s.faults.uptime) ⟨rfl, rfl, rfl⟩
    fun _ _ _ h => h

/-- A flag that is cleared where its cause is gone (R162). -/
theorem clearIf_isSet_iff (b : Bool) (c d : FaultClass) (t : State) : (if b = true then clearUnlatched d 0 t else t).faults.isSet c 0 =
    (t.faults.isSet c 0 && !(b && decide (c = d) && !t.tables.hub.latches d)) := by
  cases b
  · simp
  · rw [if_pos rfl, isSet_clearUnlatched]
    simp

/-- The cause of a class is not gone (R150, R151). -/
def vsCause (s : State) : FaultClass → Bool
  | .undervolt => decide (s.supply.vs < s.tables.hub.uv + 300)
  | .overvolt => decide (s.tables.hub.ov < s.supply.vs + 300)
  | _ => true

/-- A flag that the parts find, of either class (R150, R151, R162). -/
theorem vsHeld_flag (s : State) {c : FaultClass} (volt : c = .undervolt ∨ c = .overvolt) :
    (vsHeld s).faults.isSet c 0 = (s.faults.isSet c 0 && (s.tables.hub.latches c || vsCause s c)) := by
  let x := monitorAtVs s.tables.hub s.supply
  let s1 : State := { s with supply := x }
  let s2 := if x.uvGone = true then clearUnlatched .undervolt 0 s1 else s1
  have tables : s2.tables = s.tables := by
    unfold s2
    split
    · exact clearUnlatched_tables _ _ _
    · rfl
  have low : s2.faults.isSet c 0 = _ := clearIf_isSet_iff x.uvGone c .undervolt s1
  have high : (vsHeld s).faults.isSet c 0 = _ := clearIf_isSet_iff x.ovGone c .overvolt s2
  rw [high, low, tables]
  have below : x.uvGone = !decide (s.supply.vs < s.tables.hub.uv + 300) := by
    rw [← decide_not]
    exact decide_eq_decide.mpr Nat.not_lt.symm
  have above : x.ovGone = !decide (s.tables.hub.ov < s.supply.vs + 300) := by
    rw [← decide_not]
    exact decide_eq_decide.mpr Nat.not_lt.symm
  rcases volt with rfl | rfl
  · rw [below]
    simp [s1, vsCause, Bool.or_comm]
  · rw [above]
    simp [s1, vsCause, Bool.or_comm]

/-! Flags, conditions and capture attempts after the parts. -/

/-- A part leaves the tables, and of the two flags all but the one it reports. -/
theorem vsPart_keeps {s : State} {part : Option FaultClass} (mem : part ∈ vsParts s) (vs : Nat) (t : Ev) :
    (vsPart vs part t).st.tables = t.st.tables ∧
      ∀ c, c = .undervolt ∨ c = .overvolt → part ≠ some c → (vsPart vs part t).st.faults.isSet c 0 = t.st.faults.isSet c 0 := by
  cases part with
  | none =>
    have links := evalConds_lessLinks affectsSupply t.st
    refine ⟨(congrArg State.tables links :), fun c volt _ => isSet_of_lessLinks links c 0 ?_⟩
    rcases volt with rfl | rfl <;> decide
  | some d =>
    have apart : d ≠ .pod := by rcases vsPart_class mem with rfl | rfl <;> decide
    refine ⟨reportFault_keeps_tables _ _ _ _ apart, fun c volt other => ?_⟩
    refine reportFault_other_isSet c d 0 0 vs t apart (fun e => other (congrArg some e.symm)) ?_
    rcases volt with rfl | rfl <;> decide

/-- The flag of either class after the hand-on (R150, R151). -/
theorem handOnVs_flag (s : State) {c : FaultClass} (volt : c = .undervolt ∨ c = .overvolt) :
    (handOnVs (Ev.start s)).st.faults.isSet c 0 =
      ((s.faults.isSet c 0 && (s.tables.hub.latches c || vsCause s c)) || (vsDue s (some c) && s.tables.hub.detects c)) := by
  rw [← vsHeld_flag s volt]
  let P : State → Prop := fun t => t.tables = s.tables ∧ t.faults.isSet c 0 = (vsHeld s).faults.isSet c 0
  have keepP : ∀ part ∈ vsParts s, part ≠ some c → ∀ t : Ev, P t.st → P (vsPart s.supply.vs part t).st := fun part mem other t h =>
    have ⟨tables, flags⟩ := vsPart_keeps mem s.supply.vs t
    ⟨tables.trans h.1, (flags c volt other).trans h.2⟩
  have named : some c ∈ vsParts s ↔ vsDue s (some c) = true := mem_vsParts (by simpa [or_assoc] using volt)
  cases due : vsDue s (some c)
  · have kept := handOnVs_keeps (P := P) s (fun _ _ h => h) (fun part mem => keepP part mem fun e => by
      rw [e, named, due] at mem
      exact absurd mem (by decide)) ⟨vsHeld_tables s, rfl⟩
    simpa using kept.2
  · refine handOnVs_once (P := P) (Q := fun t => t.faults.isSet c 0 = ((vsHeld s).faults.isSet c 0 || (true && s.tables.hub.detects c))) s
      (some c) (fun _ _ h => h) (named.mpr due) (fun t h => ?_) keepP
      (fun part mem other t h => ((vsPart_keeps mem s.supply.vs t).2 c volt other).trans h) ⟨vsHeld_tables s, rfl⟩
    obtain ⟨tables, flag⟩ := h
    rw [Bool.true_and, ← flag, ← tables]
    exact reportFault_sets c 0 s.supply.vs t (by decide) (by rcases volt with rfl | rfl <;> decide)

theorem condsConcerned_of_tables {s t : State} (h : t.tables = s.tables) (reads : OperandKind → Nat → Bool) :
    condsConcerned t reads = condsConcerned s reads := by
  unfold condsConcerned
  rw [h]

/-- Every condition on the supply is evaluated once (R68). -/
theorem handOnVs_conditions (s : State) : conditionsTake s (handOnVs (Ev.start s)).st affectsSupply := by
  have reported : ∀ c, some c ∈ vsParts s → ∀ t : Ev, conditionsTake s t.st affectsSupply →
      conditionsTake s (vsPart s.supply.vs (some c) t).st affectsSupply := fun c mem t h => by
    have other : c ≠ .pod := by rcases vsPart_class mem with rfl | rfl <;> decide
    exact conditionsTake_kept h (reportFault_sameOperands c 0 _ t other) (congrArg State.conds (reportFault_lessLoads c 0 _ t other) :)
  cases concerned : condsConcerned s affectsSupply
  · have held : conditionsTake s (evalConds affectsSupply (vsHeld s)) affectsSupply := evalConds_taken (vsHeld_tables s) (vsHeld_conds s)
    rw [evalConds_unconcerned _ _ ((condsConcerned_of_tables (vsHeld_tables s) _).trans concerned)] at held
    refine handOnVs_keeps (P := fun t => conditionsTake s t affectsSupply) s (fun _ _ h => h) (fun part mem t h => ?_) held
    cases part with
    | none => exact absurd (((mem_vsParts (by simp)).mp mem).symm.trans concerned) (by decide)
    | some c => exact reported c mem t h
  · refine handOnVs_once (P := fun t => t.tables = s.tables ∧ t.conds = s.conds) (Q := fun t => conditionsTake s t affectsSupply) s
      none (fun _ _ h => h) ((mem_vsParts (by simp)).mpr concerned) (fun t h => evalConds_taken h.1 h.2) (fun part mem other t h => ?_)
      (fun part mem other t h => ?_) ⟨vsHeld_tables s, vsHeld_conds s⟩
    · cases part with
      | none => exact absurd rfl other
      | some c =>
        have loads := reportFault_lessLoads c 0 s.supply.vs t (by rcases vsPart_class mem with rfl | rfl <;> decide)
        exact ⟨(congrArg State.tables loads :).trans h.1, (congrArg State.conds loads :).trans h.2⟩
    · cases part with
      | none => exact absurd rfl other
      | some c => exact reported c mem t h

/-- What a capture attempt reads stands at a round of the condition unit. -/
theorem evalConds_captures (reads : OperandKind → Nat → Bool) (s : State) {c : FaultClass} (other : c ≠ .overload ∧ c ≠ .stall) (i value : Nat) :
    captured (evalConds reads s) c i value = captured s c i value ∧
      ((evalConds reads s).faults.capture, (evalConds reads s).faults.lost) = (s.faults.capture, s.faults.lost) := by
  have links := evalConds_lessLinks reads s
  obtain ⟨capture, lost⟩ := capture_of_lessLinks links
  refine ⟨captured_congr c i value (isSet_of_lessLinks links c i other) (congrArg State.tables links :) capture lost
    (congrArg (fun t : State => t.supply.vs) links :) (congrArg (fun t : State => t.faults.uptime) links :), ?_⟩
  rw [capture, lost]

/-- The capture attempt of a report that comes alone (R165). -/
theorem handOnVs_captured (s : State) {c : FaultClass} (volt : c = .undervolt ∨ c = .overvolt) (due : vsDue s (some c) = true)
    (alone : ∀ d, some d ∈ vsParts s → d = c) :
    ((handOnVs (Ev.start s)).st.faults.capture, (handOnVs (Ev.start s)).st.faults.lost) = captured (vsHeld s) c 0 s.supply.vs := by
  have other : c ≠ .pod ∧ c ≠ .overload ∧ c ≠ .stall := by rcases volt with rfl | rfl <;> decide
  refine handOnVs_once (P := fun t => captured t c 0 s.supply.vs = captured (vsHeld s) c 0 s.supply.vs)
    (Q := fun t => (t.faults.capture, t.faults.lost) = captured (vsHeld s) c 0 s.supply.vs) s (some c) (fun _ _ h => h)
    ((mem_vsParts (by simpa [or_assoc] using volt)).mpr due)
    (fun t h => (reportFault_captured c 0 s.supply.vs t other.1).trans h) (fun part mem apart t h => ?_) (fun part mem apart t h => ?_) rfl
  · cases part with
    | none => exact (evalConds_captures affectsSupply t.st other.2 0 _).1.trans h
    | some d => exact absurd (congrArg some (alone d mem)) apart
  · cases part with
    | none => exact (evalConds_captures affectsSupply t.st other.2 0 0).2.trans h
    | some d => exact absurd (congrArg some (alone d mem)) apart

/-- With no report, the SUPPLY conditions are all. -/
theorem handOnVs_unreported (s : State) (low : ¬ s.supply.vs < s.tables.hub.uv) (high : ¬ s.tables.hub.ov < s.supply.vs) :
    (handOnVs (Ev.start s)).st = evalConds affectsSupply (vsHeld s) := by
  have acts : vsActions s = if condsConcerned s affectsSupply then [Ev.on (evalConds affectsSupply)] else [] := by
    unfold vsActions
    rw [if_neg low, if_neg high]
    rfl
  have made : handOnVs (Ev.start s) = anyOrderEv (vsActions s) (Ev.start (vsHeld s)) := handOnVs_eq (Ev.start s)
  rw [made, acts]
  cases concerned : condsConcerned s affectsSupply
  · exact (evalConds_unconcerned _ _ ((condsConcerned_of_tables (vsHeld_tables s) _).trans concerned)).symm
  · rfl

/-! The command. -/

/-- The hub with the sample filtered into Vs (R148, R149). -/
def vsFiltered (mv : Nat) (s : State) : State :=
  { s with supply := { s.supply with vs := damp 3 s.supply.vs (min 20000 mv) } }

theorem exec_vsUpdate {s : State} (running : s.inReset = false) (mv : Nat) :
    exec (.vsUpdate mv) s = .next (finish s (handOnVs (Ev.start (vsFiltered mv s)))) := event_running _ s running

/-- The attempt is the one that the hub would make with the supply as the command leaves it. -/
theorem vsUpdate_captured {s w t : State} {c : FaultClass} (supplies : w = { s with supply := w.supply }) (volt : c = .undervolt ∨ c = .overvolt)
    (cause : vsCause w c = true) (supply : t.supply = monitorAtVs w.tables.hub w.supply) :
    captured (vsHeld w) c 0 w.supply.vs = captured { s with supply := t.supply } c 0 t.supply.vs := by
  obtain ⟨capture, lost, uptime⟩ := vsHeld_captures w
  have faults : w.faults = s.faults := (congrArg State.faults supplies :)
  have vs : w.supply.vs = t.supply.vs := by rw [supply]; rfl
  rw [← vs]
  refine captured_congr c 0 w.supply.vs ?_ ((vsHeld_tables w).trans (congrArg State.tables supplies :)) (capture.trans (by rw [faults]))
    (lost.trans (by rw [faults])) ?_ (uptime.trans (by rw [faults]))
  · rw [vsHeld_flag w volt, cause, Bool.or_true, Bool.and_true, faults]
  · rw [vsHeld_supply]
    exact vs

/-- Settles O49: the filter, then the hand-on. -/
theorem vsUpdatesAreHandedOn : Obligations.VsUpdatesAreHandedOn := by
  unfold Obligations.VsUpdatesAreHandedOn
  intro s mv running h d top
  refine ⟨_, exec_vsUpdate running mv, ?_⟩
  let w := vsFiltered mv s
  let x := handOnVs (Ev.start w)
  have ended := finish_lessReports s x
  have view := handOnVs_view (Ev.start w)
  obtain ⟨_, _, supply, gauges, _⟩ := fields_of_vsView (t := finish s x) (x := w)
    ((congrArg (fun t : State => t.lessLoads.lessConds) ended :).trans (congrArg State.lessReports view :))
  have bystanders : (finish s x).bystanders = { s with supply := (finish s x).supply }.bystanders := by
    rw [supply]
    refine (congrArg (fun t : State => t.lessLoads.lessConds.lessGauges) ended :).trans ?_
    exact (congrArg (fun t : State => t.lessReports.lessGauges) view :)
  have faults := finish_faults_eq s x
  have vs : (finish s x).supply.vs = w.supply.vs := by rw [supply]; rfl
  have moved : (w.supply.vs : Int) = s.supply.vs + dampStep 3 d := damp_eq 3 s.supply.vs (min 20000 mv)
  have timer : ∀ (p : Prop) [Decidable p] (n : Nat) (o : Option Nat), holdTimer (decide p) n o = if p then some (o.getD n) else none :=
    fun p _ n o => by unfold holdTimer; simp
  have lowCause : w.supply.vs < h.uv → vsCause w .undervolt = true := fun low => decide_eq_true (Nat.lt_add_right 300 low)
  have highCause : h.ov < w.supply.vs → vsCause w .overvolt = true := fun high => decide_eq_true (Nat.lt_add_right 300 high)
  rw [vs]
  refine ⟨fun near => ?_, fun far => ?_, by rw [supply]; rfl, by rw [supply]; rfl, ?_, ?_, ?_, ?_, by rw [supply]; rfl, by rw [supply]; rfl,
    gauges, ?_, fun low high => ?_, fun low high => ?_, fun low high => ?_, bystanders⟩
  · rw [moved, dampStep_near (by omega)]
  · rw [moved, dampStep_far (by omega)]
    rfl
  · rw [supply]
    exact timer _ _ _
  · rw [supply]
    exact timer _ _ _
  · rw [faults, handOnVs_flag w (.inl rfl)]
    by_cases low : w.supply.vs < h.uv
    · rw [show vsDue w (some .undervolt) = true from decide_eq_true low, lowCause low, if_pos low, Bool.or_true, Bool.and_true, Bool.true_and]
      rfl
    · rw [show vsDue w (some .undervolt) = false from decide_eq_false low, if_neg low, Bool.false_and, Bool.or_false]
      rfl
  · rw [faults, handOnVs_flag w (.inr rfl)]
    by_cases high : h.ov < w.supply.vs
    · rw [show vsDue w (some .overvolt) = true from decide_eq_true high, highCause high, if_pos high, Bool.or_true, Bool.and_true,
        Bool.true_and]
      rfl
    · rw [show vsDue w (some .overvolt) = false from decide_eq_false high, if_neg high, Bool.false_and, Bool.or_false]
      rfl
  · have conds : conditionsTake s x.st.lessReports affectsSupply := handOnVs_conditions w
    rwa [← ended] at conds
  · have made : x.st = evalConds affectsSupply (vsHeld w) := handOnVs_unreported w (Nat.not_lt.mpr low) (Nat.not_lt.mpr high)
    have edges : edgesMove s x.st := by
      rw [made]
      exact evalConds_edges (vsHeld_tables w) (vsHeld_conds w) (fun o => by unfold demandView; rw [vsHeld_outs]; rfl) (vsHeld_flash w)
    have edges' : edgesMove s x.st.lessReports := edges
    rw [← ended] at edges'
    refine ⟨edges', ?_⟩
    rw [faults, made]
    exact (capture_of_lessLinks (evalConds_lessLinks affectsSupply (vsHeld w))).1.trans (vsHeld_captures w).1
  · have alone : ∀ c, some c ∈ vsParts w → c = .undervolt := fun c mem => (vsPart_class mem).resolve_right fun e => by
      rw [e, mem_vsParts (by simp)] at mem
      exact absurd (of_decide_eq_true mem) (Nat.not_lt.mpr high)
    rw [faults, ← vs]
    exact (handOnVs_captured w (.inl rfl) (decide_eq_true low) alone).trans (vsUpdate_captured rfl (.inl rfl) (lowCause low) supply)
  · have alone : ∀ c, some c ∈ vsParts w → c = .overvolt := fun c mem => (vsPart_class mem).resolve_left fun e => by
      rw [e, mem_vsParts (by simp)] at mem
      exact absurd (of_decide_eq_true mem) (Nat.not_lt.mpr low)
    rw [faults, ← vs]
    exact (handOnVs_captured w (.inr rfl) (decide_eq_true high) alone).trans (vsUpdate_captured rfl (.inr rfl) (highCause high) supply)

end Sys2Proof.Machine
end

section
/-! PROOFS. DEBOUNCE_HOLD_EXPIRY: the switch image, the edge, and IGN handed on, the last two in either order (R59 to R62, R114, R139,
R144, R156). -/

namespace Sys2Proof.Machine

/-! Acts of one event that may be left out. -/

/-- Two acts, each of which may be left out, come in one order or the other. -/
theorem anyOrder_options (p q : Prop) [Decidable p] [Decidable q] (f g : State → State) (s : State) : ∃ n,
    anyOrder ((if p then [f] else []) ++ (if q then [g] else [])) s =
        (if q then g else id) ((if p then f else id) { s with choices := n }) ∨
      anyOrder ((if p then [f] else []) ++ (if q then [g] else [])) s =
        (if p then f else id) ((if q then g else id) { s with choices := n }) := by
  by_cases hp : p <;> by_cases hq : q <;> simp only [hp, hq, if_true, if_false]
  · exact anyOrder_pair f g s
  · exact ⟨s.choices, .inl rfl⟩
  · exact ⟨s.choices, .inl rfl⟩
  · exact ⟨s.choices, .inl rfl⟩

/-- How verbs move the demands is read from the tables and the demands. -/
theorem movedBy_of_demands {verbs : Fin 15 → Option Resolved} {s t u v : State} (h : movedBy verbs s t) (tables : u.tables = s.tables)
    (outs : ∀ o, demandView o u = demandView o s) (sources : ∀ i, (u.flash.source i).demand = (s.flash.source i).demand)
    (outs' : ∀ o, demandView o v = demandView o t) (sources' : ∀ i, (v.flash.source i).demand = (t.flash.source i).demand) :
    movedBy verbs u v :=
  ⟨fun o => by rw [outs', outs, tables]; exact h.outputs o, fun i => by rw [sources', sources]; exact h.sources i⟩

/-! Sources that are settled (R114, R119, R120). -/

/-- It is read from the flasher and IGN. -/
theorem sourcesSettled_congr {s t : State} (flash : t.flash = s.flash) (supply : t.supply = s.supply) (h : sourcesSettled s) :
    sourcesSettled t := by
  unfold sourcesSettled at h ⊢
  rwa [flash, supply]

/-- The verbs on flash sources end in a settle, whatever the drives before them. -/
theorem applyFlashVerbs_settled (before : Vector Bool 12) (verbs : Fin 15 → Option Resolved) (s : State) :
    sourcesSettled (applyFlashVerbs before verbs s) := by
  have settled : sourcesSettled (applyFlashVerbs (drives s) verbs s) := verbSources_settled verbs s
  have supply : ∀ drives, (applyFlashVerbs drives verbs s).supply = s.supply := fun drives =>
    (congrArg State.supply (applyFlashVerbs_lessLoads drives verbs s) :)
  exact sourcesSettled_congr ((handContexts_flash before _ s).trans (handContexts_flash (drives s) _ s).symm)
    ((supply before).trans (supply (drives s)).symm) settled

/-- Acts that keep the sources settled, and the drives after them, keep them so. -/
theorem redriven_settled (acts : List (State → State)) {s : State} (keeps : ∀ f ∈ acts, ∀ t, sourcesSettled t → sourcesSettled (f t))
    (h : sourcesSettled s) : sourcesSettled (if acts.isEmpty then s else redriveAll (anyOrder acts s)) := by
  split
  · exact h
  · exact anyOrder_preserves sourcesSettled acts s (fun _ _ ht => ht) keeps h

theorem handVerbs_settled (verbs : Fin 15 → Option Resolved) {s : State} (h : sourcesSettled s) : sourcesSettled (handVerbs verbs s) := by
  refine redriven_settled _ (fun f hf t ht => ?_) h
  rcases List.mem_append.mp hf with hf | hf <;> split at hf <;> simp only [List.mem_singleton, List.not_mem_nil] at hf <;> subst hf
  · exact sourcesSettled_congr (verbOutputs_flash verbs t) (congrArg State.supply (applyOutputVerbs_lessLoads verbs t) :) ht
  · exact applyFlashVerbs_settled _ verbs t

theorem switchEvent_settled (pod : Fin 9) (rise fall : BitVec 12) {s : State} (h : sourcesSettled s) :
    sourcesSettled (switchEvent pod rise fall s) := by
  unfold switchEvent
  split
  · exact h
  · exact handVerbs_settled _ h

/-! A change of IGN (R156). -/

/-- The hub with IGN at a level. -/
def withIgn (level : Bool) (s : State) : State := { s with supply := { s.supply with ign := level } }

/-- The same with the flasher settled, and its contexts handed over (R120, R121). -/
def ignSettled (level : Bool) (s : State) : State := settleNow (drives s) (withIgn level s)

theorem ignChanged_eq (level : Bool) (s : State) : ignChanged level s = gaugesAtIgn (levelled (ignSettled level s)) := rfl

/-- The settle is that of flash verbs, with no verb. -/
theorem settleNow_eq (before : Vector Bool 12) (s : State) : settleNow before s = applyFlashVerbs before (fun _ => none) s := rfl

theorem ignSettled_flash (level : Bool) (s : State) : (ignSettled level s).flash = settleFlash s.tables s.faults level s.flash :=
  handContexts_flash _ _ _

theorem ignSettled_lessLinks (level : Bool) (s : State) : (ignSettled level s).lessLinks = withIgn level s.lessLinks :=
  handContexts_lessLinks _ _ _

theorem ignSettled_tables (level : Bool) (s : State) : (ignSettled level s).tables = s.tables :=
  (congrArg State.tables (ignSettled_lessLinks level s) :)

theorem ignSettled_supply (level : Bool) (s : State) : (ignSettled level s).supply = { s.supply with ign := level } :=
  (congrArg State.supply (ignSettled_lessLinks level s) :)

/-- An output after the settle: its gap, and its demand-off where its context has ended (R121, R123, R124). -/
theorem ignSettled_out (level : Bool) (s : State) (o : Fin 12) : (ignSettled level s).outs[o] =
    releasedIf (contextReleases s.tables.loads[o] s.flash (ignSettled level s).flash s.outs[o])
      { s.outs[o] with gap := gapAfter s.tables s.tables.loads[o] s.outs[o].drive s.flash (ignSettled level s).flash s.outs[o] } := by
  have view := handContexts_view (drives s) (settleFlash s.tables s.faults level s.flash) (withIgn level s) o
  rw [show (drives s)[o] = s.outs[o].drive from getElem_tabulate_fin _ o] at view
  rw [ignSettled_flash]
  exact congrArg (fun x => x.1) view

theorem releasedIf_demands (off : Bool) (x : OutLive) : ((releasedIf off x).demand, (releasedIf off x).fanLevel, (releasedIf off x).fanMemory) =
    (x.demand, x.fanLevel, x.fanMemory) := by
  cases off <;> rfl

/-- The gauge drivers at a change of IGN read IGN, Vs and their own entries (R139, R144). -/
theorem gaugesAtIgn_lessLinks (s : State) : (gaugesAtIgn s).lessLinks = gaugesAtIgn s.lessLinks := by
  have ign : s.lessLinks.supply = s.supply := rfl
  unfold gaugesAtIgn
  rw [ign]
  split <;> rfl

theorem gaugesAtIgn_lessGauges (s : State) : gaugesAtIgn s = { s with gauges := (gaugesAtIgn s).gauges } := by
  unfold gaugesAtIgn
  split <;> rfl

theorem gaugesAtIgn_outs (s : State) : (gaugesAtIgn s).outs = s.outs := (congrArg State.outs (gaugesAtIgn_lessGauges s) :)

theorem gaugesAtIgn_flash (s : State) : (gaugesAtIgn s).flash = s.flash := (congrArg State.flash (gaugesAtIgn_lessGauges s) :)

theorem gaugesAtIgn_supply (s : State) : (gaugesAtIgn s).supply = s.supply := (congrArg State.supply (gaugesAtIgn_lessGauges s) :)

theorem levelled_flash (s : State) : (levelled s).flash = s.flash := rfl

theorem levelled_supply (s : State) : (levelled s).supply = s.supply := rfl

theorem gaugesAtIgn_gauge (s : State) (g : Fin 4) : (gaugesAtIgn s).gauges[g] =
    if s.supply.ign then formDuty s.tables.gauges[g] true s.supply.vs s.gauges[g]
    else { s.gauges[g] with d := 0, acc := 0, underdrive := false } := by
  unfold gaugesAtIgn
  split
  · rename_i on
    exact (getElem_tabulate_fin _ g).trans (by rw [on])
  · exact getElem_tabulate_fin _ g

/-- Links apart, IGN and the channels are all that changes. -/
theorem ignChanged_lessLinks (level : Bool) (s : State) : (ignChanged level s).lessLinks = gaugesAtIgn (withIgn level s.lessLinks) := by
  rw [ignChanged_eq, gaugesAtIgn_lessLinks, levelled_lessLinks, ignSettled_lessLinks]

theorem ignChanged_outs (level : Bool) (s : State) : (ignChanged level s).outs = (levelled (ignSettled level s)).outs :=
  gaugesAtIgn_outs _

theorem ignChanged_flash (level : Bool) (s : State) : (ignChanged level s).flash = (ignSettled level s).flash :=
  (gaugesAtIgn_flash _).trans (levelled_flash _)

/-- No demand moves (R156). -/
theorem ignChanged_demands (level : Bool) (s : State) : (∀ o, demandView o (ignChanged level s) = demandView o s) ∧
    ∀ i, ((ignChanged level s).flash.source i).demand = (s.flash.source i).demand := by
  refine ⟨fun o => ?_, fun i => ?_⟩
  · have outs : demandView o (ignChanged level s) = demandView o (levelled (ignSettled level s)) := by
      unfold demandView
      rw [ignChanged_outs]
    rw [outs, (levelled_kept (ignSettled level s) o).1]
    unfold demandView
    rw [ignSettled_out]
    exact releasedIf_demands _ _
  · obtain ⟨hazard, left, right⟩ := settleFlash_demands s.tables s.faults level s.flash
    rw [ignChanged_flash, ignSettled_flash]
    cases i
    · exact left
    · exact right
    · exact hazard

theorem ignChanged_settled (level : Bool) (s : State) : sourcesSettled (ignChanged level s) := by
  have settled : sourcesSettled (ignSettled level s) := applyFlashVerbs_settled (drives s) (fun _ => none) (withIgn level s)
  exact sourcesSettled_congr (ignChanged_flash level s)
    ((gaugesAtIgn_supply _).trans (levelled_supply _)) settled

/-- A lamp or stop lamp is driven as its request says (R92, R94, R96). -/
theorem ignChanged_lamp (level : Bool) {s : State} {o : Fin 12} (h : s.tables.loads[o].kind = .lamp ∨ s.tables.loads[o].kind = .stop) :
    (ignChanged level s).outs[o].drive = (s.outs[o].demand && decide (s.outs[o].protection = .normal) &&
      (decide (s.tables.loads[o].domain = .always) || level) &&
      !(decide (1 ≤ s.tables.loads[o].shedClass) && decide (4 - s.tables.loads[o].shedClass ≤ s.supply.shed))) := by
  have unflashed : s.tables.loads[o].kind ≠ .indicator ∧ s.tables.loads[o].kind ≠ .stopturn := by
    rcases h with h | h <;> rw [h] <;> decide
  have own : (ignSettled level s).outs[o] = s.outs[o] := by
    obtain ⟨stays, gap⟩ := handedOver_unflashed s.tables s.tables.loads[o] s.outs[o].drive s.flash (ignSettled level s).flash s.outs[o] unflashed
    rw [ignSettled_out, stays, gap]
    rfl
  rw [ignChanged_outs, levelled_lamp (s := ignSettled level s) (by rwa [ignSettled_tables]), own, ignSettled_tables, ignSettled_supply]

/-- The effective level of a fan is formed with the new level of IGN (R95). -/
theorem ignChanged_fan (level : Bool) {s : State} {o : Fin 12} (h : s.tables.loads[o].kind = .fan) :
    (ignChanged level s).outs[o].effective = effectiveOf s.tables s.tables.loads[o] level s.supply.shed s.outs[o].fanLevel := by
  have fanLevel : (ignSettled level s).outs[o].fanLevel = s.outs[o].fanLevel := by
    rw [ignSettled_out]
    exact congrArg (fun x => x.2.1) (releasedIf_demands _ _)
  rw [ignChanged_outs, levelled_fan (s := ignSettled level s) (by rwa [ignSettled_tables]), fanLevel, ignSettled_tables,
    ignSettled_supply]

/-- A flashed output follows the sources as they settle (R121 to R125). -/
theorem ignChanged_flashed (level : Bool) {s : State} {o : Fin 12}
    (h : s.tables.loads[o].kind = .indicator ∨ s.tables.loads[o].kind = .stopturn) :
    (ignChanged level s).outs[o] = flashedOutput s.tables s.flash (ignChanged level s).flash level s.tables.loads[o] s.outs[o] := by
  rw [ignChanged_outs, ignChanged_flash, levelled_flashed (s := ignSettled level s) (by rwa [ignSettled_tables]),
    flashedOutput_eq _ _ _ _ _ _ h, ignSettled_out, ignSettled_tables, ignSettled_supply]

/-! The input settled (R59 to R62). -/

/-- The hub with the input settled, and its bit of pod 8 (R59, R60). -/
def inputTaken (i : Fin 9) (s : State) : State :=
  let inputs := modifyAt s.inputs i Debouncer.settle
  { s with inputs := inputs, pods := modifyAt s.pods 8 (localPodAfter inputs i s.inputs[i].pin) }

/-- The RISE edge of an input (R62). -/
def inputRise (i : Fin 9) (d : Debouncer) : BitVec 12 := if d.pin = true ∧ ¬ d.settled = some true then 1#12 <<< i.val else 0

/-- The FALL edge of an input (R62). -/
def inputFall (i : Fin 9) (d : Debouncer) : BitVec 12 := if d.pin = false ∧ d.settled = some true then 1#12 <<< i.val else 0

/-- The edge of an input that settles. -/
def inputEdge (i : Fin 9) (d : Debouncer) : MatrixEvent := .switch 8 (inputRise i d) (inputFall i d)

/-- It is IGN, and its level is a new one (R156). -/
abbrev ignMoves (i : Fin 9) (s : State) : Prop := i = 8 ∧ s.inputs[i].pin ≠ s.supply.ign

theorem inputSettled_eq (i : Fin 9) (s : State) : inputSettled i s =
    anyOrder ((if ignMoves i s then [ignChanged s.inputs[i].pin] else []) ++ (if wakesMatrix s (inputEdge i s.inputs[i]) = true then
      [switchEvent 8 (inputRise i s.inputs[i]) (inputFall i s.inputs[i])] else [])) (inputTaken i s) := by
  have rise : (if (s.inputs[i].pin && !s.inputs[i].settled.getD false) = true then 1#12 <<< i.val else 0) = inputRise i s.inputs[i] := by
    unfold inputRise
    cases s.inputs[i].settled <;> simp
  have fall : (if (!s.inputs[i].pin && s.inputs[i].settled.getD false) = true then 1#12 <<< i.val else 0) = inputFall i s.inputs[i] := by
    unfold inputFall
    cases s.inputs[i].settled <;> simp
  unfold inputSettled inputEdge
  simp only [rise, fall]
  rfl

/-- IGN handed on, where it moves. -/
def ignTaken (i : Fin 9) (s t : State) : State :=
  if ignMoves i s then gaugesAtIgn (withIgn s.inputs[i].pin t) else t

/-- IGN and the channels apart, nothing differs. -/
theorem ignTaken_rest (i : Fin 9) (s t : State) : ignTaken i s t = { t with
    supply := { t.supply with ign := if ignMoves i s then s.inputs[i].pin else t.supply.ign }
    gauges := (ignTaken i s t).gauges } := by
  unfold ignTaken
  split
  · exact gaugesAtIgn_lessGauges _
  · rfl

theorem ignTaken_gauge (i : Fin 9) (s t : State) (g : Fin 4) : (ignTaken i s t).gauges[g] =
    if i ≠ 8 ∨ s.inputs[i].pin = s.supply.ign then t.gauges[g]
    else if s.inputs[i].pin then formDuty t.tables.gauges[g] true t.supply.vs t.gauges[g]
    else { t.gauges[g] with d := 0, acc := 0, underdrive := false } := by
  unfold ignTaken
  by_cases moves : ignMoves i s
  · rw [if_pos moves, if_neg (not_or.mpr ⟨not_not.mpr moves.1, moves.2⟩)]
    exact gaugesAtIgn_gauge _ g
  · rw [if_neg moves, if_pos ((not_and_or.mp moves).imp_right not_not.mp)]

/-- IGN ends at the level of its input, whether it moves or not. -/
theorem ignMoves_level (i : Fin 9) (s : State) :
    (if ignMoves i s then s.inputs[i].pin else s.supply.ign) = if i = 8 then s.inputs[i].pin else s.supply.ign := by
  by_cases ign : i = 8
  · by_cases same : s.inputs[i].pin = s.supply.ign
    · rw [if_neg (fun moves : ignMoves i s => moves.2 same), if_pos ign, same]
    · rw [if_pos ⟨ign, same⟩, if_pos ign]
  · rw [if_neg (fun moves : ignMoves i s => ign moves.1), if_neg ign]

/-- The act of IGN, where it moves. -/
theorem ignPart_lessLinks (i : Fin 9) (s t : State) :
    ((if ignMoves i s then ignChanged s.inputs[i].pin else id) t).lessLinks = ignTaken i s t.lessLinks := by
  unfold ignTaken
  split
  · exact ignChanged_lessLinks _ t
  · rfl

theorem ignPart_demands (i : Fin 9) (s t : State) : let u := (if ignMoves i s then ignChanged s.inputs[i].pin else id) t
    (∀ o, demandView o u = demandView o t) ∧ ∀ j, (u.flash.source j).demand = (t.flash.source j).demand := by
  intro u
  unfold u
  split
  · exact ignChanged_demands _ t
  · exact ⟨fun _ => rfl, fun _ => rfl⟩

/-- The act of the edge, where a link is woken. -/
theorem edgePart_lessLinks (p : Prop) [Decidable p] (rise fall : BitVec 12) (t : State) :
    ((if p then switchEvent 8 rise fall else id) t).lessLinks = t.lessLinks := by
  split
  · exact switchEvent_lessLinks _ _ _ t
  · rfl

theorem edgePart_moved {i : Fin 9} {s t : State} (tables : t.tables = s.tables) (conds : t.conds = s.conds) (d : Debouncer) :
    movedBy (resolvedVerbs (firingSet s (inputEdge i d))) t
      ((if wakesMatrix s (inputEdge i d) = true then switchEvent 8 (inputRise i d) (inputFall i d) else id) t) := by
  rw [← firingSet_congr tables conds]
  split
  · exact switchEvent_moved _ _ _ t
  · rename_i asleep
    exact moved_by_nothing ((wakesMatrix_of_tables tables _).trans (Bool.not_eq_true _ ▸ asleep))

/-- What the input's settling has made of `s`, whichever of the edge and IGN comes first. -/
structure State.inputMade (i : Fin 9) (s t : State) : Prop where
  rest : t.lessLinks = ignTaken i s (inputTaken i s).lessLinks
  moved : movedBy (resolvedVerbs (firingSet s (inputEdge i s.inputs[i]))) s t
  settled : ignMoves i s → sourcesSettled t

theorem inputSettled_made (i : Fin 9) (s : State) : s.inputMade i (inputSettled i s) := by
  let d := s.inputs[i]
  let ignPart : State → State := if ignMoves i s then ignChanged d.pin else id
  let edgePart : State → State :=
    if wakesMatrix s (inputEdge i d) = true then switchEvent 8 (inputRise i d) (inputFall i d) else id
  have ignSettles : ∀ t, ignMoves i s → sourcesSettled (ignPart t) := fun t moves => by
    unfold ignPart
    rw [if_pos moves]
    exact ignChanged_settled _ t
  have edgeKeeps : ∀ t, sourcesSettled t → sourcesSettled (edgePart t) := fun t h => by
    unfold edgePart
    split
    · exact switchEvent_settled _ _ _ h
    · exact h
  obtain ⟨n, order⟩ := anyOrder_options (ignMoves i s) (wakesMatrix s (inputEdge i d) = true) (ignChanged d.pin)
    (switchEvent 8 (inputRise i d) (inputFall i d)) (inputTaken i s)
  rw [inputSettled_eq]
  let u : State := { inputTaken i s with choices := n }
  rcases order with order | order <;> rw [order]
  · have ign : (ignPart u).lessLinks = ignTaken i s u.lessLinks := ignPart_lessLinks i s u
    obtain ⟨demands, sources⟩ := ignPart_demands i s u
    have fields := ignTaken_rest i s u.lessLinks
    rw [← ign] at fields
    refine ⟨(edgePart_lessLinks _ _ _ _).trans ign, ?_, fun moves => edgeKeeps _ (ignSettles u moves)⟩
    exact movedBy_of_demands (edgePart_moved (s := s) (t := ignPart u) (congrArg State.tables fields :) (congrArg State.conds fields :) d)
      (congrArg State.tables fields.symm :) (fun o => (demands o).symm) (fun j => (sources j).symm) (fun _ => rfl) (fun _ => rfl)
  · have edge : (edgePart u).lessLinks = u.lessLinks := edgePart_lessLinks _ _ _ u
    obtain ⟨demands, sources⟩ := ignPart_demands i s (edgePart u)
    refine ⟨(ignPart_lessLinks i s (edgePart u)).trans (congrArg (ignTaken i s) edge), ?_, ignSettles _⟩
    exact movedBy_of_demands (edgePart_moved (s := s) (t := u) rfl rfl d) rfl (fun _ => rfl) (fun _ => rfl) demands sources

/-- Where no link is woken, IGN that moves is all that acts. -/
theorem inputSettled_asleep {i : Fin 9} {s : State} (moves : ignMoves i s) (asleep : wakesMatrix s (inputEdge i s.inputs[i]) = false) :
    inputSettled i s = ignChanged s.inputs[i].pin (inputTaken i s) := by
  rw [inputSettled_eq, if_pos moves, asleep]
  rfl

theorem withBit_getLsbD (w : BitVec 12) (i : Nat) (level : Bool) {b : Nat} (h : b < 12) :
    (withBit w i level).getLsbD b = if b = i then level else w.getLsbD b := by
  unfold withBit
  cases level
  · rw [if_neg (by decide), BitVec.getLsbD_and, BitVec.getLsbD_not, bit_getLsbD, decide_eq_true h]
    by_cases own : b = i <;> simp [own]
  · rw [if_pos rfl, BitVec.getLsbD_or, bit_getLsbD, decide_eq_true h]
    by_cases own : b = i <;> simp [own]

theorem exec_debounceHoldExpiry {s : State} (running : s.inReset = false) (i : Fin 9) : exec (.debounceHoldExpiry i) s =
    .next (afterNeed s (if s.inputs[i].hold.isSome = true then inputSettled i s else s)) := event_running _ s running

/-- The parts of the hub that the settling of an input changes, once reports have joined. -/
structure State.inputEnded (i : Fin 9) (s t : State) : Prop where
  inputs : t.inputs = (inputTaken i s).inputs
  pods : t.pods = (inputTaken i s).pods
  supply : t.supply = { s.supply with ign := if ignMoves i s then s.inputs[i].pin else s.supply.ign }
  gauges : t.gauges = (ignTaken i s (inputTaken i s).lessLinks).gauges
  conds : t.conds = s.conds
  bystanders : t.bystanders = { s with inputs := t.inputs, pods := t.pods, supply := t.supply }.bystanders

theorem inputEnded_of_rest {i : Fin 9} {s t u : State} (same : t.lessReports = u.lessReports)
    (rest : u.lessLinks = ignTaken i s (inputTaken i s).lessLinks) : s.inputEnded i t := by
  have whole := rest.trans (ignTaken_rest i s (inputTaken i s).lessLinks)
  have gauges : t.gauges = (ignTaken i s (inputTaken i s).lessLinks).gauges :=
    (congrArg State.gauges same :).trans (congrArg State.gauges rest :)
  generalize (ignTaken i s (inputTaken i s).lessLinks).gauges = v at whole
  have inputs : t.inputs = (inputTaken i s).inputs := (congrArg State.inputs same :).trans (congrArg State.inputs whole :)
  have pods : t.pods = (inputTaken i s).pods := (congrArg State.pods same :).trans (congrArg State.pods whole :)
  have supply : t.supply = { s.supply with ign := if ignMoves i s then s.inputs[i].pin else s.supply.ign } :=
    (congrArg State.supply same :).trans (congrArg State.supply whole :)
  refine ⟨inputs, pods, supply, gauges,
    (congrArg State.conds same :).trans (congrArg State.conds whole :), ?_⟩
  rw [inputs, pods, supply]
  exact (congrArg (fun x : State => x.lessLoads.lessConds.lessGauges) same :).trans
    (congrArg (fun x : State => x.lessReports.lessLoads.lessConds.lessGauges) whole :)

/-- Pod 8 after an input has settled (R59). -/
theorem inputTaken_pod (i : Fin 9) (s : State) :
    (inputTaken i s).pods[8] = localPodAfter (inputTaken i s).inputs i s.inputs[i].pin s.pods[8] := getElem_modifyAt_self s.pods 8 _

theorem inputTaken_known (i : Fin 9) (s : State) : (inputTaken i s).pods[8].known = true ↔
    s.pods[8].known = true ∨ ∀ j : Fin 9, (inputTaken i s).inputs[j].settled ≠ none := by
  rw [inputTaken_pod]
  show (s.pods[8].known || allOf (inputTaken i s).inputs fun d => d.settled.isSome) = true ↔ _
  rw [Bool.or_eq_true, allOf_iff]
  exact or_congr_right (forall_congr' fun j => Option.isSome_iff_ne_none)

/-- Settles O35: the edge and IGN, each by its own account, in either order. -/
theorem heldInputsSettle : Obligations.HeldInputsSettle := by
  unfold Obligations.HeldInputsSettle
  intro s i running
  have step := exec_debounceHoldExpiry running i
  refine ⟨fun stopped => ?_, fun runs => ?_⟩
  · have still : afterNeed s s = s := afterNeed_still rfl rfl rfl
    rw [step, stopped]
    exact congrArg _ still
  rw [if_pos (Option.isSome_iff_ne_none.mpr runs)] at step
  refine ⟨_, step, ?_⟩
  have same := afterNeed_lessReports s (inputSettled i s)
  have alone := inputSettled_asleep (i := i) (s := s)
  obtain ⟨rest, moved, settled⟩ := inputSettled_made i s
  clear step runs
  generalize inputSettled i s = u at same alone rest moved settled ⊢
  generalize afterNeed s u = t at same ⊢
  obtain ⟨inputs, pods, supply, gauges, conds, bystanders⟩ := inputEnded_of_rest same rest
  have outs : t.outs = u.outs := (congrArg State.outs same :)
  have flash : t.flash = u.flash := (congrArg State.flash same :)
  refine ⟨inputs, fun b low => ?_, ?_, fun q other => ?_, by rw [supply, ignMoves_level], fun g => ?_, ⟨?_, fun ign moves => ?_⟩,
    conds, bystanders⟩
  · rw [pods, inputTaken_pod]
    exact withBit_getLsbD _ _ _ low
  · rw [pods, inputs]
    exact inputTaken_known i s
  · rw [pods]
    exact getElem_modifyAt_ne s.pods 8 q _ other
  · rw [gauges]
    exact ignTaken_gauge i s (inputTaken i s).lessLinks g
  · exact demandsFollow_of_moved (movedBy_congr moved rfl rfl rfl outs flash)
  · obtain ⟨hazard, sides⟩ := sourcesSettled_congr flash (congrArg State.supply same :) (settled ⟨ign, moves⟩)
    have on : t.supply.ign = s.inputs[i].pin := by
      rw [supply]
      exact if_pos ⟨ign, moves⟩
    rw [on] at sides
    refine ⟨⟨hazard, sides⟩, fun asleep o => ?_⟩
    rw [outs, flash, alone ⟨ign, moves⟩ asleep]
    exact ⟨ignChanged_lamp (s := inputTaken i s) _, ignChanged_flashed (s := inputTaken i s) _, ignChanged_fan (s := inputTaken i s) _⟩

end Sys2Proof.Machine
end

section
/-! PROOFS. The links of one event (R72, R75, R76), and the verb that those of one target resolve to (R77). -/

namespace Sys2Proof.Machine

/-! Resolution (R77). -/

/-- The highest of some numbers is one of them, and none is above it. -/
theorem foldl_max_greatest {l : List Nat} (h : l ≠ []) : l.foldl max 0 ∈ l ∧ ∀ n ∈ l, n ≤ l.foldl max 0 := by
  obtain ⟨m, greatest⟩ := Option.ne_none_iff_exists'.mp (mt List.max?_eq_none_iff.mp h)
  rw [List.foldl_max, greatest, Option.getD_some, Nat.zero_max]
  exact List.max?_eq_some_iff.mp greatest

/-- Some link of a list has a verb. -/
theorem any_verb {fs : List LinkEntry} {v : Verb} : (fs.any fun l => l.verb = v) = true ↔ ∃ l ∈ fs, l.verb = v := by
  simp

theorem not_any_verb {fs : List LinkEntry} {v : Verb} (h : ∀ l ∈ fs, l.verb ≠ v) : ¬ (fs.any fun l => l.verb = v) = true :=
  fun found => by
    obtain ⟨l, mem, is⟩ := any_verb.mp found
    exact h l mem is

theorem resolve_on {fs : List LinkEntry} (h : ∃ l ∈ fs, l.verb = .on) : resolve fs = some .on :=
  if_pos (any_verb.mpr h)

theorem resolve_off {fs : List LinkEntry} (on : ∀ l ∈ fs, l.verb ≠ .on) (h : ∃ l ∈ fs, l.verb = .off) : resolve fs = some .off := by
  unfold resolve
  rw [if_neg (not_any_verb on), if_pos (any_verb.mpr h)]

/-- The levels that the LEVEL links of a list name. -/
def levelsNamed (fs : List LinkEntry) : List Nat := (fs.filter fun l => l.verb = .level).map fun l => l.level

theorem mem_levelsNamed {fs : List LinkEntry} {n : Nat} : n ∈ levelsNamed fs ↔ ∃ l ∈ fs, l.verb = .level ∧ l.level = n := by
  simp [levelsNamed, and_assoc]

theorem resolve_level {fs : List LinkEntry} (on : ∀ l ∈ fs, l.verb ≠ .on) (off : ∀ l ∈ fs, l.verb ≠ .off)
    (h : ∃ l ∈ fs, l.verb = .level) : resolve fs = some (.level ((levelsNamed fs).foldl max 0)) := by
  unfold resolve
  rw [if_neg (not_any_verb on), if_neg (not_any_verb off), if_pos (any_verb.mpr h)]
  rfl

theorem resolve_toggle {fs : List LinkEntry} (named : fs ≠ []) (h : ∀ l ∈ fs, l.verb = .toggle) : resolve fs = some .toggle := by
  have other : ∀ {v : Verb}, Verb.toggle ≠ v → ¬ (fs.any fun l => l.verb = v) = true := fun differs =>
    not_any_verb fun l mem => by rwa [h l mem]
  unfold resolve
  rw [if_neg (other (by decide)), if_neg (other (by decide)), if_neg (other (by decide)), if_neg (by simpa using named)]

/-- The order of the links plays no part. -/
theorem resolve_perm {fs gs : List LinkEntry} (h : fs.Perm gs) : resolve gs = resolve fs := by
  have levels : (levelsNamed fs).foldl max 0 = (levelsNamed gs).foldl max 0 := ((h.filter _).map _).foldl_op_eq
  unfold levelsNamed at levels
  unfold resolve
  rw [h.any_eq, h.any_eq, h.any_eq, h.isEmpty_eq, levels]

/-- Settles O37: one clause for each rank of the precedence. -/
theorem verbsResolveByPrecedence : Obligations.VerbsResolveByPrecedence := by
  unfold Obligations.VerbsResolveByPrecedence
  refine fun fs => ⟨resolve_on, resolve_off, fun others level => ?_, resolve_toggle, fun none => by rw [none]; rfl,
    fun gs => resolve_perm, fun target => rfl⟩
  have named : levelsNamed fs ≠ [] := by
    obtain ⟨l, mem, is⟩ := level
    exact List.ne_nil_of_mem (mem_levelsNamed.mpr ⟨l, mem, is, rfl⟩)
  obtain ⟨attained, above⟩ := foldl_max_greatest named
  exact ⟨_, resolve_level (fun l mem => (others l mem).1) (fun l mem => (others l mem).2) level, mem_levelsNamed.mp attained,
    fun l mem is => above _ (mem_levelsNamed.mpr ⟨l, mem, is, rfl⟩)⟩

/-! The links that fire on an event (R72, R75, R76). -/

theorem agrees_eq (e : LinkEdge) (rise fall : Bool) :
    e.agrees rise fall = (decide (e ≠ .fall) && rise || decide (e ≠ .rise) && fall) := by
  cases e <;> simp [LinkEdge.agrees]

/-- A SWITCH link names bit index mod 16 of pod index div 16, which has an edge only if it is one of twelve. -/
theorem switchIndex_matches (index : Nat) (pod : Fin 9) (rise fall : BitVec 12) (edge : LinkEdge) :
    ((List.range 12).any fun bit => decide (index = pod.val * 16 + bit) &&
      (decide (edge ≠ .fall) && rise.getLsbD bit || decide (edge ≠ .rise) && fall.getLsbD bit)) =
    (decide (index / 16 = pod.val) && edge.agrees (rise.getLsbD (index % 16)) (fall.getLsbD (index % 16))) := by
  simp only [← agrees_eq]
  rw [Bool.eq_iff_iff]
  simp only [List.any_eq_true, List.mem_range, Bool.and_eq_true, decide_eq_true_eq]
  constructor
  · rintro ⟨bit, low, rfl, agrees⟩
    rw [show (pod.val * 16 + bit) % 16 = bit by omega]
    exact ⟨by omega, agrees⟩
  · rintro ⟨pods, agrees⟩
    refine ⟨index % 16, ?_, by omega, agrees⟩
    by_contra high
    rw [BitVec.getLsbD_of_ge _ _ (by omega), BitVec.getLsbD_of_ge _ _ (by omega), agrees_eq] at agrees
    simp at agrees

/-- The edge a COND link asks for is the condition's own or ANY (R75). -/
theorem condEdge_agrees (edge : LinkEdge) (rise : Bool) : edge.agrees rise (!rise) = decide (edge ≠ if rise then .fall else .rise) := by
  cases edge <;> cases rise <;> rfl

theorem linkMatches_eq (l : LinkEntry) (ev : MatrixEvent) : linkMatches l ev = (l.valid && l.matchesEvent ev) := by
  unfold linkMatches LinkEntry.matchesEvent
  congr 1
  cases ev with
  | switch pod rise fall =>
    simp only [switchIndex_matches, Bool.and_assoc]
  | cond entry rise =>
    simp only [condEdge_agrees]
  | fault c =>
    have edge : l.edge.agrees true false = decide (l.edge ≠ .fall) := by simp [agrees_eq]
    simp only [edge]
    rw [Bool.and_right_comm]
    cases c <;> rfl

theorem guardAllows_eq (l : LinkEntry) (conds : Vector CondLive 16) : guardAllows l conds = l.guardHolds conds := by
  unfold guardAllows LinkEntry.guardHolds
  cases l.guard with
  | none => rfl
  | some c => exact (beq_eq_decide _ _).symm

theorem firingSet_eq (s : State) (ev : MatrixEvent) :
    firingSet s ev = s.tables.links.toList.filter fun l => linkMatches l ev && guardAllows l s.conds := by
  simp only [linkMatches_eq, guardAllows_eq]
  rfl

theorem wakesMatrix_iff (s : State) (ev : MatrixEvent) :
    wakesMatrix s ev = true ↔ ∃ l ∈ s.tables.links.toList, linkMatches l ev = true := by
  simp only [linkMatches_eq]
  exact List.any_eq_true

end Sys2Proof.Machine
end

section
/-! PROOFS. What the verbs of one event make of an output, whichever owner takes its verbs first (R78, R80 to R83, R92 to R99,
R104, R105, R121 to R125). -/

namespace Sys2Proof.Machine

/-! The owners that an event reaches (R78). -/

theorem target_cases (target : Fin 15) : (∃ o, target = outputTarget o) ∨ ∃ i, target = sourceTarget i := by
  by_cases low : target.val < 12
  · exact .inl ⟨⟨target.val, low⟩, rfl⟩
  · have high : target = 12 ∨ target = 13 ∨ target = 14 := by omega
    rcases high with rfl | rfl | rfl
    · exact .inr ⟨.left, rfl⟩
    · exact .inr ⟨.right, rfl⟩
    · exact .inr ⟨.hazard, rfl⟩

theorem outputsReached_iff (verbs : Fin 15 → Option Resolved) :
    ((List.finRange 12).any fun o => (verbs (outputTarget o)).isSome) = true ↔ ∃ o, verbs (outputTarget o) ≠ none := by
  simp [Option.isSome_iff_ne_none]

theorem flasherReached_iff (verbs : Fin 15 → Option Resolved) :
    ((verbs 12).isSome || (verbs 13).isSome || (verbs 14).isSome) = true ↔ ∃ i, verbs (sourceTarget i) ≠ none := by
  simp only [Bool.or_eq_true, Option.isSome_iff_ne_none]
  constructor
  · rintro ((h | h) | h)
    · exact ⟨.left, h⟩
    · exact ⟨.right, h⟩
    · exact ⟨.hazard, h⟩
  · rintro ⟨i, h⟩
    cases i
    · exact .inl (.inl h)
    · exact .inl (.inr h)
    · exact .inr h

/-- What the hand-over of resolved verbs can be: nothing, the act of one owner, or those of both, in an open order (R78). -/
theorem handVerbs_cases (verbs : Fin 15 → Option Resolved) (s : State) :
    ((∀ target, verbs target = none) ∧ handVerbs verbs s = s) ∨
    ((∀ i, verbs (sourceTarget i) = none) ∧ handVerbs verbs s = redriveAll (applyOutputVerbs verbs s)) ∨
    ((∀ o, verbs (outputTarget o) = none) ∧ handVerbs verbs s = redriveAll (applyFlashVerbs (drives s) verbs s)) ∨
    (∃ i, verbs (sourceTarget i) ≠ none) ∧ ∃ n,
      handVerbs verbs s = redriveAll (applyFlashVerbs (drives s) verbs (applyOutputVerbs verbs (s.recounted n))) ∨
      handVerbs verbs s = redriveAll (applyOutputVerbs verbs (applyFlashVerbs (drives s) verbs (s.recounted n))) := by
  have outputs := outputsReached_iff verbs
  have flasher := flasherReached_iff verbs
  unfold handVerbs
  simp only
  generalize ((List.finRange 12).any fun o => (verbs (outputTarget o)).isSome) = toOutputs at outputs ⊢
  generalize ((verbs 12).isSome || (verbs 13).isSome || (verbs 14).isSome) = toFlasher at flasher ⊢
  cases toOutputs <;> cases toFlasher <;>
    simp only [Bool.false_eq_true, false_iff, true_iff, not_exists, not_not] at outputs flasher
  · refine .inl ⟨fun target => ?_, rfl⟩
    rcases target_cases target with ⟨o, rfl⟩ | ⟨i, rfl⟩
    · exact outputs o
    · exact flasher i
  · exact .inr (.inr (.inl ⟨outputs, rfl⟩))
  · exact .inr (.inl ⟨flasher, rfl⟩)
  · obtain ⟨n, order⟩ := anyOrder_pair (applyOutputVerbs verbs) (applyFlashVerbs (drives s) verbs) s
    exact .inr (.inr (.inr ⟨flasher, n, order.imp (congrArg redriveAll) (congrArg redriveAll)⟩))

/-- The drives are computed from some hub with the same tables and supply, where an event resolves some verb (log 14). -/
theorem handVerbs_redriven (verbs : Fin 15 → Option Resolved) (s : State) (reached : ∃ target, verbs target ≠ none) :
    ∃ u, handVerbs verbs s = redriveAll u ∧ u.tables = s.tables ∧ u.supply = s.supply := by
  have loads := handVerbs_lessLoads verbs s
  have of_redriven : ∀ {u}, handVerbs verbs s = redriveAll u →
      ∃ u, handVerbs verbs s = redriveAll u ∧ u.tables = s.tables ∧ u.supply = s.supply := by
    intro u is
    rw [is] at loads
    exact ⟨u, is, (congrArg State.tables loads :), (congrArg State.supply loads :)⟩
  rcases handVerbs_cases verbs s with ⟨silent, _⟩ | ⟨_, is⟩ | ⟨_, is⟩ | ⟨_, n, is | is⟩
  · obtain ⟨target, h⟩ := reached
    exact absurd (silent target) h
  all_goals exact of_redriven is

/-! Hubs that are alike for one output. -/

/-- A kind that the flasher lights (R121, R122). -/
def LoadKind.flashed (k : LoadKind) : Prop := k = .indicator ∨ k = .stopturn

/-- Hubs alike in all that one output is driven by: tables, supply, the output and its flags, and the flasher where that lights it. -/
structure State.alikeFor (o : Fin 12) (s t : State) : Prop where
  tables : t.tables = s.tables
  supply : t.supply = s.supply
  view : outView o t = outView o s
  flash : s.tables.loads[o].kind.flashed → t.flash = s.flash

theorem alikeFor_refl (o : Fin 12) (s : State) : s.alikeFor o s := ⟨rfl, rfl, rfl, fun _ => rfl⟩

theorem alikeFor_symm {o : Fin 12} {s t : State} (h : s.alikeFor o t) : t.alikeFor o s :=
  ⟨h.tables.symm, h.supply.symm, h.view.symm, fun lit => (h.flash (h.tables ▸ lit)).symm⟩

/-- The drive of an output that the flasher does not light is the same whatever the sources do (R92, R96, R97). -/
theorem redrive_unflashed {e : LoadEntry} (h : ¬ e.kind.flashed) (flash flash' : FlashState) (ign : Bool) (shed : Nat) (x : OutLive) :
    redrive e flash ign shed x = redrive e flash' ign shed x := by
  obtain ⟨indicator, stopturn⟩ := not_or.mp h
  unfold redrive wantsDrive requested softStarts
  cases kind : e.kind with
  | indicator => exact absurd kind indicator
  | stopturn => exact absurd kind stopturn
  | unused | lamp | stop | fan => simp only [reduceCtorEq, false_and, if_false]

/-- Hubs alike for an output are alike for it once the drives are computed. -/
theorem alikeFor_redriven {o : Fin 12} {s t : State} (h : s.alikeFor o t) : (redriveAll s).alikeFor o (redriveAll t) := by
  refine ⟨h.tables, h.supply, ?_, h.flash⟩
  have out : t.outs[o] = s.outs[o] := congrArg (fun y => y.1) h.view
  rw [redriveAll_view, redriveAll_view, h.view, h.tables, h.supply, out]
  by_cases lit : s.tables.loads[o].kind.flashed
  · rw [h.flash lit]
  · rw [redrive_unflashed lit t.flash s.flash]

/-- How an output follows its verbs is read from hubs alike for it. -/
theorem outputFollows_alike {s t u v : State} {verb : Fin 15 → Option Resolved} {o : Fin 12} (before : s.alikeFor o u) (after : t.alikeFor o v)
    (same : t.tables = s.tables) (h : outputFollows s t verb o) : outputFollows u v verb o := by
  have out : u.outs[o] = s.outs[o] := congrArg (fun y => y.1) before.view
  have overload : u.faults.isSet .overload o.val = s.faults.isSet .overload o.val := congrArg (fun y => y.2.1) before.view
  have stall : u.faults.isSet .stall o.val = s.faults.isSet .stall o.val := congrArg (fun y => y.2.2) before.view
  have out' : v.outs[o] = t.outs[o] := congrArg (fun y => y.1) after.view
  have overload' : v.faults.isSet .overload o.val = t.faults.isSet .overload o.val := congrArg (fun y => y.2.1) after.view
  have stall' : v.faults.isSet .stall o.val = t.faults.isSet .stall o.val := congrArg (fun y => y.2.2) after.view
  have flash := before.flash
  have flash' := after.flash
  rw [same] at flash'
  unfold outputFollows at h ⊢
  simp only [List.forall_mem_cons, List.not_mem_nil, false_imp_iff, implies_true, and_true, before.tables, before.supply,
    out, overload, stall, out', overload', stall'] at h ⊢
  cases kind : s.tables.loads[o].kind <;> simp only [kind] at h flash flash' ⊢
  case indicator => simpa only [flash (.inl rfl), flash' (.inl rfl)] using h
  case stopturn => simpa only [flash (.inr rfl), flash' (.inr rfl)] using h
  all_goals exact h

/-! What each owner leaves alone. -/

/-- No verb of an event moves this output: the flasher alone lights it, or none names it (R83). -/
def unmoved (s : State) (verbs : Fin 15 → Option Resolved) (o : Fin 12) : Prop :=
  s.tables.loads[o].kind = .indicator ∨ verbs (outputTarget o) = none

theorem verbed_unmoved {s : State} {verbs : Fin 15 → Option Resolved} {o : Fin 12} (h : unmoved s verbs o) (x : OutLive) :
    verbed s.tables s.flash s.supply s.tables.loads[o] (verbs (outputTarget o)) x = (x, false) := by
  rcases h with kind | silent
  · unfold verbed
    rw [kind]
  · rw [silent]
    exact verbed_none _ _ _ _ _

theorem applyOutputVerbs_alike {verbs : Fin 15 → Option Resolved} {s : State} {o : Fin 12} (h : unmoved s verbs o) :
    s.alikeFor o (applyOutputVerbs verbs s) := by
  have context := applyOutputVerbs_context verbs s
  refine ⟨congrArg (fun c => c.1) context, congrArg (fun c => c.2.2) context, ?_, fun _ => verbOutputs_flash verbs s⟩
  rw [applyOutputVerbs_view, verbed_unmoved h]
  exact offView_false _ _

theorem handContexts_unflashed (before : Vector Bool 12) (new : FlashState) {s : State} {o : Fin 12}
    (h : ¬ s.tables.loads[o].kind.flashed) : outView o (handContexts before new s) = outView o s := by
  obtain ⟨stays, gap⟩ := handedOver_unflashed s.tables s.tables.loads[o] before[o] s.flash new s.outs[o] (not_or.mp h)
  rw [handContexts_view, stays, gap]
  exact offView_false _ _

theorem applyFlashVerbs_alike (before : Vector Bool 12) (verbs : Fin 15 → Option Resolved) {s : State} {o : Fin 12}
    (h : ¬ s.tables.loads[o].kind.flashed) : s.alikeFor o (applyFlashVerbs before verbs s) := by
  have loads := applyFlashVerbs_lessLoads before verbs s
  exact ⟨(congrArg State.tables loads :), (congrArg State.supply loads :), handContexts_unflashed before _ h, fun lit => absurd lit h⟩

/-- Verbs leave the drives to the end of their event (log 14). -/
theorem applyOutputVerbs_drives (verbs : Fin 15 → Option Resolved) (s : State) : drives (applyOutputVerbs verbs s) = drives s := by
  unfold drives
  congr 1
  funext o
  have view := congrArg (fun y => y.1.drive) (applyOutputVerbs_view verbs s o)
  refine Eq.trans view ?_
  have released : ∀ off x, (releasedIf off x).drive = x.drive := fun off x => by cases off <;> rfl
  simp only [offView, released]
  unfold verbed
  cases s.tables.loads[o].kind <;> rfl

/-! The output after the verbs of one event. -/

/-- The verbs of an event but for that of one output. -/
def verbsBut (o : Fin 12) (verbs : Fin 15 → Option Resolved) (target : Fin 15) : Option Resolved :=
  if target = outputTarget o then none else verbs target

theorem applyFlashVerbs_verbsBut (before : Vector Bool 12) (o : Fin 12) (verbs : Fin 15 → Option Resolved) (s : State) :
    applyFlashVerbs before (verbsBut o verbs) s = applyFlashVerbs before verbs s := by
  have kept : ∀ i, verbsBut o verbs (sourceTarget i) = verbs (sourceTarget i) := fun i =>
    if_neg fun e => outputTarget_ne_sourceTarget o i e.symm
  unfold applyFlashVerbs
  rw [show verbsBut o verbs 12 = verbs 12 from kept .left, show verbsBut o verbs 13 = verbs 13 from kept .right,
    show verbsBut o verbs 14 = verbs 14 from kept .hazard]

/-- An output that no verb of its own moves follows the verbs on the flash sources (R83, R121 to R125). -/
theorem verbSources_follow_unmoved {verbs : Fin 15 → Option Resolved} {s : State} {o : Fin 12} (h : unmoved s verbs o) :
    outputFollows s (redriveAll (applyFlashVerbs (drives s) verbs s)) verbs o := by
  rcases h with kind | silent
  · have follows := verbSources_follow (verbsBut o verbs) s o (if_pos rfl)
    rw [applyFlashVerbs_verbsBut] at follows
    unfold outputFollows at follows ⊢
    simpa only [kind] using follows
  · exact verbSources_follow verbs s o silent

/-- A STOPTURN output ends an event with the demand that its verb gives it and with the drive that its values say. -/
theorem handVerbs_stopturn {verbs : Fin 15 → Option Resolved} {s : State} {o : Fin 12} (kind : s.tables.loads[o].kind = .stopturn)
    (own : verbs (outputTarget o) ≠ none) (sources : ∃ i, verbs (sourceTarget i) ≠ none) : outputFollows s (handVerbs verbs s) verbs o := by
  obtain ⟨u, redriven, tables, supply⟩ := handVerbs_redriven verbs s ⟨_, own⟩
  have moved : (handVerbs verbs s).outs[o].demand = demandByVerb s.outs[o].demand (verbs (outputTarget o)) :=
    (moved_outputs (handVerbs_moved verbs s)).1 o (by rw [kind]; rfl)
  have driven := redriveAll_out u o
  rw [tables, supply] at driven
  obtain ⟨demand, drive⟩ := redrive_stopturn_drive s.tables.loads[o] u.flash s.supply.ign s.supply.shed u.outs[o] kind
  rw [← driven] at demand drive
  rw [redriven] at moved ⊢
  rw [← demand, moved] at drive
  unfold outputFollows
  simp only [kind]
  refine ⟨fun alone => ?_, moved, drive⟩
  rcases alone with silent | ⟨left, right, hazard⟩
  · exact absurd silent own
  · obtain ⟨i, reached⟩ := sources
    cases i
    · exact absurd left reached
    · exact absurd right reached
    · exact absurd hazard reached

/-- An output that one owner at most touches follows both acts of an event, the output's own verbs first. -/
theorem outputsThenFlasher_follow {verbs : Fin 15 → Option Resolved} {s : State} {o : Fin 12}
    (h : unmoved s verbs o ∨ ¬ s.tables.loads[o].kind.flashed) :
    outputFollows s (redriveAll (applyFlashVerbs (drives s) verbs (applyOutputVerbs verbs s))) verbs o := by
  have tables : (applyOutputVerbs verbs s).tables = s.tables := congrArg (fun c => c.1) (applyOutputVerbs_context verbs s)
  rcases h with own | unlit
  · have alike := applyOutputVerbs_alike own
    have own' : unmoved (applyOutputVerbs verbs s) verbs o := by
      unfold unmoved
      rwa [tables]
    have follows := verbSources_follow_unmoved own'
    rw [applyOutputVerbs_drives] at follows
    exact outputFollows_alike (alikeFor_symm alike) (alikeFor_refl o _)
      (congrArg State.tables (applyFlashVerbs_lessLoads (drives s) verbs (applyOutputVerbs verbs s)) :) follows
  · refine outputFollows_alike (alikeFor_refl o s) (alikeFor_redriven (applyFlashVerbs_alike _ verbs ?_)) tables (verbOutputs_follow verbs s o)
    rwa [tables]

/-- So it does where the flash sources come first. -/
theorem flasherThenOutputs_follow {verbs : Fin 15 → Option Resolved} {s : State} {o : Fin 12}
    (h : unmoved s verbs o ∨ ¬ s.tables.loads[o].kind.flashed) :
    outputFollows s (redriveAll (applyOutputVerbs verbs (applyFlashVerbs (drives s) verbs s))) verbs o := by
  have tables : (applyFlashVerbs (drives s) verbs s).tables = s.tables :=
    (congrArg State.tables (applyFlashVerbs_lessLoads (drives s) verbs s) :)
  rcases h with own | unlit
  · refine outputFollows_alike (alikeFor_refl o s) (alikeFor_redriven (applyOutputVerbs_alike ?_)) tables (verbSources_follow_unmoved own)
    unfold unmoved
    rwa [tables]
  · exact outputFollows_alike (alikeFor_symm (applyFlashVerbs_alike _ verbs unlit)) (alikeFor_refl o _)
      (congrArg (fun c => c.1) (applyOutputVerbs_context verbs (applyFlashVerbs (drives s) verbs s))) (verbOutputs_follow verbs _ o)

/-- The hand-over of verbs, of which there is one, moves every output as its kind says (R80, R81, R83, R92 to R99, R121 to R125). -/
theorem handVerbs_follow (verbs : Fin 15 → Option Resolved) (s : State) (o : Fin 12) (reached : ∃ target, verbs target ≠ none) :
    outputFollows s (handVerbs verbs s) verbs o := by
  rcases handVerbs_cases verbs s with ⟨silent, _⟩ | ⟨_, is⟩ | ⟨silent, is⟩ | ⟨sources, n, order⟩
  · obtain ⟨target, h⟩ := reached
    exact absurd (silent target) h
  · rw [is]
    exact verbOutputs_follow verbs s o
  · rw [is]
    exact verbSources_follow verbs s o (silent o)
  · by_cases once : unmoved s verbs o ∨ ¬ s.tables.loads[o].kind.flashed
    · rcases order with is | is <;> rw [is]
      · exact outputsThenFlasher_follow (s := s.recounted n) once
      · exact flasherThenOutputs_follow (s := s.recounted n) once
    · obtain ⟨own, lit⟩ := not_or.mp once
      obtain ⟨indicator, own⟩ := not_or.mp own
      exact handVerbs_stopturn ((not_not.mp lit).resolve_left indicator) own sources

/-- A verb on a flash source ends in settled sources, whatever comes after (R114, R120). -/
theorem handVerbs_settles (verbs : Fin 15 → Option Resolved) (s : State) (h : ∃ i, verbs (sourceTarget i) ≠ none) :
    sourcesSettled (handVerbs verbs s) := by
  obtain ⟨i, source⟩ := h
  rcases handVerbs_cases verbs s with ⟨silent, _⟩ | ⟨silent, _⟩ | ⟨_, is⟩ | ⟨_, n, is | is⟩
  · exact absurd (silent _) source
  · exact absurd (silent i) source
  · rw [is]
    exact applyFlashVerbs_settled _ verbs s
  · rw [is]
    exact applyFlashVerbs_settled _ verbs (applyOutputVerbs verbs (s.recounted n))
  · rw [is]
    exact sourcesSettled_congr (verbOutputs_flash verbs _) (congrArg State.supply (applyOutputVerbs_lessLoads verbs _) :)
      (applyFlashVerbs_settled (drives s) verbs (s.recounted n))

theorem handVerbs_silent {verbs : Fin 15 → Option Resolved} (s : State) (h : ∀ target, verbs target = none) : handVerbs verbs s = s := by
  simp [handVerbs, h]

/-! The whole event. -/

theorem demandMoved_switched {k : LoadKind} (h : k.switched = true) (v : Option Resolved) (x : Bool × Nat × Nat) :
    demandMoved k v x = (demandByVerb x.1 v, x.2) := by
  cases k with
  | lamp | stop | stopturn => rfl
  | unused | indicator | fan => exact absurd h (by decide)

theorem demandMoved_ignored {k : LoadKind} (h : k = .indicator ∨ k = .unused) (v : Option Resolved) (x : Bool × Nat × Nat) :
    demandMoved k v x = x := by
  rcases h with rfl | rfl <;> rfl

/-- What links leave alone of the fault unit: the flags of the other classes, the capture slots and LOST (R105). -/
theorem flags_of_lessLinks {s t : State} (h : t.lessLinks = s.lessLinks) (c : FaultClass) (overload : c ≠ .overload) (stall : c ≠ .stall) :
    t.faults.flags[c.number] = s.faults.flags[c.number] :=
  BitVec.eq_of_getLsbD_eq fun i _ => isSet_of_lessLinks h c i ⟨overload, stall⟩

/-- Settles O38: the links read as R72 to R76 say, then the acts of both owners, in whichever order they come. -/
theorem eventsMoveDemands : Obligations.EventsMoveDemands := by
  unfold Obligations.EventsMoveDemands
  intro s ev o i firing verb t
  have fired : firingSet s ev = firing := firingSet_eq s ev
  have event : t = handVerbs verb s := by
    show handVerbs (resolvedVerbs (firingSet s ev)) s = _
    rw [fired]
  have links : t.lessLinks = s.lessLinks := matrixEvent_lessLinks ev s
  have moved : movedBy verb s t := event ▸ handVerbs_moved verb s
  obtain ⟨capture, lost⟩ := capture_of_lessLinks links
  have own := moved.outputs o
  refine ⟨fired, wakesMatrix_iff s ev, fun kind => ?_, fun kind => ?_, fun kind => ?_, moved.sources i, fun source => ?_,
    fun silent => event.trans (handVerbs_silent s silent), fun reached => event ▸ handVerbs_follow verb s o reached,
    flags_of_lessLinks links, matrixEvent_lessLoads ev s, capture, lost⟩
  · rw [demandMoved_switched kind] at own
    obtain ⟨demand, fan⟩ := Prod.mk.inj own
    obtain ⟨level, memory⟩ := Prod.mk.inj fan
    exact ⟨demand, level, memory⟩
  · rw [kind] at own
    obtain ⟨demand, fan⟩ := Prod.mk.inj own
    exact ⟨fan, demand⟩
  · rw [demandMoved_ignored kind] at own
    obtain ⟨demand, fan⟩ := Prod.mk.inj own
    obtain ⟨level, memory⟩ := Prod.mk.inj fan
    exact ⟨demand, level, memory⟩
  · rw [event]
    exact handVerbs_settles verb s source

end Sys2Proof.Machine
end

section
/-! PROOFS. The protection of the outputs at every step (R91, R96, R99, R101, R103, R108): what keeps a property of each output. -/

namespace Sys2Proof.Machine

/-! A property of outputs that the action matrix keeps. -/

/-- What a recomputed drive can make of an output (R96, R97). -/
theorem redrive_cases (e : LoadEntry) (flash : FlashState) (ign : Bool) (shed : Nat) (x : OutLive) :
    (redrive e flash ign shed x = x ∧ (x.drive = true → x.protection = .normal)) ∨
      (redrive e flash ign shed x = { x with duty := 100, softStart := none } ∧ x.drive = true ∧ x.protection = .normal) ∨
      (∃ soft, redrive e flash ign shed x = driveOn e soft x ∧ x.protection = .normal) ∨
      redrive e flash ign shed x = driveOff x := by
  have normal : wantsDrive e flash ign shed x = true → x.protection = .normal := fun wants =>
    of_decide_eq_true (Bool.and_eq_true _ _ ▸ wants).2
  unfold redrive
  split
  · next wants =>
    split
    · next drive =>
      split
      · exact .inr (.inl ⟨rfl, drive, normal wants⟩)
      · exact .inl ⟨rfl, fun _ => normal wants⟩
    · exact .inr (.inr (.inl ⟨_, rfl, normal wants⟩))
  · split
    · exact .inr (.inr (.inr rfl))
    · next off => exact .inl ⟨rfl, fun drive => absurd drive off⟩

/-- A property of an output that the action matrix keeps: it stands where demands, levels and gap move (R80, R81, R95, R123), at a
demand-off (R104), and where the drive is computed anew (R96). -/
structure MatrixKept (P : OutLive → Prop) : Prop where
  moved : ∀ (x : OutLive) demand level memory effective gap, P x →
    P { x with demand := demand, fanLevel := level, fanMemory := memory, effective := effective, gap := gap }
  released : ∀ x, P x → P (released x)
  driven : ∀ e flash ign shed x, P x → P (redrive e flash ign shed x)

/-- Each output has the property asked of it. -/
def State.outsHold (P : Fin 12 → OutLive → Prop) (s : State) : Prop := ∀ o : Fin 12, P o s.outs[o]

theorem outsHold_of_outs {P : Fin 12 → OutLive → Prop} {s t : State} (same : t.outs = s.outs) (h : s.outsHold P) : t.outsHold P := fun o => by
  rw [same]
  exact h o

/-- One output changed. -/
theorem outsHold_modifyAt {P : Fin 12 → OutLive → Prop} {s : State} (o : Fin 12) {f : OutLive → OutLive} (own : P o (f s.outs[o]))
    (others : ∀ q, q ≠ o → P q s.outs[q]) : State.outsHold P { s with outs := modifyAt s.outs o f } := fun q => by
  by_cases same : q = o
  · subst same
    exact (getElem_modifyAt_self s.outs q f).symm ▸ own
  · exact (getElem_modifyAt_ne s.outs o q f same).symm ▸ others q same

/-- A part of an event that keeps what its outputs have. -/
abbrev BodyHolds (P : Fin 12 → OutLive → Prop) (f : Ev → Ev) : Prop := ∀ e : Ev, e.st.outsHold P → (f e).st.outsHold P

section
variable {P : Fin 12 → OutLive → Prop} (kept : ∀ o, MatrixKept (P o))

theorem clearUnlatched_outsHold (c : FaultClass) (i : Nat) {s : State} (h : s.outsHold P) : (clearUnlatched c i s).outsHold P :=
  outsHold_of_outs (clearUnlatched_outs c i s) h

theorem setPort_outsHold (p : PortId) (x : PortState) {s : State} (h : s.outsHold P) : (s.setPort p x).outsHold P :=
  outsHold_of_outs (State.setPort_outs s p x) h

theorem finish_outsHold (before : State) {e : Ev} (h : e.st.outsHold P) : (finish before e).outsHold P :=
  outsHold_of_outs (congrArg State.outs (finish_lessReports before e) :) h

theorem anyOrderEv_outsHold (acts : List (Ev → Ev)) (each : ∀ f ∈ acts, BodyHolds P f) : BodyHolds P (anyOrderEv acts) := fun e =>
  anyOrderEv_preserves (fun e => e.st.outsHold P) acts e (fun _ _ h => h) each

include kept

theorem releasedIf_kept_by (off : Bool) (o : Fin 12) {x : OutLive} (h : P o x) : P o (releasedIf off x) := by
  cases off
  · exact h
  · exact (kept o).released x h

theorem redriveAll_outsHold {s : State} (h : s.outsHold P) : (redriveAll s).outsHold P := fun o => by
  rw [redriveAll_out]
  exact (kept o).driven _ _ _ _ _ (h o)

theorem redriveOne_outsHold (o : Fin 12) {s : State} (h : s.outsHold P) : (redriveOne o s).outsHold P :=
  outsHold_modifyAt o ((kept o).driven _ _ _ _ _ (h o)) fun q _ => h q

/-- The verbs of an event move the demands of each output, and release some (R80, R81, R104). -/
theorem applyOutputVerbs_outsHold (verbs : Fin 15 → Option Resolved) {s : State} (h : s.outsHold P) :
    (applyOutputVerbs verbs s).outsHold P := fun o => by
  have out : (applyOutputVerbs verbs s).outs[o] = _ := congrArg Prod.fst (applyOutputVerbs_view verbs s o)
  rw [out]
  refine releasedIf_kept_by kept _ o ?_
  unfold verbed
  cases s.tables.loads[o].kind with
  | unused | indicator => exact h o
  | lamp | stop | stopturn | fan => exact (kept o).moved _ _ _ _ _ _ (h o)

theorem handContexts_outsHold (before : Vector Bool 12) (new : FlashState) {s : State} (h : s.outsHold P) :
    (handContexts before new s).outsHold P := fun o => by
  have out : (handContexts before new s).outs[o] = _ := congrArg Prod.fst (handContexts_view before new s o)
  rw [out]
  exact releasedIf_kept_by kept _ o ((kept o).moved _ _ _ _ _ _ (h o))

theorem handVerbs_outsHold (verbs : Fin 15 → Option Resolved) {s : State} (h : s.outsHold P) : (handVerbs verbs s).outsHold P := by
  have outputs : ∀ t : State, t.outsHold P → (applyOutputVerbs verbs t).outsHold P := fun t => applyOutputVerbs_outsHold kept verbs
  have sources : ∀ t : State, t.outsHold P → (applyFlashVerbs (drives s) verbs t).outsHold P := fun t => handContexts_outsHold kept _ _
  rcases handVerbs_cases verbs s with ⟨_, is⟩ | ⟨_, is⟩ | ⟨_, is⟩ | ⟨_, n, is | is⟩ <;> rw [is]
  · exact h
  · exact redriveAll_outsHold kept (outputs s h)
  · exact redriveAll_outsHold kept (sources s h)
  · exact redriveAll_outsHold kept (sources _ (outputs (s.recounted n) h))
  · exact redriveAll_outsHold kept (outputs _ (sources (s.recounted n) h))

theorem matrixEvent_outsHold (ev : MatrixEvent) {s : State} (h : s.outsHold P) : (matrixEvent ev s).outsHold P :=
  handVerbs_outsHold kept _ h

theorem switchEvent_outsHold (pod : Fin 9) (rise fall : BitVec 12) {s : State} (h : s.outsHold P) :
    (switchEvent pod rise fall s).outsHold P := by
  unfold switchEvent
  split
  · exact h
  · exact matrixEvent_outsHold kept _ h

theorem orderEvent_outsHold (tag : BitVec 4) (lane : Lane) {s : State} (h : s.outsHold P) : (orderEvent tag lane s).outsHold P := by
  unfold orderEvent
  split
  · split
    · exact handVerbs_outsHold kept _ h
    · exact h
  · exact h

theorem evalConds_outsHold (affects : OperandKind → Nat → Bool) {s : State} (h : s.outsHold P) : (evalConds affects s).outsHold P :=
  foldl_preserves (State.outsHold P) _ (fun _ ev => matrixEvent_outsHold kept ev) _ _ h

/-- A report of the fault unit moves outputs by its links alone (R160). -/
theorem reportFault_outsHold (c : FaultClass) (i value : Nat) : BodyHolds P (reportFault c i value) := fun e h => by
  have noted : ∀ s : State, (noteRaise c i s).outs = s.outs := fun s => (congrArg State.outs (noteRaise_lessPods c i s) :)
  unfold reportFault
  split
  · refine matrixEvent_outsHold kept _ (outsHold_of_outs ?_ h)
    exact (captureAttempt_outs c i value _).trans (noted _)
  · exact h

/-! The blocks of the hub (R49, R56, R57, R62, R133, R148, R155, R156). -/

theorem runChannel_outsHold (g : Fin 4) (r : Lane) : BodyHolds P (runChannel g r) := fun e h => by
  unfold runChannel
  refine anyOrderEv_outsHold _ (fun f mem => ?_) _ ?_
  · rcases List.mem_append.mp mem with conds | report
    · obtain ⟨_, rfl⟩ := (List.mem_ite_nil_right ..).mp conds |>.imp_right List.mem_singleton.mp
      exact fun _ => evalConds_outsHold kept _
    · obtain ⟨_, rfl⟩ := (List.mem_ite_nil_right ..).mp report |>.imp_right List.mem_singleton.mp
      exact reportFault_outsHold kept _ _ _
  · split
    · exact clearUnlatched_outsHold _ _ h
    · exact h

theorem handOnSlots_outsHold (changed : Fin 16 → Bool) : BodyHolds P (handOnSlots changed) := fun e h => by
  refine anyOrderEv_outsHold _ (fun f mem => ?_) e h
  rcases List.mem_append.mp mem with conds | run
  · obtain ⟨_, rfl⟩ := (List.mem_ite_nil_right ..).mp conds |>.imp_right List.mem_singleton.mp
    exact fun _ => evalConds_outsHold kept _
  · obtain ⟨g, _, made⟩ := List.mem_filterMap.mp run
    split at made
    · obtain ⟨_, made⟩ := Option.ite_none_right_eq_some.mp made
      obtain rfl := Option.some.inj made
      exact runChannel_outsHold kept g _
    · exact absurd made (by simp)

theorem handOnVs_outsHold : BodyHolds P handOnVs := fun e h => by
  rw [handOnVs_eq]
  refine anyOrderEv_outsHold _ (fun f mem => ?_) _ (outsHold_of_outs (vsHeld_outs e.st) h)
  rcases mem_vsActions mem with ⟨_, rfl⟩ | ⟨_, rfl⟩ | rfl
  · exact reportFault_outsHold kept _ _ _
  · exact reportFault_outsHold kept _ _ _
  · exact fun _ => evalConds_outsHold kept _

theorem levelled_outsHold {s : State} (h : s.outsHold P) : (levelled s).outsHold P := by
  refine redriveAll_outsHold kept fun o => ?_
  by_cases fan : s.tables.loads[o].kind = .fan
  · rw [relevelFans_fan fan]
    exact (kept o).moved _ _ _ _ _ _ (h o)
  · rw [relevelFans_other fan]
    exact h o

theorem shedChanged_outsHold (level : Nat) {s : State} (h : s.outsHold P) : (shedChanged level s).outsHold P :=
  evalConds_outsHold kept _ (levelled_outsHold kept (s := atShed level s) h)

theorem ignChanged_outsHold (level : Bool) {s : State} (h : s.outsHold P) : (ignChanged level s).outsHold P := by
  rw [ignChanged_eq]
  exact outsHold_of_outs (gaugesAtIgn_outs _) (levelled_outsHold kept (handContexts_outsHold kept _ _ (s := withIgn level s) h))

theorem inputSettled_outsHold (i : Fin 9) {s : State} (h : s.outsHold P) : (inputSettled i s).outsHold P := by
  refine anyOrder_preserves (State.outsHold P) _ _ (fun _ _ h => h) (fun f mem t ht => ?_) h
  rcases List.mem_append.mp mem with ign | edge
  · obtain ⟨_, rfl⟩ := (List.mem_ite_nil_right ..).mp ign |>.imp_right List.mem_singleton.mp
    exact ignChanged_outsHold kept _ ht
  · obtain ⟨_, rfl⟩ := (List.mem_ite_nil_right ..).mp edge |>.imp_right List.mem_singleton.mp
    exact switchEvent_outsHold kept _ _ _ ht

theorem enterExpired_outsHold {s : State} (h : s.outsHold P) : (enterExpired s).outsHold P := by
  unfold enterExpired
  dsimp only
  split
  · exact shedChanged_outsHold kept _ h
  · exact h

theorem restoreExpired_outsHold {s : State} (h : s.outsHold P) : (restoreExpired s).outsHold P := by
  unfold restoreExpired
  dsimp only
  split
  · exact shedChanged_outsHold kept _ h
  · exact h

theorem phaseExpired_outsHold (i : SourceId) {s : State} (h : s.outsHold P) : (phaseExpired i s).outsHold P :=
  redriveAll_outsHold kept (handContexts_outsHold kept _ _ h)

theorem offerRelay_outsHold (p : PortId) (f : Frame) : BodyHolds P (offerRelay p f) := fun e h => by
  unfold offerRelay
  dsimp only
  split
  · exact clearUnlatched_outsHold _ _ (setPort_outsHold _ _ h)
  · exact reportFault_outsHold kept _ _ _ _ (setPort_outsHold _ _ h)

theorem completeCommit_outsHold (verified : Bool) : BodyHolds P (completeCommit verified) := fun e h => by
  unfold completeCommit
  split
  · exact h
  · exact h
  · next origin _ =>
    dsimp only
    split
    · exact clearUnlatched_outsHold _ _ (by cases origin <;> exact h)
    · exact reportFault_outsHold kept _ _ _ _ (by cases origin <;> exact h)

theorem resetChannel_outsHold (g : Fin 4) {s : State} (h : s.outsHold P) : (resetChannel g s).outsHold P :=
  evalConds_outsHold kept _ (clearUnlatched_outsHold _ _ h)

theorem press_outsHold {s : State} (h : s.outsHold P) : (press s).outsHold P := by
  have cancelled : (cancelTeach s).outsHold P := outsHold_of_outs (cancelTeach_outs s) h
  unfold press
  split
  · exact h
  · split <;> exact h
  · split
    · split
      · exact resetChannel_outsHold kept _ h
      · exact cancelled
    · exact cancelled

theorem teachSettled_outsHold {s : State} (h : s.outsHold P) : (teachSettled s).outsHold P := by
  unfold teachSettled teachEdge
  dsimp only
  split
  · split
    · exact h
    · exact press_outsHold kept h
  · exact h

theorem updatePod_outsHold (p : Fin 8) (bits : BitVec 12) {s : State} (h : s.outsHold P) : (updatePod p bits s).outsHold P :=
  switchEvent_outsHold kept _ _ _ (clearUnlatched_outsHold _ _ h)

theorem podExpired_outsHold (p : Fin 8) : BodyHolds P (podExpired p) := fun e h =>
  reportFault_outsHold kept _ _ _ _ (switchEvent_outsHold kept _ _ _ (s := { e.st with pods := _ }) h)

theorem updateSlots_outsHold (vals : Fin 16 → Option Lane) : BodyHolds P (updateSlots vals) := fun _ h => handOnSlots_outsHold kept _ _ h

theorem setSlot_outsHold (k : Fin 16) (x : SlotLive) : BodyHolds P (setSlot k x) := fun _ h => handOnSlots_outsHold kept _ _ h

theorem badVerdict_outsHold (p : PortId) : BodyHolds P (badVerdict p) := fun _ h => reportFault_outsHold kept _ _ _ _ (setPort_outsHold _ _ h)

theorem relayAction_outsHold (p : PortId) (f : Frame) : ∀ a ∈ relayAction p f, BodyHolds P a := by
  intro a mem
  obtain ⟨_, rfl⟩ := (List.mem_ite_nil_left ..).mp mem |>.imp_right List.mem_singleton.mp
  exact offerRelay_outsHold kept _ _

theorem feedAction_outsHold (node : BitVec 4) (feed : Feed) (f out : Frame) : ∀ a ∈ feedAction node feed f out, BodyHolds P a := by
  intro a mem
  unfold feedAction at mem
  split at mem
  · rw [List.mem_singleton.mp mem]
    exact fun _ => updatePod_outsHold kept _ _
  · rw [List.mem_singleton.mp mem]
    exact fun e => updateSlots_outsHold kept _ e
  · obtain ⟨_, rfl⟩ := (List.mem_ite_nil_right ..).mp mem |>.imp_right List.mem_singleton.mp
    exact fun _ => orderEvent_outsHold kept _ _
  · exact absurd mem List.not_mem_nil

end

end Sys2Proof.Machine
end

section
/-! PROOFS. The protection of the outputs at every step: soundness, which the action matrix keeps, and what each command of the load
controller makes of it (R91, R96, R99, R101 to R103, R107, R108). -/

namespace Sys2Proof.Machine

/-! Soundness, and the weaker property an output has while its trip or stall is under way. -/

/-- What holds of an output even while its trip or its stall is under way (R96, R99, R101, R108). -/
structure OutLive.Bounded (x : OutLive) : Prop where
  count : x.trips ≤ 3
  dark : x.drive = false → x.softStart = none ∧ x.window = .closed ∧ x.stall = none

/-- The protection of an output is sound (R91, R96, R101, R103). -/
structure OutLive.Sound (x : OutLive) : Prop extends x.Bounded where
  driven : x.drive = true → x.protection = .normal
  below : x.protection ≠ .locked → x.trips ≤ 2
  timer : x.retry.isSome = true ↔ x.protection = .tripped

theorem protectionSound_iff (x : OutLive) : x.protectionSound = true ↔ x.Sound := by
  have timers : (x.retry.isSome == decide (x.protection = .tripped)) = true ↔ (x.retry.isSome = true ↔ x.protection = .tripped) := by
    rw [beq_iff_eq, Bool.eq_iff_iff, decide_eq_true_eq]
  unfold OutLive.protectionSound
  simp only [Bool.and_eq_true, Bool.or_eq_true, Bool.not_eq_true', decide_eq_true_eq, timers, Option.isNone_iff_eq_none]
  constructor
  · rintro ⟨⟨⟨⟨driven, count⟩, below⟩, timer⟩, dark⟩
    refine ⟨⟨count, fun off => ?_⟩, fun on => driven.resolve_left (by simp [on]), below.resolve_left, timer⟩
    obtain ⟨⟨soft, window⟩, stall⟩ := dark.resolve_left (by simp [off])
    exact ⟨soft, window, stall⟩
  · rintro ⟨⟨count, dark⟩, driven, below, timer⟩
    refine ⟨⟨⟨⟨?_, count⟩, or_iff_not_imp_left.mpr below⟩, timer⟩, or_iff_not_imp_left.mpr fun off => ?_⟩
    · exact (Bool.eq_false_or_eq_true x.drive).symm.imp_right driven
    · obtain ⟨soft, window, stall⟩ := dark (Bool.not_eq_true _ ▸ off)
      exact ⟨⟨soft, window⟩, stall⟩

theorem driveOff_bounded {x : OutLive} (h : x.trips ≤ 3) : (driveOff x).Bounded := ⟨h, fun _ => ⟨rfl, rfl, rfl⟩⟩

theorem driveOn_bounded (e : LoadEntry) (soft : Bool) {x : OutLive} (h : x.trips ≤ 3) : (driveOn e soft x).Bounded :=
  ⟨h, fun off => Bool.noConfusion off⟩

theorem bounded_kept : MatrixKept OutLive.Bounded where
  moved _ _ _ _ _ _ h := ⟨h.count, h.dark⟩
  released _ h := ⟨Nat.zero_le 3, fun off => ⟨(h.dark off).1, (h.dark off).2.1, rfl⟩⟩
  driven e flash ign shed x h := by
    rcases redrive_cases e flash ign shed x with ⟨is, _⟩ | ⟨is, drive, _⟩ | ⟨soft, is, _⟩ | is <;> rw [is]
    · exact h
    · exact ⟨h.count, fun off => Bool.noConfusion (drive.symm.trans off)⟩
    · exact driveOn_bounded e soft h.count
    · exact driveOff_bounded h.count

/-- The drive rule makes an output sound, as far as its protection is (R96). -/
theorem redrive_sound (e : LoadEntry) (flash : FlashState) (ign : Bool) (shed : Nat) {x : OutLive} (h : x.Bounded)
    (below : x.protection ≠ .locked → x.trips ≤ 2) (timer : x.retry.isSome = true ↔ x.protection = .tripped) :
    (redrive e flash ign shed x).Sound := by
  have bounded := bounded_kept.driven e flash ign shed x h
  rcases redrive_cases e flash ign shed x with ⟨is, normal⟩ | ⟨is, _, normal⟩ | ⟨soft, is, normal⟩ | is <;> rw [is] at bounded ⊢
  · exact ⟨bounded, normal, below, timer⟩
  · exact ⟨bounded, fun _ => normal, below, timer⟩
  · exact ⟨bounded, fun _ => normal, below, timer⟩
  · exact ⟨bounded, fun on => Bool.noConfusion on, below, timer⟩

theorem sound_kept : MatrixKept OutLive.Sound where
  moved x demand level memory effective gap h :=
    ⟨bounded_kept.moved x demand level memory effective gap h.toBounded, h.driven, h.below, h.timer⟩
  released x h := ⟨bounded_kept.released x h.toBounded, fun _ => rfl, fun _ => Nat.zero_le 2, by simp [released]⟩
  driven e flash ign shed _ h := redrive_sound e flash ign shed h.toBounded h.below h.timer

/-- The output as it is after a supply reset (R158). -/
theorem reset_sound : OutLive.reset.Sound := (protectionSound_iff _).mp (by decide)

/-- The output as a write of its entry leaves it (R90). -/
theorem rewritten_sound (x : OutLive) : x.rewritten.Sound :=
  ⟨⟨Nat.zero_le 3, fun _ => ⟨rfl, rfl, rfl⟩⟩, fun on => Bool.noConfusion on, fun _ => Nat.zero_le 2, by simp [OutLive.rewritten]⟩

/-- Every output is sound. -/
abbrev State.outsSound : State → Prop := State.outsHold fun _ => OutLive.Sound

theorem state_protectionSound_iff (s : State) : s.protectionSound ↔ s.outsSound := by
  show allOf _ _ = true ↔ _
  rw [allOf_iff]
  exact forall_congr' fun o => protectionSound_iff s.outs[o]

/-- All outputs are sound but one, whose trip or stall is under way. -/
abbrev soundBut (o q : Fin 12) (x : OutLive) : Prop := x.Bounded ∧ (q ≠ o → x.Sound)

theorem soundBut_kept (o q : Fin 12) : MatrixKept (soundBut o q) where
  moved x demand level memory effective gap h :=
    ⟨bounded_kept.moved x demand level memory effective gap h.1, fun other => sound_kept.moved x demand level memory effective gap (h.2 other)⟩
  released x h := ⟨bounded_kept.released x h.1, fun other => sound_kept.released x (h.2 other)⟩
  driven e flash ign shed x h := ⟨bounded_kept.driven e flash ign shed x h.1, fun other => sound_kept.driven e flash ign shed x (h.2 other)⟩

/-! The checks of a sample (R98 to R101, R108). -/

/-- A change of one output that leaves it sound. -/
theorem modifyOut_sound (o : Fin 12) {f : OutLive → OutLive} {s : State} (h : s.outsSound) (own : s.outs[o].Sound → (f s.outs[o]).Sound) :
    State.outsSound { s with outs := modifyAt s.outs o f } :=
  outsHold_modifyAt (P := fun _ => OutLive.Sound) o (own (h o)) fun q _ => h q

/-- A change of one output that leaves it bounded. -/
theorem modifyOut_soundBut (o : Fin 12) {f : OutLive → OutLive} {s : State} (h : s.outsSound) (own : s.outs[o].Sound → (f s.outs[o]).Bounded) :
    State.outsHold (soundBut o) { s with outs := modifyAt s.outs o f } :=
  outsHold_modifyAt o ⟨own (h o), fun other => absurd rfl other⟩ fun q _ => ⟨(h q).toBounded, fun _ => h q⟩

/-- The end of a trip: TRIPPED with the retry timer, or LOCKED without (R101). -/
theorem protect_redrive_sound (e : LoadEntry) (flash : FlashState) (ign : Bool) (shed : Nat) {x : OutLive} (h : x.Bounded) :
    (redrive e flash ign shed (x.protect x.trips)).Sound := by
  unfold OutLive.protect
  split
  · next low => exact redrive_sound _ _ _ _ ⟨h.count, h.dark⟩ (fun _ => Nat.lt_succ_iff.mp low) (by simp)
  · exact redrive_sound _ _ _ _ ⟨h.count, h.dark⟩ (fun unlocked => absurd rfl unlocked) (by simp)

theorem tripEnd_sound {o : Fin 12} {s : State} (h : s.outsHold (soundBut o)) : (tripEnd o s).outsSound := by
  show State.outsSound { s with outs := modifyAt (modifyAt s.outs o _) o _ }
  rw [modifyAt_modifyAt]
  exact outsHold_modifyAt (P := fun _ => OutLive.Sound) o (protect_redrive_sound _ _ _ _ (h o).1) fun q other => (h q).2 other

theorem tripOutput_sound (o : Fin 12) {e : Ev} (h : e.st.outsSound) (normal : e.st.outs[o].protection = .normal) :
    (tripOutput o e).st.outsSound := by
  have low : e.st.outs[o].trips ≤ 2 := (h o).below (normal.trans_ne (by decide))
  have started : (tripStarted o e.st).outsHold (soundBut o) :=
    modifyOut_soundBut o h fun _ => ⟨Nat.succ_le_succ low, fun _ => ⟨rfl, rfl, rfl⟩⟩
  exact tripEnd_sound (reportFault_outsHold (soundBut_kept o) _ _ _ (e.on (tripStarted o)) started)

theorem stallTest_sound (entry : LoadEntry) {x : OutLive} (h : x.Sound) : (stallTest entry x).Sound := by
  unfold stallTest
  split
  · next fan =>
    have lit : ∀ stall : Option Nat, x.drive = false → x.softStart = none ∧ x.window = .closed ∧ stall = none := fun _ off =>
      Bool.noConfusion (off.symm.trans fan.2)
    split <;> exact ⟨⟨h.count, lit _⟩, h.driven, h.below, h.timer⟩
  · exact h

theorem checkLimits_sound (o : Fin 12) {e : Ev} (h : e.st.outsSound) : (checkLimits o e).st.outsSound := by
  have marked : ∀ gone, (openMarked o gone e.st).outsSound := fun gone =>
    modifyOut_sound o h fun own => ⟨⟨own.count, own.dark⟩, own.driven, own.below, own.timer⟩
  rcases Nat.lt_or_ge e.st.outs[o].current e.st.tables.loads[o].imin with low | within
  · rw [checkLimits_open low]
    exact modifyOut_sound o (reportFault_outsHold (fun _ => sound_kept) _ _ _ (e.on (openMarked o false)) (marked false)) (stallTest_sound _)
  · rw [checkLimits_within within]
    exact modifyOut_sound o (clearUnlatched_outsHold _ _ (marked true)) (stallTest_sound _)

/-- An open check window means a driven output, and a driven output is NORMAL (R99, R103). -/
theorem normal_of_opened {x : OutLive} (h : x.Sound) (opened : x.window = .opened) : x.protection = .normal :=
  h.driven (by_contra fun off => by simp [(h.dark (Bool.not_eq_true _ ▸ off)).2.1] at opened)

theorem checkSample_sound (o : Fin 12) (taken : Bool) {e : Ev} (h : e.st.outsSound) : (checkSample o taken e).st.outsSound := by
  unfold checkSample
  split
  · next checked =>
    split
    · exact tripOutput_sound o h (normal_of_opened (h o) checked.2)
    · exact checkLimits_sound o h
  · exact h

/-! The timers of the load controller (R97, R99, R102, R107, R108, R124). -/

theorem countSoftStart_sound (entry : LoadEntry) {x : OutLive} (h : x.Sound) : (countSoftStart entry x).Sound := by
  unfold countSoftStart
  split
  · exact h
  · next soft =>
    refine ⟨⟨h.count, fun off => ?_⟩, h.driven, h.below, h.timer⟩
    exact absurd ((h.dark off).1.symm.trans soft) nofun

theorem openWindow_sound {x : OutLive} (h : x.Sound) : (openWindow x).Sound := by
  unfold openWindow
  split
  · next waits =>
    refine ⟨⟨h.count, fun off => ?_⟩, h.driven, h.below, h.timer⟩
    exact absurd ((h.dark off).2.1.symm.trans waits) nofun
  · exact h
  · exact h

theorem retryExpired_sound {o : Fin 12} {s : State} (h : s.outsSound) (tripped : s.outs[o].protection = .tripped) :
    (retryExpired o s).outsSound := by
  refine redriveOne_outsHold (fun _ => sound_kept) o (modifyOut_sound o h fun own => ?_)
  exact ⟨⟨own.count, own.dark⟩, fun _ => rfl, fun _ => own.below (tripped.trans_ne (by decide)), by simp⟩

theorem slewOutput_sound (hub : HubTable) (entry : LoadEntry) {x : OutLive} (h : x.Sound) : (slewOutput hub entry x).Sound := by
  unfold slewOutput
  split
  · exact ⟨⟨h.count, h.dark⟩, h.driven, h.below, h.timer⟩
  · exact h

theorem fansSlewed_sound {s : State} (h : s.outsSound) :
    (redriveAll { s with outs := tabulate fun o => slewOutput s.tables.hub s.tables.loads[o] s.outs[o] }).outsSound := by
  refine redriveAll_outsHold (fun _ => sound_kept) fun o => ?_
  show OutLive.Sound (tabulate _)[o]
  rw [getElem_tabulate_fin]
  exact slewOutput_sound _ _ (h o)

/-- The end of a stall (R108). -/
theorem lockStalled_sound {x : OutLive} (h : x.Bounded) : (lockStalled x).Sound :=
  ⟨⟨h.count, fun _ => ⟨rfl, rfl, rfl⟩⟩, fun on => Bool.noConfusion on, fun unlocked => absurd rfl unlocked, by simp [lockStalled]⟩

theorem stallLocked_sound (o : Fin 12) (value : Nat) {e : Ev} (h : e.st.outsSound) :
    ((reportFault .stall o.val value e).on fun t => { t with outs := modifyAt t.outs o lockStalled }).st.outsSound :=
  modifyOut_sound o (reportFault_outsHold (fun _ => sound_kept) _ _ _ e h) fun own => lockStalled_sound own.toBounded

theorem gapEnded_sound (o : Fin 12) {s : State} (h : s.outsSound) :
    (redriveOne o { s with outs := modifyAt s.outs o fun x => { x with gap := none } }).outsSound :=
  redriveOne_outsHold (fun _ => sound_kept) o (modifyOut_sound o h (sound_kept.moved _ _ _ _ _ none))

theorem loadRewritten_sound (o : Fin 12) {s : State} (h : s.outsSound) : (loadRewritten o s).outsSound :=
  redriveOne_outsHold (fun _ => sound_kept) o <| clearUnlatched_outsHold _ _ <| clearUnlatched_outsHold _ _ <| clearUnlatched_outsHold _ _ <|
    modifyOut_sound o h fun _ => rewritten_sound _

end Sys2Proof.Machine
end

section
/-! PROOFS. The protection of the outputs at every step: requests, the router, and each command (R91, R96, R99, R101, R103, R108). -/

namespace Sys2Proof.Machine

/-- A part of an event that keeps every output sound. -/
abbrev BodySound (f : Ev → Ev) : Prop := BodyHolds (fun _ => OutLive.Sound) f

/-! Requests. A WRITE alone moves outputs, by what it does to the blocks (R51, R90, R130, R187). -/

theorem gaugeEntryWritten_sound (g : Fin 4) {s : State} (h : s.outsSound) : (gaugeEntryWritten g s).outsSound := by
  refine resetChannel_outsHold (fun _ => sound_kept) g ?_
  split
  · exact outsHold_of_outs (cancelTeach_outs s) h
  · exact h

theorem hubWritten_sound (field : Nat) {s : State} (h : s.outsSound) : (hubWritten field s).outsSound := by
  unfold hubWritten
  split
  · exact h
  · exact outsHold_of_outs (cancelTeach_outs s) h
  · exact h
  · exact h

theorem writeEffect_sound (table index field : Nat) : BodySound (writeEffect table index field) := fun e h => by
  unfold writeEffect
  split
  · split
    · exact setSlot_outsHold (fun _ => sound_kept) _ _ e h
    · exact h
  · split
    · show (podTimeoutWritten _ e.st).outsSound
      unfold podTimeoutWritten
      split <;> exact h
    · exact h
  · split <;> exact h
  · split
    · exact loadRewritten_sound _ h
    · exact h
  · split
    · exact gaugeEntryWritten_sound _ h
    · exact h
  · exact hubWritten_sound field h
  · exact h

/-- A service that keeps every output sound. -/
abbrev ServeSound (serve : Ev → Ev × Answer) : Prop := ∀ e : Ev, e.st.outsSound → (serve e).1.st.outsSound

theorem needLanes_sound (n : Nat) (lanes : List Lane) {serve : Ev → Ev × Answer} (h : ServeSound serve) :
    ServeSound (needLanes n lanes serve) := fun e sound => by
  unfold needLanes
  split
  · exact sound
  · exact h e sound

theorem unlessCommitting_sound {serve : Ev → Ev × Answer} (h : ServeSound serve) : ServeSound (unlessCommitting serve) := fun e sound => by
  unfold unlessCommitting
  split
  · exact sound
  · exact h e sound

theorem serveRead_sound (lanes : List Lane) : ServeSound (serveRead lanes) :=
  needLanes_sound 2 lanes fun e sound => by
    dsimp only
    split
    · split <;> exact sound
    · exact sound

theorem serveWrite_sound (lanes : List Lane) : ServeSound (serveWrite lanes) :=
  needLanes_sound 4 lanes (unlessCommitting_sound fun e sound => by
    unfold writeField
    split
    · exact writeEffect_sound _ _ _ _ sound
    · exact sound)

theorem serveOpenCurve_sound (lanes : List Lane) : ServeSound (serveOpenCurve lanes) :=
  needLanes_sound 1 lanes (unlessCommitting_sound fun e sound => by
    split
    · refine outsHold_of_outs (s := e.st) ?_ sound
      show State.outs (if _ then cancelTeach e.st else e.st) = _
      split
      · exact cancelTeach_outs e.st
      · rfl
    · exact sound)

theorem serveCloseCurve_sound (lanes : List Lane) : ServeSound (serveCloseCurve lanes) :=
  needLanes_sound 1 lanes (unlessCommitting_sound fun e sound => by
    split
    · dsimp only
      split
      · exact sound
      · split <;> exact sound
    · exact sound)

theorem serveCommit_sound (r : Requester) : ServeSound (serveCommit r) :=
  unlessCommitting_sound fun e sound => by split <;> exact sound

theorem serveReadLive_sound (lanes : List Lane) : ServeSound (serveReadLive lanes) :=
  needLanes_sound 2 lanes fun e sound => by
    split
    · exact sound
    · split <;> exact sound

theorem serveClearFaults_sound (lanes : List Lane) : ServeSound (serveClearFaults lanes) :=
  needLanes_sound 1 lanes (unlessCommitting_sound fun e sound => by split <;> exact sound)

theorem serveReadCapture_sound (lanes : List Lane) : ServeSound (serveReadCapture lanes) :=
  needLanes_sound 1 lanes fun e sound => by
    split
    · exact sound
    · exact sound
    · split <;> exact sound

theorem serveReleaseCapture_sound (lanes : List Lane) : ServeSound (serveReleaseCapture lanes) :=
  needLanes_sound 1 lanes fun e sound => by split <;> exact sound

theorem requestEvent_sound (r : Requester) (code : Nat) {serve : Ev → Ev × Answer} (h : ServeSound serve) :
    BodySound (requestEvent r code serve) := fun e sound => by
  have served := h e sound
  unfold requestEvent
  split
  · split
    · next e' status data answer => rwa [answer] at served
    · next e' answer => rwa [answer] at served
  · exact sound

theorem anyRequest_sound (r : Requester) (code : Nat) (lanes : List Lane) : BodySound (anyRequest r code lanes) := by
  unfold anyRequest
  split
  · exact requestEvent_sound r _ fun _ sound => sound
  · exact requestEvent_sound r _ (serveRead_sound lanes)
  · exact requestEvent_sound r _ (serveWrite_sound lanes)
  · exact requestEvent_sound r _ (serveOpenCurve_sound lanes)
  · exact requestEvent_sound r _ (serveCloseCurve_sound lanes)
  · exact requestEvent_sound r _ (serveCommit_sound r)
  · exact requestEvent_sound r _ (serveReadLive_sound lanes)
  · exact requestEvent_sound r _ (serveClearFaults_sound lanes)
  · exact requestEvent_sound r _ (serveReadCapture_sound lanes)
  · exact requestEvent_sound r _ (serveReleaseCapture_sound lanes)
  · exact requestEvent_sound r _ (unlessCommitting_sound fun _ sound => sound)
  · exact requestEvent_sound r _ fun _ sound => sound

/-! The router. -/

theorem arrivalActions_sound (s : State) (p : PortId) (f : Frame) : ∀ a ∈ arrivalActions s p f, BodySound a := by
  intro a mem
  have request : BodySound (frameRequest p f) := anyRequest_sound _ _ _
  have relay : ∀ out, ∀ a ∈ relayAction p out, BodySound a := relayAction_outsHold (fun _ => sound_kept) p
  unfold arrivalActions at mem
  split at mem
  · rw [List.mem_singleton.mp mem]
    exact request
  · split at mem
    · rcases List.mem_cons.mp mem with rfl | mem
      · exact request
      · exact relay f a mem
    · split at mem
      · exact relay f a mem
      · rcases List.mem_append.mp mem with mem | mem
        · exact relay _ a ((List.mem_ite_nil_left ..).mp mem).2
        · exact feedAction_outsHold (fun _ => sound_kept) _ _ _ _ a mem

theorem frameBoundary_sound (p : PortId) : BodySound (frameBoundary p) := fun e sound => by
  have bad : (badVerdict p e).st.outsSound := badVerdict_outsHold (fun _ => sound_kept) p e sound
  unfold frameBoundary
  split
  · exact setPort_outsHold p _ sound
  · exact bad
  · exact bad
  · split
    · next f _ =>
      have good : (e.on (goodVerdict p)).st.outsSound := clearUnlatched_outsHold _ _ (setPort_outsHold p _ sound)
      exact anyOrderEv_outsHold _ (arrivalActions_sound _ p f) _ good
    · exact bad

/-! Every command. -/

/-- The command keeps every output sound. -/
abbrev CommandSound (c : Instr) : Prop := ∀ s t : State, s.outsSound → exec c s = .next t → t.outsSound

/-- A command that is one event. -/
theorem commandSound_of_body {c : Instr} (f : Ev → Ev) (row : exec c = event f) (body : BodySound f) : CommandSound c := by
  intro s t sound answer
  rw [row] at answer
  obtain rfl := Host.Outcome.next.inj answer
  split
  · exact sound
  · exact finish_outsHold s (body (Ev.start s) sound)

/-- An event that does something under a condition. -/
theorem guarded_sound {p : Prop} [Decidable p] {s t : State} (sound : s.outsSound) (h : p → t.outsSound) :
    (if p then t else s).outsSound := by
  split
  · next holds => exact h holds
  · exact sound

theorem guardedEv_sound {p : Prop} [Decidable p] {e x : Ev} (sound : e.st.outsSound) (h : x.st.outsSound) :
    (if p then x else e).st.outsSound := by
  split
  · exact h
  · exact sound

/-- After a reset every output is sound (R157, R158). -/
theorem startState_sound (i : StartInputs) (s : State) : (startState i s).outsSound := fun o => by
  show OutLive.Sound (Vector.replicate 12 OutLive.reset)[o]
  rw [Fin.getElem_fin, Vector.getElem_replicate]
  exact reset_sound

theorem supplyReset_sound (i : StartInputs) (s : State) : (supplyReset i s).outsSound := by
  refine finish_outsHold _ (handOnVs_outsHold (fun _ => sound_kept) _ ?_)
  have joined : (joinState (startState i s)).outsSound :=
    outsHold_of_outs (congrArg State.outs (joinState_lessReports (startState i s)) :) (startState_sound i s)
  show State.outsSound (if s.store.valid then _ else _ : Ev).st
  split
  · exact joined
  · exact reportFault_outsHold (fun _ => sound_kept) _ _ _ _ joined

theorem transmissionCompletion_sound (p : PortId) (i : StartInputs) : CommandSound (.transmissionCompletion p i) := by
  intro s t sound answer
  have sent : BodySound (Ev.on (completeSending p)) := fun e h =>
    outsHold_of_outs (congrArg State.outs (copyReports_lessReports 16 _) :) (setPort_outsHold p _ h)
  change execTransmissionCompletion p i s = .next t at answer
  unfold execTransmissionCompletion at answer
  split at answer
  · split at answer
    · obtain rfl := Host.Outcome.next.inj answer
      exact supplyReset_sound i s
    · obtain rfl := Host.Outcome.next.inj answer
      split
      · exact sound
      · exact finish_outsHold s (sent (Ev.start s) sound)
  · obtain rfl := Host.Outcome.next.inj answer
    exact sound

theorem resetEntry_sound : CommandSound .resetEntry := by
  intro s t sound answer
  obtain rfl := Host.Outcome.next.inj answer
  split
  · exact sound
  · exact startState_sound { straps := 0, supply := 0 } s

theorem resetEnd_sound (i : StartInputs) : CommandSound (.resetEnd i) := by
  intro s t sound answer
  obtain rfl := Host.Outcome.next.inj answer
  exact guarded_sound sound fun _ => supplyReset_sound i s

/-- A request row. -/
theorem commandSound_of_request {c : Instr} (r : Requester) (code : Nat) (lanes : List Lane) (row : exec c = event (anyRequest r code lanes)) :
    CommandSound c := commandSound_of_body _ row (anyRequest_sound r code lanes)

/-- Every command keeps every output sound. -/
theorem exec_sound (c : Instr) : CommandSound c := by
  have kept : Fin 12 → MatrixKept OutLive.Sound := fun _ => sound_kept
  cases c with
  | frameBoundary p => exact commandSound_of_body _ rfl (frameBoundary_sound p)
  | transmitStart p => exact commandSound_of_body _ rfl fun _ => setPort_outsHold p _
  | transmissionCompletion p i => exact transmissionCompletion_sound p i
  | resetEntry => exact resetEntry_sound
  | resetEnd i => exact resetEnd_sound i
  | localSample a0 a1 a2 a3 => exact commandSound_of_body _ rfl fun e => updateSlots_outsHold kept _ e
  | slotAgeExpiry k => exact commandSound_of_body _ rfl fun e h => guardedEv_sound h (setSlot_outsHold kept k _ e h)
  | podTimeoutExpiry p => exact commandSound_of_body _ rfl fun e h => guardedEv_sound h (podExpired_outsHold kept p e h)
  | localPinChange i level =>
    intro _ _ sound answer
    obtain rfl := Host.Outcome.next.inj answer
    exact sound
  | debounceHoldExpiry i => exact commandSound_of_body _ rfl fun _ h => guarded_sound h fun _ => inputSettled_outsHold kept i h
  | currentSample o tens =>
    refine commandSound_of_body _ rfl fun e h => checkSample_sound o _ (evalConds_outsHold kept (affectsCurrent o) ?_)
    exact modifyOut_sound o h fun own => ⟨⟨own.count, own.dark⟩, own.driven, own.below, own.timer⟩
  | softStartCount o => exact commandSound_of_body _ rfl fun _ h => modifyOut_sound o h (countSoftStart_sound _)
  | checkWindowOpen o => exact commandSound_of_body _ rfl fun _ h => modifyOut_sound o h openWindow_sound
  | retryExpiry o => exact commandSound_of_body _ rfl fun _ h => guarded_sound h fun tripped => retryExpired_sound h tripped.1
  | fanSlewStep => exact commandSound_of_body _ rfl fun _ => fansSlewed_sound
  | stallExpiry o => exact commandSound_of_body _ rfl fun _ h => guardedEv_sound h (stallLocked_sound o _ h)
  | phaseExpiry i => exact commandSound_of_body _ rfl fun _ h => guarded_sound h fun _ => phaseExpired_outsHold kept i h
  | gapExpiry o => exact commandSound_of_body _ rfl fun _ h => guarded_sound h fun _ => gapEnded_sound o h
  | modulatorStep => exact commandSound_of_body _ rfl fun _ h => h
  | vsUpdate sample => exact commandSound_of_body _ rfl fun _ h => handOnVs_outsHold kept _ h
  | enterTimerExpiry => exact commandSound_of_body _ rfl fun _ h => guarded_sound h fun _ => enterExpired_outsHold kept h
  | restoreTimerExpiry => exact commandSound_of_body _ rfl fun _ h => guarded_sound h fun _ => restoreExpired_outsHold kept h
  | uptimeTick => exact commandSound_of_body _ rfl fun _ h => h
  | refreshExpiry =>
    exact commandSound_of_body _ rfl fun _ h => guarded_sound h fun _ => outsHold_of_outs (congrArg State.outs (stateNeed_lessReports _) :) h
  | ident r lanes => exact commandSound_of_request r 0 lanes rfl
  | read r lanes => exact commandSound_of_request r 1 lanes rfl
  | write r lanes => exact commandSound_of_request r 2 lanes rfl
  | curvePointWrite r curve field value => exact commandSound_of_request r 2 _ rfl
  | slotConfigWrite r slot field value => exact commandSound_of_request r 2 _ rfl
  | podTimeoutWrite r pod value => exact commandSound_of_request r 2 _ rfl
  | conditionWrite r entry field value => exact commandSound_of_request r 2 _ rfl
  | loadEntryWrite r output field value => exact commandSound_of_request r 2 _ rfl
  | gaugeEntryWrite r channel field value => exact commandSound_of_request r 2 _ rfl
  | detectMaskWrite r value => exact commandSound_of_request r 2 _ rfl
  | refreshWrite r value => exact commandSound_of_request r 2 _ rfl
  | teachGaugeWrite r target => exact commandSound_of_request r 2 _ rfl
  | openCurve r lanes => exact commandSound_of_request r 3 lanes rfl
  | closeCurve r lanes => exact commandSound_of_request r 4 lanes rfl
  | commit r lanes => exact commandSound_of_request r 5 lanes rfl
  | commitCompletion verified => exact commandSound_of_body _ rfl (completeCommit_outsHold kept verified)
  | readLive r lanes => exact commandSound_of_request r 6 lanes rfl
  | clearFaults r lanes => exact commandSound_of_request r 7 lanes rfl
  | readCapture r lanes => exact commandSound_of_request r 8 lanes rfl
  | releaseCapture r lanes => exact commandSound_of_request r 9 lanes rfl
  | restart r lanes => exact commandSound_of_request r 10 lanes rfl
  | teachPinChange high =>
    intro _ _ sound answer
    obtain rfl := Host.Outcome.next.inj answer
    exact sound
  | teachHoldExpiry => exact commandSound_of_body _ rfl fun _ h => guarded_sound h fun _ => teachSettled_outsHold kept h
  | teachLockoutExpiry => exact commandSound_of_body _ rfl fun _ h => h
  | windowExpiry => exact commandSound_of_body _ rfl fun _ h => guarded_sound h fun _ => outsHold_of_outs (cancelTeach_outs _) h
  | characterStart p b => exact commandSound_of_body _ rfl fun _ => setPort_outsHold p _
  | characterFault p => exact commandSound_of_body _ rfl fun _ => setPort_outsHold p _

/-- Settles O10: every command keeps every output sound, and the command queue plays no part in it. -/
theorem protectionStaysSound : Obligations.ProtectionStaysSound := by
  intro s t sound taken
  rw [state_protectionSound_iff] at sound ⊢
  unfold step at taken
  split at taken
  · obtain rfl := Host.Outcome.next.inj taken
    exact sound
  · next c rest _ => exact exec_sound c { s with pending := rest } t sound taken

end Sys2Proof.Machine
end

section
/-! PROOFS. The counts of a soft start and the wait of a check window (R97, R99). -/

namespace Sys2Proof.Machine

/-- A change of one output that leaves its drive needs no STATE report. -/
theorem afterNeed_modifyOut_still (o : Fin 12) (f : OutLive → OutLive) (s : State) (keeps : ∀ x, (f x).drive = x.drive) :
    afterNeed s { s with outs := modifyAt s.outs o f } = { s with outs := modifyAt s.outs o f } :=
  afterNeed_still (drives_modifyOut o f s keeps) rfl rfl

theorem countSoftStart_none {e : LoadEntry} {x : OutLive} (h : x.softStart = none) : countSoftStart e x = x := by
  unfold countSoftStart
  rw [h]

theorem countSoftStart_some {e : LoadEntry} {x : OutLive} {k : Nat} (h : x.softStart = some k) : countSoftStart e x =
    if k + 1 < e.ramp then { x with duty := 25 + 75 * (k + 1) / e.ramp, softStart := some (k + 1) }
    else { x with duty := 100, softStart := none } := by
  unfold countSoftStart rampDuty
  rw [h]
  by_cases climbs : k + 1 < e.ramp
  · simp only [climbs, if_true]
  · simp only [climbs, if_false]

theorem openWindow_waiting {x : OutLive} {ms : Nat} (h : x.window = .waiting ms) : openWindow x = { x with window := .opened } := by
  unfold openWindow
  rw [h]

theorem openWindow_other {x : OutLive} (h : ∀ ms, x.window ≠ .waiting ms) : openWindow x = x := by
  unfold openWindow
  split
  · next ms waits => exact absurd waits (h ms)
  · rfl
  · rfl

theorem countSoftStart_drive (e : LoadEntry) (x : OutLive) : (countSoftStart e x).drive = x.drive := by
  unfold countSoftStart
  split <;> rfl

theorem openWindow_drive (x : OutLive) : (openWindow x).drive = x.drive := by
  unfold openWindow
  split <;> rfl

theorem exec_softStartCount {s : State} (o : Fin 12) (running : s.inReset = false) :
    exec (.softStartCount o) s = .next { s with outs := modifyAt s.outs o (countSoftStart s.tables.loads[o]) } :=
  (event_running _ s running).trans (congrArg Host.Outcome.next (afterNeed_modifyOut_still o _ s (countSoftStart_drive _)))

theorem exec_checkWindowOpen {s : State} (o : Fin 12) (running : s.inReset = false) :
    exec (.checkWindowOpen o) s = .next { s with outs := modifyAt s.outs o openWindow } :=
  (event_running _ s running).trans (congrArg Host.Outcome.next (afterNeed_modifyOut_still o _ s openWindow_drive))

/-- Settles O40: neither command moves a drive, so each is its change of the one output. -/
theorem softStartsAndWindowsRun : Obligations.SoftStartsAndWindowsRun := by
  intro s o running x ramp
  rw [exec_softStartCount o running, exec_checkWindowOpen o running]
  refine ⟨fun idle => ?_, fun k soft => ?_, fun waits => ?_, fun ms waits => ?_⟩
  · rw [modifyAt_still _ _ (countSoftStart_none idle)]
  · rw [modifyAt, countSoftStart_some soft]
  · rw [modifyAt_still _ _ (openWindow_other waits)]
  · rw [modifyAt, openWindow_waiting waits]

end Sys2Proof.Machine
end

section
/-! PROOFS. READ-LIVE: its checks, and the lanes of each item (R109, R128, R147, R179). -/

namespace Sys2Proof.Machine

/-! Lanes. -/

/-- A number below 4096 is what its lane reads. -/
theorem laneOf_small {n : Nat} (h : n < 4096) : (laneOf n).toNat = n := (laneOf_toNat n).trans (Nat.mod_eq_of_lt h)

theorem laneOf_add (a b : Nat) : laneOf (a + b) = laneOf a + laneOf b := BitVec.ofNat_add a b

theorem laneOf_bitOf (b : Bool) : laneOf (bitOf b) = if b then 1 else 0 := by cases b <;> rfl

theorem laneOf_mul_bitOf (n : Nat) (b : Bool) : laneOf (n * bitOf b) = if b then laneOf n else 0 := by
  cases b
  · rfl
  · exact congrArg laneOf (Nat.mul_one n)

theorem bitOf_mul (b : Bool) (n : Nat) : bitOf b * n = if b then n else 0 := by
  cases b
  · exact Nat.zero_mul n
  · exact Nat.one_mul n

/-! The request. -/

/-- READ-LIVE of two lanes and more: an item past the last is BADVALUE, an index outside its item BADINDEX. -/
theorem serveReadLive_cons (item index : Lane) (more : List Lane) (e : Ev) : serveReadLive (item :: index :: more) e =
    if 8 < item.toNat then refuse .badValue e
    else match liveLanes e.st item.toNat index.toNat with
      | some l => (e, some (.ok, l))
      | none => refuse .badIndex e := by
  unfold serveReadLive needLanes
  rw [if_neg (by simp)]
  rfl

theorem exec_readLive_short {s : State} (r : Requester) {lanes : List Lane} (takes : s.takesRequests) (short : lanes.length < 2) :
    exec (.readLive r lanes) s = .next (answered s r 6 1 []) := event_refused s r 6 _ .badReq takes (if_pos short) (by decide)

theorem exec_readLive_badValue {s : State} (r : Requester) (item index : Lane) (more : List Lane) (takes : s.takesRequests)
    (large : 8 < item.toNat) : exec (.readLive r (item :: index :: more)) s = .next (answered s r 6 5 []) :=
  event_refused s r 6 _ .badValue takes ((serveReadLive_cons item index more _).trans (if_pos large)) (by decide)

theorem exec_readLive_badIndex {s : State} (r : Requester) (item index : Lane) (more : List Lane) (takes : s.takesRequests)
    (known : item.toNat ≤ 8) (outside : liveLanes s item.toNat index.toNat = none) :
    exec (.readLive r (item :: index :: more)) s = .next (answered s r 6 3 []) := by
  refine event_refused s r 6 _ .badIndex takes ?_ (by decide)
  rw [serveReadLive_cons, if_neg (Nat.not_lt.mpr known)]
  simp only [Ev.start, outside]

theorem exec_readLive_answered {s : State} (r : Requester) (item index : Lane) (more : List Lane) {data : List Lane} (takes : s.takesRequests)
    (known : item.toNat ≤ 8) (live : liveLanes s item.toNat index.toNat = some data) :
    exec (.readLive r (item :: index :: more)) s = .next (answered s r 6 0 data) := by
  refine (event_request s s r 6 _ .ok data takes takes.copied ?_ (by decide)).trans ?_
  · rw [serveReadLive_cons, if_neg (Nat.not_lt.mpr known)]
    simp only [Ev.start, live]
  · rw [afterNeed_still rfl rfl rfl]
    rfl

/-! The items (R179). -/

/-- The number of indices of each item (R179). -/
def liveCount (item : Nat) : Option Nat := [16, 4, 12, 1, 16, 10, 9, 1, 1][item]?

/-- An index past its item's last has no lanes. -/
theorem liveLanes_outside (s : State) {item index n : Nat} (count : liveCount item = some n) (past : n ≤ index) :
    item ≤ 8 ∧ liveLanes s item index = none := by
  have entries : ∀ {α : Type} {m : Nat} (v : Vector α m) (f : α → List Lane), m = n → (v[index]?).map f = none := fun v f same => by
    rw [Vector.getElem?_eq_none (same ▸ past)]
    rfl
  have sole : ∀ l : Option (List Lane), 1 = n → (if index = 0 then l else none) = none := fun l same => if_neg (by omega)
  match item with
  | 0 | 1 | 4 | 5 | 6 => exact ⟨by omega, entries _ _ (Option.some.inj count)⟩
  | 2 => exact ⟨by omega, dif_neg (by have : 12 = n := Option.some.inj count; omega)⟩
  | 3 | 7 | 8 => exact ⟨by omega, sole _ (Option.some.inj count)⟩
  | k + 9 => exact absurd count nofun

/-- An entry of a table, as its lanes read. -/
theorem entryLanes {α : Type} {n : Nat} (v : Vector α n) (f : α → List Lane) (k : Fin n) : (v[k.val]?).map f = some (f v[k]) := by
  rw [Vector.getElem?_eq_getElem k.isLt]
  rfl

theorem outputLanes_eq (e : LoadEntry) (x : OutLive) : outputLanes e x =
    [laneOf ((if x.drive then 2048 else 0) + x.protection.code * 512 + x.trips * 128 + (if e.kind = .fan then x.actual else x.duty)),
      laneOf (x.current / 10)] := by
  rw [outputLanes, bitOf_mul, shownDuty]

theorem gaugeLanes_eq (x : GaugeLive) : gaugeLanes x =
    [laneOf (x.state.code * 1024 + x.p), laneOf (x.f / 4096), laneOf (x.f % 4096), laneOf ((if x.underdrive then 2048 else 0) + x.d)] := by
  rw [gaugeLanes, bitOf_mul]

/-- The four marks of a failed lamp, one bit each (R128). -/
theorem failBits_eq (a b c d : Bool) : laneOf (bitOf a + 2 * bitOf b + 4 * bitOf c + 8 * bitOf d) =
    (if a then 1 else 0) + (if b then 2 else 0) + (if c then 4 else 0) + (if d then 8 else 0) := by
  rw [laneOf_add, laneOf_add, laneOf_add, laneOf_bitOf, laneOf_mul_bitOf, laneOf_mul_bitOf, laneOf_mul_bitOf]
  rfl

theorem flashLanes_eq (f : FlashState) : flashLanes f =
    [laneOf (f.left.phase.code + 8 * f.right.phase.code + 64 * f.hazard.phase.code),
      (if f.left.failLeft then 1 else 0) + (if f.right.failRight then 2 else 0) + (if f.hazard.failLeft then 4 else 0)
        + (if f.hazard.failRight then 8 else 0)] :=
  congrArg (fun l => [_, l]) (failBits_eq _ _ _ _)

/-- Settles O58: each item's lanes are the model's, with its codes written out. -/
theorem readLiveShowsTheHub : Obligations.ReadLiveShowsTheHub := by
  unfold Obligations.ReadLiveShowsTheHub
  intro s r lanes takes answers refuses
  have entry : ∀ (item : Lane) {n : Nat} (k : Fin n) (data : List Lane), n < 4096 → item.toNat ≤ 8 →
      liveLanes s item.toNat k.val = some data → answers item (laneOf k.val) data := fun item n k data small known live more is => by
    rw [is]
    exact exec_readLive_answered r _ _ more takes known ((laneOf_small (k.isLt.trans small)).symm ▸ live)
  refine ⟨exec_readLive_short r takes, fun item index large more is => is ▸ exec_readLive_badValue r item index more takes large,
    fun item index out more is => ?_, fun k => ?_, fun g => ?_, fun o => ?_, ?_, fun c => ?_, fun c => ?_, fun p => ?_, ?_, ?_⟩
  · obtain ⟨n, count, past⟩ := out
    obtain ⟨known, none⟩ := liveLanes_outside s count past
    exact is ▸ exec_readLive_badIndex r item index more takes known none
  · refine entry 0 k _ (by decide) (by decide) ((entryLanes s.slots _ k).trans ?_)
    cases s.slots[k].state <;> rfl
  · refine entry 1 g _ (by decide) (by decide) ((entryLanes s.gauges _ g).trans ?_)
    rw [gaugeLanes_eq]
    cases s.gauges[g].state <;> rfl
  · refine entry 2 o _ (by decide) (by decide) ((dif_pos o.isLt).trans ?_)
    rw [outputLanes_eq]
    cases s.outs[o].protection <;> rfl
  · refine entry 3 (0 : Fin 1) _ (by decide) (by decide) ?_
    exact congrArg (fun l => some (twoLanes s.supply.vs ++ [laneOf s.supply.shed, l])) (laneOf_bitOf s.supply.ign)
  · refine entry 4 c _ (by decide) (by decide) ((entryLanes s.conds _ c).trans ?_)
    rw [laneOf_add, laneOf_bitOf, laneOf_mul_bitOf]
    rfl
  · exact entry 5 c _ (by decide) (by decide) (entryLanes s.faults.flags _ c)
  · refine entry 6 p _ (by decide) (by decide) ((entryLanes s.pods _ p).trans ?_)
    rw [laneOf_bitOf]
  · intro phase
    have code : ∀ x : FlashSource, phase x = x.phase.code := fun x => by
      dsimp only [phase]
      cases x.phase <;> rfl
    rw [code, code, code]
    refine entry 7 (0 : Fin 1) _ (by decide) (by decide) ?_
    exact congrArg some (flashLanes_eq s.flash)
  · exact entry 8 (0 : Fin 1) _ (by decide) (by decide) rfl

end Sys2Proof.Machine
end

section
/-! PROOFS. STALL_EXPIRY: the report, its links, then the lock (R108, R165; log 9). -/

namespace Sys2Proof.Machine

/-- The hub with a fan locked (R108). -/
def fanLocked (o : Fin 12) (s : State) : State := { s with outs := modifyAt s.outs o lockStalled }

/-- The report of a stall, then the lock (log 9). -/
def stallExpired (o : Fin 12) (s : State) : Ev := (reportFault .stall o.val s.outs[o].current (Ev.start s)).on (fanLocked o)

theorem exec_stallExpiry_running {s : State} {o : Fin 12} (running : s.inReset = false) (runs : s.outs[o].stall ≠ none) :
    exec (.stallExpiry o) s = .next (finish s (stallExpired o s)) :=
  (event_running _ s running).trans
    (congrArg (fun e => Host.Outcome.next (finish s e)) (if_pos (Option.isSome_iff_ne_none.mpr runs)))

theorem exec_stallExpiry_stopped {s : State} {o : Fin 12} (running : s.inReset = false) (stopped : s.outs[o].stall = none) :
    exec (.stallExpiry o) s = .next s := by
  have nothing : ¬ s.outs[o].stall.isSome = true := fun runs => Option.isSome_iff_ne_none.mp runs stopped
  refine (event_running _ s running).trans (congrArg Host.Outcome.next ?_)
  exact (congrArg (finish s) (if_neg nothing)).trans (afterNeed_still rfl rfl rfl)

/-- Nothing but loads, flags, captures and reports differs. -/
theorem stallExpired_lessLoads (o : Fin 12) (s : State) : (stallExpired o s).st.lessLoads = s.lessLoads :=
  reportFault_lessLoads .stall o.val _ (Ev.start s) (by decide)

/-- Whatever the links of the report did, the fan ends locked. -/
theorem stallExpired_locked (o : Fin 12) (s : State) : ∃ x, (stallExpired o s).st.outs[o] = lockStalled x :=
  ⟨_, getElem_modifyAt_self _ _ _⟩

/-- A stall whose report no link hears of (R108, R160, R165). -/
theorem stallExpired_asleep (o : Fin 12) {s : State} (asleep : wakesMatrix s (.fault .stall) = false) :
    let t := (stallExpired o s).st
    t.outs = modifyAt s.outs o lockStalled ∧ t.flash = s.flash ∧
      t.faults.isSet .stall o.val = (s.faults.isSet .stall o.val || s.tables.hub.detects .stall) ∧
      (t.faults.capture, t.faults.lost) = captured s .stall o.val s.outs[o].current := by
  obtain ⟨outs, flash⟩ := reportFault_asleep .stall o.val s.outs[o].current (Ev.start s) (by decide) asleep
  exact ⟨congrArg (fun v => modifyAt v o lockStalled) outs, flash,
    reportFault_asleep_isSet .stall o.val _ (Ev.start s) o.isLt (by decide) asleep,
    reportFault_captured .stall o.val _ (Ev.start s) (by decide)⟩

/-- Settles O43: the lock follows the report, so it stands whatever links did; without links the report moves no output. -/
theorem stalledFansLock : Obligations.StalledFansLock := by
  unfold Obligations.StalledFansLock
  intro s o running
  refine ⟨exec_stallExpiry_stopped running, fun runs => ⟨_, exec_stallExpiry_running running runs, ?_⟩⟩
  have ended := finish_lessReports s (stallExpired o s)
  have outs : (finish s (stallExpired o s)).outs = (stallExpired o s).st.outs := (congrArg State.outs ended :)
  have rest : (finish s (stallExpired o s)).lessReports.lessLoads = s.lessReports.lessLoads :=
    (congrArg State.lessLoads ended).trans (congrArg State.lessReports (stallExpired_lessLoads o s) :)
  obtain ⟨x, locked⟩ := stallExpired_locked o s
  rw [outs, finish_faults_eq, locked]
  refine ⟨rfl, rfl, rfl, rfl, (congrArg State.gauges rest :), (congrArg State.conds rest :), ?_, fun asleep => ?_⟩
  · exact (congrArg State.bystanders rest :)
  · obtain ⟨made, flash, flag, captures⟩ := stallExpired_asleep o asleep
    exact ⟨flag, captures, (congrArg State.flash ended :).trans flash, made⟩

end Sys2Proof.Machine
end

section
/-! PROOFS. FAN_SLEW_STEP: the actual duty of a fan and the drive that follows it (R96, R97, R99, R107). -/

namespace Sys2Proof.Machine

/-! The drive computed anew (R96). -/

/-- What a recomputed drive leaves of an output: demand, levels, protection, sample and gap. -/
theorem redrive_standing (e : LoadEntry) (flash : FlashState) (ign : Bool) (shed : Nat) (x : OutLive) :
    let y := redrive e flash ign shed x
    y.actual = x.actual ∧ (y.demand, y.fanLevel, y.fanMemory, y.effective, y.protection, y.trips, y.retry, y.current, y.openGone, y.gap) =
      (x.demand, x.fanLevel, x.fanMemory, x.effective, x.protection, x.trips, x.retry, x.current, x.openGone, x.gap) := by
  rcases redrive_cases e flash ign shed x with ⟨is, _⟩ | ⟨is, _, _⟩ | ⟨soft, is, _⟩ | is <;> rw [is] <;> exact ⟨rfl, rfl⟩

/-- A drive that is as requested stands, at 100 % without a soft start where the flasher serves a stop/turn lamp (R97). -/
theorem redrive_asRequested {e : LoadEntry} {flash : FlashState} {ign : Bool} {shed : Nat} {x : OutLive}
    (settled : wantsDrive e flash ign shed x = x.drive) : redrive e flash ign shed x =
      if x.drive = true ∧ e.kind = .stopturn ∧ flash.context e.side = true then { x with duty := 100, softStart := none } else x := by
  unfold redrive
  rw [settled]
  by_cases on : x.drive = true
  · simp only [on, if_true, true_and]
  · simp [on]

/-- The window after a drive-on without a soft start (R99; log 24). -/
def maskWindow (mask : Nat) : CheckWindow := if mask = 0 then .opened else .waiting mask

theorem windowWait_hard (e : LoadEntry) : windowWait e false = e.mask := Nat.max_zero e.mask

/-- A fan is driven by its actual duty (R96, R97, R107). -/
theorem redrive_normalFan {e : LoadEntry} (flash : FlashState) (ign : Bool) (shed : Nat) {x : OutLive} (fan : e.kind = .fan)
    (normal : x.protection = .normal) : redrive e flash ign shed x =
      if 0 < x.actual then (if x.drive then x else { x with drive := true, softStart := none, window := maskWindow e.mask })
      else if x.drive then driveOff x else x := by
  have soft : softStarts e flash = false := by
    unfold softStarts
    rw [fan, Bool.and_false]
  have wants : wantsDrive e flash ign shed x = decide (0 < x.actual) := by
    unfold wantsDrive requested
    rw [fan, decide_eq_true normal, Bool.and_true]
  unfold redrive
  rw [wants, soft, driveOn, windowWait_hard]
  simp only [fan, decide_eq_true_eq, reduceCtorEq, false_and, if_false, if_true, Bool.false_eq_true]
  rfl

/-! The slew step (R107). -/

/-- The hub with the duties of its fans moved. -/
def fansMoved (s : State) : State := { s with outs := tabulate fun o => slewOutput s.tables.hub s.tables.loads[o] s.outs[o] }

theorem exec_fanSlewStep {s : State} (running : s.inReset = false) : exec .fanSlewStep s = .next (afterNeed s (redriveAll (fansMoved s))) :=
  event_running _ s running

theorem fansSlewed_out (s : State) (o : Fin 12) : (afterNeed s (redriveAll (fansMoved s))).outs[o] =
    redrive s.tables.loads[o] s.flash s.supply.ign s.supply.shed (slewOutput s.tables.hub s.tables.loads[o] s.outs[o]) := by
  have outs : (afterNeed s (redriveAll (fansMoved s))).outs = (redriveAll (fansMoved s)).outs :=
    (congrArg State.outs (afterNeed_lessReports s _) :)
  rw [outs, redriveAll_out]
  exact congrArg (redrive _ _ _ _) (getElem_tabulate_fin _ o)

theorem slewOutput_fan {hub : HubTable} {e : LoadEntry} {x : OutLive} (fan : e.kind = .fan) (normal : x.protection = .normal) :
    slewOutput hub e x = { x with actual := slewed hub.fanSlew (targetDuty hub x.effective) x.actual } := if_pos ⟨fan, normal⟩

theorem slewOutput_other {hub : HubTable} {e : LoadEntry} {x : OutLive} (other : e.kind ≠ .fan ∨ x.protection ≠ .normal) :
    slewOutput hub e x = x := if_neg (not_and_or.mpr other)

theorem slewOutput_standing (hub : HubTable) (e : LoadEntry) (x : OutLive) :
    let y := slewOutput hub e x
    (y.demand, y.fanLevel, y.fanMemory, y.effective, y.protection, y.trips, y.retry, y.current, y.openGone, y.gap) =
      (x.demand, x.fanLevel, x.fanMemory, x.effective, x.protection, x.trips, x.retry, x.current, x.openGone, x.gap) := by
  unfold slewOutput
  split <;> rfl

/-- Settles O42: the step moves duties of fans in NORMAL alone, and each drive is computed from what it left. -/
theorem fansSlewTowardTheirLevel : Obligations.FansSlewTowardTheirLevel := by
  unfold Obligations.FansSlewTowardTheirLevel
  intro s running
  refine ⟨_, exec_fanSlewStep running, ?_, fun o fan normal => ?_, fun o other => ?_, fun o => ?_⟩
  · exact (congrArg (fun w : State => { w with outs := s.outs }) (afterNeed_lessReports s (redriveAll (fansMoved s))) :)
  · intro x mask target actual
    rw [fansSlewed_out, slewOutput_fan fan normal]
    exact redrive_normalFan (x := { x with actual := actual }) _ _ _ fan normal
  · rw [fansSlewed_out, slewOutput_other other]
    exact ⟨(redrive_standing _ _ _ _ _).1, redrive_asRequested⟩
  · rw [fansSlewed_out]
    exact (redrive_standing _ _ _ _ _).2.trans (slewOutput_standing _ _ _)

end Sys2Proof.Machine
end

section
/-! PROOFS. RETRY_EXPIRY and GAP_EXPIRY: the end of a dark time (R96, R97, R99, R102, R122, R124). -/

namespace Sys2Proof.Machine

/-! The drive of an output that is dark. -/

theorem redrive_undriven {e : LoadEntry} {flash : FlashState} {ign : Bool} {shed : Nat} {x : OutLive}
    (unwanted : wantsDrive e flash ign shed x = false) (off : x.drive = false) : redrive e flash ign shed x = x := by
  unfold redrive
  simp [unwanted, off]

theorem redrive_driveOn {e : LoadEntry} {flash : FlashState} {ign : Bool} {shed : Nat} {x : OutLive}
    (wanted : requested e flash ign shed x = true) (normal : x.protection = .normal) (off : x.drive = false) :
    redrive e flash ign shed x = driveOn e (softStarts e flash) x := by
  have wants : wantsDrive e flash ign shed x = true := by
    unfold wantsDrive
    rw [wanted, decide_eq_true normal, Bool.and_true]
  unfold redrive
  simp [wants, off]

/-- A drive-on with a soft start where there is a ramp (R97, R99). -/
def rampedOn (e : LoadEntry) (x : OutLive) : OutLive :=
  { x with
    drive := true
    duty := if e.ramp = 0 then 100 else 25
    softStart := if e.ramp = 0 then none else some 0
    window := maskWindow (max e.mask (e.ramp * 10)) }

/-- A drive-on at 100 % without a soft start (R97, R99). -/
def fullOn (e : LoadEntry) (x : OutLive) : OutLive := { x with drive := true, duty := 100, softStart := none, window := maskWindow e.mask }

theorem driveOn_full {e : LoadEntry} (x : OutLive) (lamp : e.kind ≠ .fan) : driveOn e false x = fullOn e x := by
  unfold driveOn
  rw [windowWait_hard]
  simp only [lamp, if_false, Bool.false_eq_true]
  rfl

/-- A drive-on where only the ramp decides on a soft start. -/
theorem redrive_ramped {e : LoadEntry} {flash : FlashState} {ign : Bool} {shed : Nat} {x : OutLive}
    (wanted : requested e flash ign shed x = true) (normal : x.protection = .normal) (off : x.drive = false) (lamp : e.kind ≠ .fan)
    (soft : softStarts e flash = decide (e.ramp ≠ 0)) : redrive e flash ign shed x = rampedOn e x := by
  rw [redrive_driveOn wanted normal off, soft]
  by_cases flat : e.ramp = 0
  · have hard : decide (e.ramp ≠ 0) = false := by simp [flat]
    rw [hard, driveOn_full x lamp]
    simp [fullOn, rampedOn, flat]
  · have ramped : decide (e.ramp ≠ 0) = true := decide_eq_true flat
    have start : rampDuty e.ramp 0 = 25 := (if_pos (Nat.pos_of_ne_zero flat)).trans (by simp)
    rw [ramped, driveOn, start]
    simp [rampedOn, windowWait, maskWindow, lamp, flat]

theorem softStarts_lamp {e : LoadEntry} (flash : FlashState) (kind : e.kind = .lamp ∨ e.kind = .stop) :
    softStarts e flash = decide (e.ramp ≠ 0) := by
  unfold softStarts
  rcases kind with kind | kind <;> rw [kind] <;> exact Bool.and_true _

theorem softStarts_stopturn {e : LoadEntry} {flash : FlashState} (kind : e.kind = .stopturn) (brake : flash.context e.side = false) :
    softStarts e flash = decide (e.ramp ≠ 0) := by
  unfold softStarts
  rw [kind, brake]
  exact Bool.and_true _

theorem softStarts_flashed {e : LoadEntry} {flash : FlashState}
    (kind : e.kind = .indicator ∨ (e.kind = .stopturn ∧ flash.context e.side = true)) : softStarts e flash = false := by
  unfold softStarts
  rcases kind with kind | ⟨kind, context⟩
  · rw [kind]
    exact Bool.and_false _
  · rw [kind, context]
    exact Bool.and_false _

/-! What is requested (R92 to R94, R122, R124). -/

theorem domainAllows_of {e : LoadEntry} {ign : Bool} (h : e.domain = .always ∨ ign = true) : domainAllows e ign = true := by
  rw [domainAllows_eq]
  simpa using h

theorem requested_lamp {e : LoadEntry} (flash : FlashState) {ign : Bool} {shed : Nat} {x : OutLive} (kind : e.kind = .lamp ∨ e.kind = .stop)
    (demand : x.demand = true) (domain : e.domain = .always ∨ ign = true) (unshed : e.shedClass = 0 ∨ shed + e.shedClass < 4) :
    requested e flash ign shed x = true := by
  have held : isShed e shed = false := by
    unfold isShed
    rw [Bool.and_eq_false_iff, decide_eq_false_iff_not, decide_eq_false_iff_not]
    omega
  unfold requested
  rcases kind with kind | kind <;> rw [kind] <;> simp [demand, domainAllows_of domain, held]

theorem requested_brake {e : LoadEntry} {flash : FlashState} {ign : Bool} (shed : Nat) {x : OutLive} (kind : e.kind = .stopturn)
    (brake : flash.context e.side = false) (demand : x.demand = true) (domain : e.domain = .always ∨ ign = true) :
    requested e flash ign shed x = true := by
  unfold requested
  rw [kind]
  simp [brake, demand, domainAllows_of domain]

theorem requested_flashed {e : LoadEntry} {flash : FlashState} (ign : Bool) (shed : Nat) {x : OutLive}
    (kind : e.kind = .indicator ∨ (e.kind = .stopturn ∧ flash.context e.side = true ∧ x.gap = none)) :
    requested e flash ign shed x = flash.lit e.side := by
  unfold requested
  rcases kind with kind | ⟨kind, context, gap⟩
  · rw [kind]
  · rw [kind]
    simp [context, gap]

/-- An output in a lit flash is driven at 100 % with a fresh mask (R97, R99, R122). -/
theorem redrive_lit {e : LoadEntry} {flash : FlashState} {ign : Bool} {shed : Nat} {x : OutLive}
    (kind : e.kind = .indicator ∨ (e.kind = .stopturn ∧ flash.context e.side = true ∧ x.gap = none)) (lit : flash.lit e.side = true)
    (normal : x.protection = .normal) (off : x.drive = false) : redrive e flash ign shed x = fullOn e x := by
  have lamp : e.kind ≠ .fan := by rcases kind with kind | ⟨kind, _⟩ <;> rw [kind] <;> decide
  rw [redrive_driveOn ((requested_flashed ign shed kind).trans lit) normal off,
    softStarts_flashed (kind.imp_right fun h => ⟨h.1, h.2.1⟩), driveOn_full x lamp]

/-! The two commands. -/

/-- An output at the end of its retry time (R102). -/
def OutLive.retried (x : OutLive) : OutLive := { x with protection := .normal, retry := none }

/-- An output at the end of its changeover gap (R124). -/
def OutLive.gapEnded (x : OutLive) : OutLive := { x with gap := none }

/-- The drive of this output computed anew from what `f` makes of it. -/
def outRedriven (o : Fin 12) (f : OutLive → OutLive) (s : State) : State :=
  { s with outs := s.outs.set o (redrive s.tables.loads[o] s.flash s.supply.ign s.supply.shed (f s.outs[o])) }

theorem redriveOne_modifyAt (o : Fin 12) (f : OutLive → OutLive) (s : State) :
    redriveOne o { s with outs := modifyAt s.outs o f } = outRedriven o f s :=
  congrArg (fun v => { s with outs := v }) (modifyAt_modifyAt s.outs o f _)

/-- Where the drive stays off, the change is all. -/
theorem afterNeed_undriven (o : Fin 12) {f : OutLive → OutLive} {s : State} (keeps : ∀ x, (f x).drive = x.drive)
    (same : redrive s.tables.loads[o] s.flash s.supply.ign s.supply.shed (f s.outs[o]) = f s.outs[o]) :
    afterNeed s (outRedriven o f s) = { s with outs := s.outs.set o (f s.outs[o]) } := by
  rw [outRedriven, same]
  exact afterNeed_modifyOut_still o f s keeps

theorem exec_retryExpiry_made {s : State} {o : Fin 12} (running : s.inReset = false) (tripped : s.outs[o].protection = .tripped)
    (runs : s.outs[o].retry ≠ none) : exec (.retryExpiry o) s = .next (afterNeed s (outRedriven o OutLive.retried s)) := by
  refine (event_running _ s running).trans (congrArg (fun t => Host.Outcome.next (afterNeed s t)) ?_)
  exact (if_pos ⟨tripped, Option.isSome_iff_ne_none.mpr runs⟩).trans (redriveOne_modifyAt o OutLive.retried s)

theorem exec_retryExpiry_still {s : State} {o : Fin 12} (running : s.inReset = false)
    (idle : s.outs[o].protection ≠ .tripped ∨ s.outs[o].retry = none) : exec (.retryExpiry o) s = .next s := by
  have nothing : ¬ (s.outs[o].protection = .tripped ∧ s.outs[o].retry.isSome = true) := fun ⟨tripped, runs⟩ =>
    idle.elim (fun other => other tripped) (Option.isSome_iff_ne_none.mp runs)
  refine (event_running _ s running).trans (congrArg Host.Outcome.next ?_)
  exact (congrArg (afterNeed s) (if_neg nothing)).trans (afterNeed_still rfl rfl rfl)

theorem exec_gapExpiry_made {s : State} {o : Fin 12} (running : s.inReset = false) (runs : s.outs[o].gap ≠ none) :
    exec (.gapExpiry o) s = .next (afterNeed s (outRedriven o OutLive.gapEnded s)) := by
  refine (event_running _ s running).trans (congrArg (fun t => Host.Outcome.next (afterNeed s t)) ?_)
  exact (if_pos (Option.isSome_iff_ne_none.mpr runs)).trans (redriveOne_modifyAt o OutLive.gapEnded s)

theorem exec_gapExpiry_still {s : State} {o : Fin 12} (running : s.inReset = false) (idle : s.outs[o].gap = none) :
    exec (.gapExpiry o) s = .next s := by
  have nothing : ¬ s.outs[o].gap.isSome = true := fun runs => Option.isSome_iff_ne_none.mp runs idle
  refine (event_running _ s running).trans (congrArg Host.Outcome.next ?_)
  exact (congrArg (afterNeed s) (if_neg nothing)).trans (afterNeed_still rfl rfl rfl)

/-- Settles O41: either command computes one drive, of an output that is NORMAL and dark. -/
theorem darkTimesEndInAFreshDrive : Obligations.DarkTimesEndInAFreshDrive := by
  unfold Obligations.DarkTimesEndInAFreshDrive
  refine ⟨fun s o running => ?_, fun s o running => ?_⟩
  · intro x e y
    refine ⟨exec_retryExpiry_still running, fun tripped runs off => ?_⟩
    rw [exec_retryExpiry_made running tripped runs]
    have driven : ∀ {z : OutLive}, redrive e s.flash s.supply.ign s.supply.shed y = z →
        afterNeed s (outRedriven o OutLive.retried s) = afterNeed s { s with outs := s.outs.set o z } := fun is =>
      congrArg (fun z => afterNeed s { s with outs := s.outs.set o z }) is
    refine ⟨fun unrequested => ?_, fun kind demand domain unshed => ?_, fun kind brake demand domain => ?_, fun lit kind => ?_,
      fun fan turns => ?_⟩
    · have unwanted : wantsDrive e s.flash s.supply.ign s.supply.shed y = false := by rw [wantsDrive, unrequested, Bool.false_and]
      exact congrArg _ (afterNeed_undriven o (fun _ => rfl) (redrive_undriven unwanted off))
    · have lamp : e.kind ≠ .fan := by rcases kind with kind | kind <;> rw [kind] <;> decide
      exact congrArg _ (driven (redrive_ramped (requested_lamp s.flash kind (x := y) demand domain unshed) rfl off lamp
        (softStarts_lamp s.flash kind)))
    · exact congrArg _ (driven (redrive_ramped (requested_brake _ kind brake (x := y) demand domain) rfl off (kind.trans_ne (by decide))
        (softStarts_stopturn kind brake)))
    · exact congrArg _ (driven (redrive_lit kind lit rfl off))
    · refine congrArg _ (driven ((redrive_normalFan s.flash _ _ fan rfl).trans ((if_pos turns).trans (if_neg ?_))))
      exact Bool.eq_false_iff.mp off
  · intro x e
    refine ⟨exec_gapExpiry_still running, fun runs kind context off => ?_⟩
    rw [exec_gapExpiry_made running runs]
    have flashed : e.kind = .indicator ∨ (e.kind = .stopturn ∧ s.flash.context e.side = true ∧ x.gapEnded.gap = none) :=
      .inr ⟨kind, context, rfl⟩
    refine ⟨fun dark => ?_, fun lit normal => ?_⟩
    · have unwanted : wantsDrive e s.flash s.supply.ign s.supply.shed x.gapEnded = false := by
        rw [wantsDrive, requested_flashed _ _ flashed, Bool.and_eq_false_iff, decide_eq_false_iff_not]
        exact dark
      exact congrArg _ (afterNeed_undriven o (fun _ => rfl) (redrive_undriven unwanted off))
    · exact congrArg (fun z => Host.Outcome.next (afterNeed s { s with outs := s.outs.set o z })) (redrive_lit flashed lit normal off)

end Sys2Proof.Machine
end

section
/-! PROOFS. LOAD_ENTRY_WRITE: the field, the reset of the output, and the drive the flasher gives it (R88, R89, R90, R127). -/

namespace Sys2Proof.Machine

/-! The field (R88, R89, R178). -/

theorem neverShed_iff (k : LoadKind) : k.neverShed = true ↔ k = .stop ∨ k = .indicator ∨ k = .stopturn := by cases k <;> decide

theorem writeField_load (t : Tables) {index : Nat} (field v : Nat) (o : Fin 12) (h : index = o.val) :
    t.writeField 6 index field v = (t.loads[o].writeField field v).map fun e => { t with loads := t.loads.set o e } := by
  subst h
  unfold Tables.writeField
  simp only [writeEntry_fin, Option.map_map]
  rfl

theorem loadWrite_field {l e : LoadEntry} {field v : Nat} (taken : l.writeField field v = some e) : field < 10 :=
  (List.getElem?_eq_some_iff.mp ((loadWrite l field v).reads e taken)).1

/-- A write of the kind sets the kind's number, and the shed class to 0 where the kind is never shed (R89). -/
theorem loadKindWrite_numbers {l e : LoadEntry} {v : Nat} (taken : l.writeField 0 v = some e) :
    loadNumbers e = (loadNumbers { l with shedClass := if v = 2 ∨ v = 3 ∨ v = 4 then 0 else l.shedClass }).set 0 v := by
  obtain ⟨k, hk, rfl⟩ := Option.map_eq_some_iff.mp taken
  rw [← placeOf_wordAt (by decide) hk]
  cases k <;> rfl

/-- The entry with the shed class that goes with a write of its kind (R89). -/
def LoadEntry.classed (l : LoadEntry) (field v : Nat) : LoadEntry :=
  { l with shedClass := if field = 0 ∧ (v = 2 ∨ v = 3 ∨ v = 4) then 0 else l.shedClass }

theorem loadWrite_onlyField {l e : LoadEntry} {field v : Nat} (taken : l.writeField field v = some e) :
    onlyField (loadNumbers (l.classed field v)) (loadNumbers e) field v := by
  have written := loadWrite l field v
  by_cases kind : field = 0
  · subst kind
    refine ⟨written.reads e taken, fun f other => ?_⟩
    rw [loadKindWrite_numbers taken, List.getElem?_set_ne (Ne.symm other), LoadEntry.classed]
    simp only [true_and]
  · have same : l.classed field v = l := by
      unfold LoadEntry.classed
      rw [if_neg fun h => kind h.1]
    rw [same]
    exact ⟨written.reads e taken, fun f other => written.keeps e taken f other (.inr (.inl kind))⟩

/-- The values that a field of the entry takes (R88, R89). -/
theorem loadWrite_takes (l : LoadEntry) (field : Lane) (v : BitVec 24) :
    (l.writeField field.toNat v.toNat).isSome = true ↔ inRange 6 field.toNat v.toNat = true ∧
      (field = 3 → v ≠ 0 → l.kind ≠ .stop ∧ l.kind ≠ .indicator ∧ l.kind ≠ .stopturn) := by
  have third : field.toNat = 3 ↔ field = 3 := BitVec.toNat_inj (y := 3)
  have zero : v.toNat = 0 ↔ v = 0 := BitVec.toNat_inj (y := 0)
  rw [(loadWrite l field.toNat v.toNat).takes, LoadEntry.mayTake, third, zero, neverShed_iff]
  tauto

/-! The output (R90, R127). -/

/-- The flasher lights an output of this entry (R121, R122). -/
abbrev flashLights (e : LoadEntry) (flash : FlashState) : Prop :=
  (e.kind = .indicator ∨ (e.kind = .stopturn ∧ flash.context e.side = true)) ∧ flash.lit e.side = true

/-- Nothing but the flasher requests an output that a write has reset (R90). -/
theorem requested_rewritten (e : LoadEntry) (flash : FlashState) (ign : Bool) (shed : Nat) (x : OutLive) :
    requested e flash ign shed x.rewritten = decide (flashLights e flash) := by
  unfold requested flashLights
  cases kind : e.kind with
  | unused | lamp | stop | fan => simp [OutLive.rewritten]
  | indicator => simp
  | stopturn => cases context : flash.context e.side <;> simp [OutLive.rewritten]

/-- The output as the write leaves it: at its reset values but for the sample, and driven where the flasher lights it. -/
theorem redrive_rewritten (e : LoadEntry) (flash : FlashState) (ign : Bool) (shed : Nat) (x : OutLive) :
    redrive e flash ign shed x.rewritten = { OutLive.reset with
      current := x.current
      drive := decide (flashLights e flash)
      duty := if flashLights e flash then 100 else 0
      window := if flashLights e flash then maskWindow e.mask else .closed } := by
  by_cases lights : flashLights e flash
  · obtain ⟨kind, lit⟩ := lights
    rw [redrive_lit (kind.imp_right fun h => ⟨h.1, h.2, rfl⟩) lit rfl rfl]
    simp only [flashLights, kind, lit, and_self, decide_true, if_true]
    rfl
  · have unwanted : wantsDrive e flash ign shed x.rewritten = false := by
      rw [wantsDrive, requested_rewritten, decide_eq_false lights, Bool.false_and]
    rw [redrive_undriven unwanted rfl, if_neg lights, if_neg lights, decide_eq_false lights]
    rfl

/-! The hub. -/

/-- The hub with the unlatched flags of an output clear (R90). -/
def loadCleared (o : Fin 12) (s : State) : State :=
  clearUnlatched .stall o.val (clearUnlatched .overload o.val (clearUnlatched .openLoad o.val s))

/-- The hub with other tables and outputs. -/
def State.withLoads (s : State) (t : Tables) (v : Vector OutLive 12) : State := { s with tables := t, outs := v }

theorem clearUnlatched_withLoads (c : FaultClass) (i : Nat) {s : State} {t : Tables} (hub : t.hub = s.tables.hub) (v : Vector OutLive 12) :
    clearUnlatched c i (s.withLoads t v) = (clearUnlatched c i s).withLoads t v := by
  unfold clearUnlatched State.withLoads
  dsimp only
  rw [hub]
  split <;> rfl

theorem loadCleared_withLoads (o : Fin 12) {s : State} {t : Tables} (hub : t.hub = s.tables.hub) (v : Vector OutLive 12) :
    loadCleared o (s.withLoads t v) = (loadCleared o s).withLoads t v := by
  unfold loadCleared
  rw [clearUnlatched_withLoads _ _ hub, clearUnlatched_withLoads _ _ (by simp [hub]), clearUnlatched_withLoads _ _ (by simp [hub])]

theorem loadCleared_flash (o : Fin 12) (s : State) : (loadCleared o s).flash = s.flash := by simp [loadCleared]

/-- The hub with an entry written, and its output as the write leaves it. -/
def loadSet (o : Fin 12) (e : LoadEntry) (s : State) : State :=
  { loadCleared o s with
    tables := { s.tables with loads := s.tables.loads.set o e }
    outs := s.outs.set o { OutLive.reset with
      current := s.outs[o].current
      drive := decide (flashLights e s.flash)
      duty := if flashLights e s.flash then 100 else 0
      window := if flashLights e s.flash then maskWindow e.mask else .closed } }

theorem loadRewritten_eq (o : Fin 12) (e : LoadEntry) (s : State) :
    loadRewritten o { s with tables := { s.tables with loads := s.tables.loads.set o e } } = loadSet o e s := by
  let t : Tables := { s.tables with loads := s.tables.loads.set o e }
  have written : t.loads[o] = e := Vector.getElem_set_self o.isLt
  have cleared : loadRewritten o { s with tables := t } = redriveOne o ((loadCleared o s).withLoads t (modifyAt s.outs o OutLive.rewritten)) :=
    congrArg (redriveOne o) (loadCleared_withLoads (s := s) (t := t) o rfl _)
  rw [cleared]
  refine (redriveOne_modifyAt o OutLive.rewritten ((loadCleared o s).withLoads t s.outs)).trans ?_
  unfold outRedriven loadSet State.withLoads
  dsimp only
  rw [written, redrive_rewritten, loadCleared_flash]

theorem loadSet_copiesMade (o : Fin 12) (e : LoadEntry) {s : State} (h : s.copiesMade) : (loadSet o e s).copiesMade :=
  copiesMade_of_ports (by simp [loadSet, loadCleared]) (by simp [loadSet, loadCleared]) (by simp [loadSet, loadCleared]) h

section
variable {s : State} (r : Requester) {output : BitVec 8} {field : Lane} {v : BitVec 24} (takes : s.takesRequests)
  (free : committing s = false) {o : Fin 12} (h : output.toNat = o.val)
include takes free h

theorem exec_loadEntryWrite_badValue (small : field.toNat < 10) (refused : s.tables.loads[o].writeField field.toNat v.toNat = none) :
    exec (.loadEntryWrite r output field v) s = .next (answered s r 2 5 []) := by
  have none : s.tables.writeField 6 output.toNat field.toNat v.toNat = none := by
    rw [writeField_load s.tables _ _ o h, refused]
    rfl
  have address := tableAddress (table := 6) (by decide) (show output.toNat < 12 from h ▸ o.isLt) small
  exact event_write_refused r (by decide) takes free (writeChecked_value _ _ address (by decide) none) (by decide)

theorem exec_loadEntryWrite_taken {e : LoadEntry} (taken : s.tables.loads[o].writeField field.toNat v.toNat = some e) :
    exec (.loadEntryWrite r output field v) s = .next (answered (afterNeed s (loadSet o e s)) r 2 0 []) := by
  have written : s.tables.writeField 6 output.toNat field.toNat v.toNat = some { s.tables with loads := s.tables.loads.set o e } := by
    rw [writeField_load s.tables _ _ o h, taken]
    rfl
  have address := tableAddress (table := 6) (by decide) (show output.toNat < 12 from h ▸ o.isLt) (loadWrite_field taken)
  refine event_write_effect r (by decide) takes free (writeChecked_taken _ _ address (by decide) written) ?_
    (loadSet_copiesMade o e takes.copied)
  rw [h]
  exact (dif_pos o.isLt).trans (congrArg Ev.start (loadRewritten_eq o e s))

end

/-- Settles O44: the checks of the row, then the reset of its output under the new entry. -/
theorem loadWritesResetTheOutput : Obligations.LoadWritesResetTheOutput := by
  unfold Obligations.LoadWritesResetTheOutput
  intro s r output field v takes free
  refine ⟨fun big => event_write_badIndex r (by decide) takes free (by decide) big, fun o h => ⟨fun beyond => ?_,
    fun _ => loadWrite_takes _ field v, exec_loadEntryWrite_badValue r takes free h,
    fun e taken => ⟨?_, exec_loadEntryWrite_taken r takes free h taken⟩⟩⟩
  · exact event_write_badField r (by decide) takes free (by decide) (show output.toNat < 12 from h ▸ o.isLt) beyond
  · have kind : (field = 0 ∧ (v = 2 ∨ v = 3 ∨ v = 4)) ↔ (field.toNat = 0 ∧ (v.toNat = 2 ∨ v.toNat = 3 ∨ v.toNat = 4)) := by
      simp only [← BitVec.toNat_inj]
      rfl
    have only := loadWrite_onlyField taken
    unfold LoadEntry.classed at only
    simpa only [kind] using only

end Sys2Proof.Machine
end

section
/-! PROOFS. The flash sources: what a step, a turn and a settle make of them (R110 to R120). -/

namespace Sys2Proof.Machine

/-! The lengths of a flash (R110, R112). -/

theorem ms_multiple (t : FlashTime) : t.ms % 10 = 0 := by
  unfold FlashTime.ms
  split <;> omega

theorem cycleLengthOf_bounds (p : Profile) (fail : Bool) : 20 ≤ cycleLengthOf p fail ∧ cycleLengthOf p fail % 10 = 0 := by
  have plain := ms_multiple p.cycle
  have short := ms_multiple p.failcycle
  unfold cycleLengthOf
  cases fail <;> simp only [Bool.false_eq_true, if_true, if_false] <;> omega

/-- Both parts of a cycle last at least 10 ms. -/
theorem onLengthOf_bounds (p : Profile) (fail : Bool) :
    10 ≤ onLengthOf p fail ∧ onLengthOf p fail + 10 ≤ cycleLengthOf p fail ∧ onLengthOf p fail % 10 = 0 := by
  obtain ⟨long, multiple⟩ := cycleLengthOf_bounds p fail
  have pulse := ms_multiple p.pulse
  unfold onLengthOf
  generalize cycleLengthOf p fail = cycle at long multiple ⊢
  cases fail <;> simp only [Bool.false_eq_true, if_true, if_false] <;> omega

/-! One source (R113 to R117). -/

/-- What holds of a source whatever its go signal: its timer runs except in IDLE (R113), its marks are clear in IDLE (R116), and in
ON, OFF and TRAIL it has the lengths of a cycle (R112). -/
structure FlashSource.Timed (x : FlashSource) : Prop where
  timer : x.timer.isSome = x.active
  marks : x.phase = .idle → x.failLeft = false ∧ x.failRight = false
  lengths : x.phase = .idle ∨ x.phase = .setup ∨
    (10 ≤ x.onLength ∧ x.onLength + 10 ≤ x.cycleLength ∧ x.onLength % 10 = 0 ∧ x.cycleLength % 10 = 0)

theorem FlashSource.sound_iff (go : Bool) (x : FlashSource) : x.sound go = true ↔ x.runs = go ∧ x.Timed := by
  have marks : (x.active || (!x.failLeft && !x.failRight)) = true ↔ (x.phase = .idle → x.failLeft = false ∧ x.failRight = false) := by
    by_cases idle : x.phase = .idle <;> simp [FlashSource.active, idle]
  unfold FlashSource.sound
  rw [Bool.and_eq_true, Bool.and_eq_true, Bool.and_eq_true, beq_iff_eq, beq_iff_eq, marks]
  simp only [Bool.or_eq_true, Bool.and_eq_true, decide_eq_true_eq]
  constructor
  · rintro ⟨⟨⟨runs, timer⟩, marks⟩, lengths⟩
    exact ⟨runs, timer, marks, by tauto⟩
  · rintro ⟨runs, timer, marks, lengths⟩
    exact ⟨⟨⟨runs, timer⟩, marks⟩, by tauto⟩

theorem toIdle_timed (x : FlashSource) : x.toIdle.Timed := ⟨rfl, fun _ => ⟨rfl, rfl⟩, .inl rfl⟩

theorem toIdle_active (x : FlashSource) : x.toIdle.active = false := rfl

/-- The entry to ON makes a whole cycle, whatever was before it (R112). -/
theorem enterOn_timed (t : Tables) (f : FaultState) (i : SourceId) (x : FlashSource) : (enterOn t f i x).Timed := by
  obtain ⟨lit, dark, multiple⟩ := onLengthOf_bounds (t.profileOf i) (_ || _)
  exact ⟨rfl, nofun, .inr (.inr ⟨lit, dark, multiple, (cycleLengthOf_bounds _ _).2⟩)⟩

/-- A change of phase within ON, OFF and TRAIL leaves the timer running and the lengths as they are. -/
theorem timed_of_phase {x : FlashSource} (h : x.Timed) (own : x.phase ≠ .idle ∧ x.phase ≠ .setup) {phase : FlashPhase}
    (next : phase ≠ .idle) {timer : Option Nat} (runs : timer.isSome = true) :
    FlashSource.Timed { x with phase := phase, timer := timer } :=
  ⟨runs.trans (decide_eq_true next).symm, fun idle => absurd idle next,
    .inr (.inr ((h.lengths.resolve_left own.1).resolve_left own.2))⟩

theorem timer_runs {x : FlashSource} (h : x.Timed) (active : x.phase ≠ .idle) : x.timer.isSome = true :=
  h.timer.trans (decide_eq_true active)

theorem goOn_timed (t : Tables) (f : FaultState) (i : SourceId) {x : FlashSource} (h : x.Timed) : (goOn t f i x).Timed := by
  unfold goOn
  split
  · dsimp only
    split
    · exact enterOn_timed t f i x
    · exact ⟨rfl, nofun, .inr (.inl rfl)⟩
  · next trail => exact timed_of_phase h (by simp [trail]) (by decide) (timer_runs h (by simp [trail]))
  · exact h
  · exact h
  · exact h

theorem goOff_timed (t : Tables) (i : SourceId) {x : FlashSource} (h : x.Timed) : (goOff t i x).Timed := by
  unfold goOff
  split
  · exact toIdle_timed x
  · exact toIdle_timed x
  · next on =>
    split
    · exact timed_of_phase h (by simp [on]) (by decide) (timer_runs h (by simp [on]))
    · exact toIdle_timed x
  · exact h
  · exact h

theorem turn_timed (t : Tables) (f : FaultState) (i : SourceId) (go : Bool) {x : FlashSource} (h : x.Timed) : (turn t f i go x).Timed := by
  cases go
  · exact goOff_timed t i h
  · exact goOn_timed t f i h

/-- A source that runs as its go signal says stays as it is (R115, R116). -/
theorem turn_still (t : Tables) (f : FaultState) (i : SourceId) {go : Bool} {x : FlashSource} (h : x.runs = go) : turn t f i go x = x := by
  subst h
  unfold turn goOn goOff FlashSource.runs
  cases phase : x.phase <;> rfl

/-- A source in IDLE becomes active by its go signal alone (R115). -/
theorem turn_idle_active (t : Tables) (f : FaultState) (i : SourceId) (go : Bool) {x : FlashSource} (h : x.active = false) :
    (turn t f i go x).active = go := by
  have idle : x.phase = .idle := not_not.mp (of_decide_eq_false h)
  cases go
  · rw [turn_still t f i (by rw [FlashSource.runs, idle]), h]
  · unfold turn goOn
    rw [idle]
    dsimp only
    rw [if_pos rfl]
    split <;> rfl

theorem phaseStep_timed (t : Tables) (f : FaultState) (i : SourceId) {x : FlashSource} (h : x.Timed) : (phaseStep t f i x).Timed := by
  unfold phaseStep
  split
  · exact enterOn_timed t f i x
  · exact enterOn_timed t f i x
  · next on => exact timed_of_phase h (by simp [on]) (by decide) rfl
  · exact toIdle_timed x
  · exact h

/-- The step at a phase's end takes no part in whether the source runs (R117). -/
theorem phaseStep_runs (t : Tables) (f : FaultState) (i : SourceId) (x : FlashSource) : (phaseStep t f i x).runs = x.runs := by
  unfold phaseStep FlashSource.runs enterOn FlashSource.toIdle
  cases phase : x.phase <;> simp [phase]

theorem phaseStep_demand (t : Tables) (f : FaultState) (i : SourceId) (x : FlashSource) : (phaseStep t f i x).demand = x.demand := by
  unfold phaseStep
  split <;> rfl

/-- Only a step out of TRAIL ends a source's activity (R113, R117). -/
theorem phaseStep_active (t : Tables) (f : FaultState) (i : SourceId) (x : FlashSource) :
    (phaseStep t f i x).active = (x.active && decide (x.phase ≠ .trail)) := by
  unfold phaseStep FlashSource.active enterOn FlashSource.toIdle
  cases phase : x.phase <;> simp [phase]

/-! The three sources (R114, R119, R120). -/

/-- What the settle of the sources starts from and keeps: each source is timed, and an active HAZARD has LEFT and RIGHT in IDLE. -/
structure FlashState.Settling (f : FlashState) : Prop where
  timed : ∀ i, (f.source i).Timed
  alone : f.hazard.active = true → ∀ d, (f.side d).active = false

theorem side_eq_source (f : FlashState) (d : Side) : f.side d = f.source d.sourceId := by
  cases d <;> rfl

theorem flasherSound_iff (s : State) : s.flasherSound ↔ s.flash.Settling ∧ sourcesSettled s := by
  simp only [State.flasherSound, FlashSource.sound_iff]
  constructor
  · rintro ⟨⟨hazard, hazardTimed⟩, ⟨left, leftTimed⟩, ⟨right, rightTimed⟩, alone⟩
    refine ⟨⟨?_, fun active => ?_⟩, hazard, ?_⟩
    · rintro (_ | _ | _)
      · exact leftTimed
      · exact rightTimed
      · exact hazardTimed
    · rintro (_ | _)
      · exact (alone active).1
      · exact (alone active).2
    · rintro (_ | _)
      · exact left
      · exact right
  · rintro ⟨⟨timed, alone⟩, hazard, sides⟩
    exact ⟨⟨hazard, timed .hazard⟩, ⟨sides .left, timed .left⟩, ⟨sides .right, timed .right⟩,
      fun active => ⟨alone active .left, alone active .right⟩⟩

/-- HAZARD after a settle (R114). -/
theorem settleFlash_hazard (t : Tables) (faults : FaultState) (ign : Bool) (f : FlashState) :
    (settleFlash t faults ign f).hazard = turn t faults .hazard f.hazard.demand f.hazard := rfl

/-- LEFT and RIGHT after a settle: forced to IDLE by a HAZARD that has just become active, then turned by their go signals (R114,
R119). -/
theorem settleFlash_side (t : Tables) (faults : FaultState) (ign : Bool) (f : FlashState) (d : Side) :
    let hazard := (settleFlash t faults ign f).hazard
    let x := if !f.hazard.active && hazard.active then (f.side d).toIdle else f.side d
    (settleFlash t faults ign f).side d = turn t faults d.sourceId (x.demand && ign && !hazard.active) x := by
  cases d <;> rfl

/-- Where HAZARD is in IDLE after the settle, each side follows its own go signal. -/
theorem settleFlash_side_free (t : Tables) (faults : FaultState) {ign : Bool} {f : FlashState}
    (free : (settleFlash t faults ign f).hazard.active = false) (d : Side) :
    (settleFlash t faults ign f).side d = turn t faults d.sourceId ((f.side d).demand && ign) (f.side d) := by
  rw [settleFlash_side, free]
  simp only [Bool.and_false, Bool.false_eq_true, if_false, Bool.not_false, Bool.and_true]

theorem settleFlash_settling (t : Tables) (faults : FaultState) (ign : Bool) {f : FlashState} (h : f.Settling) :
    (settleFlash t faults ign f).Settling where
  timed i := by
    have sides : ∀ d, ((settleFlash t faults ign f).side d).Timed := fun d => by
      rw [settleFlash_side]
      refine turn_timed t faults _ _ ?_
      split
      · exact toIdle_timed _
      · exact side_eq_source f d ▸ h.timed d.sourceId
    cases i
    · exact sides .left
    · exact sides .right
    · exact turn_timed t faults .hazard _ (h.timed .hazard)
  alone active d := by
    have idle : (if !f.hazard.active && (settleFlash t faults ign f).hazard.active then (f.side d).toIdle else f.side d).active = false := by
      cases before : f.hazard.active
      · rw [active]
        exact toIdle_active _
      · exact h.alone before d
    rw [settleFlash_side]
    refine (turn_idle_active t faults _ _ idle).trans ?_
    rw [active]
    exact Bool.and_false _

/-- Sources that run as their go signals say stay as they are (R114). -/
theorem settleFlash_still (t : Tables) (faults : FaultState) {ign : Bool} {f : FlashState} (hazard : f.hazard.runs = f.hazard.demand)
    (sides : ∀ d, (f.side d).runs = ((f.side d).demand && ign && !f.hazard.active)) : settleFlash t faults ign f = f := by
  have own : (settleFlash t faults ign f).hazard = f.hazard := turn_still t faults .hazard hazard
  have side : ∀ d, (settleFlash t faults ign f).side d = f.side d := fun d => by
    rw [settleFlash_side, own, Bool.not_and_self]
    exact turn_still t faults d.sourceId (sides d)
  have left := side .left
  have right := side .right
  generalize settleFlash t faults ign f = g at own left right
  obtain ⟨_, _, _⟩ := g
  obtain ⟨_, _, _⟩ := f
  cases own
  cases left
  cases right
  rfl

/-! The step of one source (R117). -/

/-- The sources with one of them stepped at the end of its phase. -/
def FlashState.stepped (t : Tables) (faults : FaultState) (i : SourceId) (f : FlashState) : FlashState :=
  f.setSource i (phaseStep t faults i (f.source i))

theorem stepped_source (t : Tables) (faults : FaultState) (i : SourceId) (f : FlashState) :
    (f.stepped t faults i).source i = phaseStep t faults i (f.source i) := by
  cases i <;> rfl

theorem stepped_other (t : Tables) (faults : FaultState) {i j : SourceId} (f : FlashState) (other : j ≠ i) :
    (f.stepped t faults i).source j = f.source j := by
  cases i <;> cases j <;> simp [FlashState.stepped, FlashState.setSource, FlashState.source] at other ⊢

theorem stepped_timed (t : Tables) (faults : FaultState) (i : SourceId) {f : FlashState} (h : ∀ j, (f.source j).Timed) (j : SourceId) :
    ((f.stepped t faults i).source j).Timed := by
  by_cases own : j = i
  · subst own
    exact stepped_source t faults j f ▸ phaseStep_timed t faults j (h j)
  · exact stepped_other t faults f own ▸ h j

/-- The step moves no demand, nor whether a source runs, and activates none. -/
theorem stepped_kept (t : Tables) (faults : FaultState) (i : SourceId) (f : FlashState) (j : SourceId) :
    let x := (f.stepped t faults i).source j
    x.demand = (f.source j).demand ∧ x.runs = (f.source j).runs ∧
      x.active = ((f.source j).active && decide (j = i → (f.source j).phase ≠ .trail)) := by
  by_cases own : j = i
  · subst own
    rw [stepped_source]
    exact ⟨phaseStep_demand .., phaseStep_runs .., (phaseStep_active ..).trans (by simp)⟩
  · rw [stepped_other t faults f own]
    exact ⟨rfl, rfl, by simp [own]⟩

theorem stepped_settling (t : Tables) (faults : FaultState) (i : SourceId) {f : FlashState} (h : f.Settling) :
    (f.stepped t faults i).Settling where
  timed := stepped_timed t faults i h.timed
  alone active d := by
    have hazard : f.hazard.active = true := (Bool.and_eq_true _ _ ▸ (stepped_kept t faults i f .hazard).2.2 ▸ active).1
    rw [side_eq_source, (stepped_kept t faults i f d.sourceId).2.2, ← side_eq_source, h.alone hazard d, Bool.false_and]

end Sys2Proof.Machine
end

section
/-! PROOFS. A property of the hub that requests, arrivals and commands keep, because each of their parts keeps it (R20 to R32, R168,
R173 to R184). -/

namespace Sys2Proof.Machine

/-- A part of an event that keeps a property of the hub. -/
abbrev BodyKeeps (P : State → Prop) (f : Ev → Ev) : Prop := ∀ e : Ev, P e.st → P (f e).st

/-- A service that keeps a property of the hub. -/
abbrev ServeKeeps (P : State → Prop) (serve : Ev → Ev × Answer) : Prop := ∀ e : Ev, P e.st → P (serve e).1.st

/-- A command that keeps a property of the hub. -/
abbrev CommandKeeps (P : State → Prop) (c : Instr) : Prop := ∀ s t : State, P s → exec c s = .next t → P t

section
variable {P : State → Prop}

/-! Parts of an event. -/

theorem anyOrderEv_bodyKeeps (counts : ∀ (s : State) n, P s → P { s with choices := n }) {acts : List (Ev → Ev)}
    (each : ∀ f ∈ acts, BodyKeeps P f) : BodyKeeps P (anyOrderEv acts) := fun e =>
  anyOrderEv_preserves (fun e => P e.st) acts e (fun e => counts e.st) each

/-- A change under a condition. -/
theorem guarded_keeps {p : Prop} [Decidable p] {s t : State} (h : P s) (own : p → P t) : P (if p then t else s) := by
  split
  · next holds => exact own holds
  · exact h

/-- An action under a condition. -/
theorem guarded_bodyKeeps {p : Prop} [Decidable p] {e x : Ev} (h : P e.st) (own : p → P x.st) : P (if p then x else e).st := by
  split
  · next holds => exact own holds
  · exact h

/-! Requests (R173 to R184). -/

theorem needLanes_keeps (n : Nat) (lanes : List Lane) {serve : Ev → Ev × Answer} (h : ServeKeeps P serve) :
    ServeKeeps P (needLanes n lanes serve) := fun e own => by
  unfold needLanes
  split
  · exact own
  · exact h e own

theorem unlessCommitting_keeps {serve : Ev → Ev × Answer} (h : ∀ e : Ev, committing e.st = false → P e.st → P (serve e).1.st) :
    ServeKeeps P (unlessCommitting serve) := fun e own => by
  unfold unlessCommitting
  split
  · exact own
  · next free => exact h e (Bool.not_eq_true _ ▸ free) own

theorem requestEvent_keeps (overrun : ∀ s, P s → P (setOverrun s)) (r : Requester) (code : Nat) {serve : Ev → Ev × Answer}
    (h : ServeKeeps P serve) : BodyKeeps P (requestEvent r code serve) := fun e own => by
  have served := h e own
  unfold requestEvent
  split
  · split
    · next answer => rwa [answer] at served
    · next answer => rwa [answer] at served
  · exact overrun e.st own

/-- The changes that requests make of the hub keep the property. -/
structure ServicesKeep (P : State → Prop) : Prop where
  write : ∀ table index field value (e : Ev), committing e.st = false → P e.st → P (writeField table index field value e).1.st
  openCurve : ∀ c s, committing s = false → P s → P (openCurve c s)
  closeCurve : ∀ (c : Fin 8) (s : State), committing s = false → s.tables.curves[c].offending = none → P s →
    P (setCurveState c .inService s)
  commit : ∀ r s, committing s = false → P s → P (startCommit (.request r) s)
  clear : ∀ cls s, committing s = false → P s → P (clearFaults cls s)
  release : ∀ slot, BodyKeeps P (releaseSlot slot)
  restart : ∀ s, committing s = false → P s → P (awaitRestart s)
  overrun : ∀ s, P s → P (setOverrun s)

theorem serveRead_keeps (lanes : List Lane) : ServeKeeps P (serveRead lanes) :=
  needLanes_keeps 2 lanes fun e own => by
    dsimp only
    split
    · split <;> exact own
    · exact own

theorem serveReadLive_keeps (lanes : List Lane) : ServeKeeps P (serveReadLive lanes) :=
  needLanes_keeps 2 lanes fun e own => by
    split
    · exact own
    · split <;> exact own

theorem serveReadCapture_keeps (lanes : List Lane) : ServeKeeps P (serveReadCapture lanes) :=
  needLanes_keeps 1 lanes fun e own => by
    split
    · exact own
    · exact own
    · split <;> exact own

section
variable (services : ServicesKeep P)
include services

theorem ServicesKeep.serveWrite (lanes : List Lane) : ServeKeeps P (serveWrite lanes) :=
  needLanes_keeps 4 lanes (unlessCommitting_keeps fun e free own => services.write _ _ _ _ e free own)

theorem ServicesKeep.serveOpenCurve (lanes : List Lane) : ServeKeeps P (serveOpenCurve lanes) :=
  needLanes_keeps 1 lanes (unlessCommitting_keeps fun e free own => by
    split
    · exact services.openCurve _ _ free own
    · exact own)

theorem ServicesKeep.serveCloseCurve (lanes : List Lane) : ServeKeeps P (serveCloseCurve lanes) :=
  needLanes_keeps 1 lanes (unlessCommitting_keeps fun e free own => by
    split
    · dsimp only
      split
      · exact own
      · split
        · exact own
        · next legal => exact services.closeCurve _ _ free legal own
    · exact own)

theorem ServicesKeep.serveCommit (r : Requester) : ServeKeeps P (serveCommit r) :=
  unlessCommitting_keeps fun e free own => by
    split
    · exact own
    · exact services.commit r _ free own

theorem ServicesKeep.serveClearFaults (lanes : List Lane) : ServeKeeps P (serveClearFaults lanes) :=
  needLanes_keeps 1 lanes (unlessCommitting_keeps fun e free own => by
    split
    · exact services.clear _ _ free own
    · exact own)

theorem ServicesKeep.serveReleaseCapture (lanes : List Lane) : ServeKeeps P (serveReleaseCapture lanes) :=
  needLanes_keeps 1 lanes fun e own => by
    split
    · exact services.release _ e own
    · exact own

theorem ServicesKeep.anyRequest (r : Requester) (code : Nat) (lanes : List Lane) : BodyKeeps P (anyRequest r code lanes) := by
  have request : ∀ code {serve}, ServeKeeps P serve → BodyKeeps P (requestEvent r code serve) := fun code _ =>
    requestEvent_keeps services.overrun r code
  unfold Machine.anyRequest
  split
  · exact request _ fun _ own => own
  · exact request _ (serveRead_keeps lanes)
  · exact request _ (services.serveWrite lanes)
  · exact request _ (services.serveOpenCurve lanes)
  · exact request _ (services.serveCloseCurve lanes)
  · exact request _ (services.serveCommit r)
  · exact request _ (serveReadLive_keeps lanes)
  · exact request _ (services.serveClearFaults lanes)
  · exact request _ (serveReadCapture_keeps lanes)
  · exact request _ (services.serveReleaseCapture lanes)
  · exact request _ (unlessCommitting_keeps fun e free own => services.restart e.st free own)
  · exact request _ fun _ own => own

end

/-! Arrivals (R20 to R32). -/

/-- The changes that an arriving frame makes of the hub keep the property. -/
structure ArrivalsKeep (P : State → Prop) : Prop where
  services : ServicesKeep P
  port : ∀ s p x, P s → P (s.setPort p x)
  flag : ∀ s c i, P s → P (clearUnlatched c i s)
  report : ∀ c i value, BodyKeeps P (reportFault c i value)
  pod : ∀ p bits s, P s → P (updatePod p bits s)
  slots : ∀ vals, BodyKeeps P (updateSlots vals)
  order : ∀ tag lane s, P s → P (orderEvent tag lane s)
  counts : ∀ (s : State) n, P s → P { s with choices := n }

section
variable (arrivals : ArrivalsKeep P)
include arrivals

theorem ArrivalsKeep.offerRelay (p : PortId) (f : Frame) : BodyKeeps P (offerRelay p f) := fun e own => by
  unfold Machine.offerRelay
  dsimp only
  split
  · exact arrivals.flag _ _ _ (arrivals.port _ _ _ own)
  · exact arrivals.report _ _ _ _ (arrivals.port _ _ _ own)

theorem ArrivalsKeep.relayAction (p : PortId) (f : Frame) : ∀ a ∈ relayAction p f, BodyKeeps P a := by
  intro a mem
  obtain ⟨_, rfl⟩ := (List.mem_ite_nil_left ..).mp mem |>.imp_right List.mem_singleton.mp
  exact arrivals.offerRelay _ _

theorem ArrivalsKeep.feedAction (node : BitVec 4) (feed : Feed) (f out : Frame) : ∀ a ∈ feedAction node feed f out, BodyKeeps P a := by
  intro a mem
  unfold Machine.feedAction at mem
  split at mem
  · rw [List.mem_singleton.mp mem]
    exact fun _ => arrivals.pod _ _ _
  · rw [List.mem_singleton.mp mem]
    exact fun e => arrivals.slots _ e
  · obtain ⟨_, rfl⟩ := (List.mem_ite_nil_right ..).mp mem |>.imp_right List.mem_singleton.mp
    exact fun _ => arrivals.order _ _ _
  · exact absurd mem List.not_mem_nil

theorem ArrivalsKeep.arrivalActions (s : State) (p : PortId) (f : Frame) : ∀ a ∈ arrivalActions s p f, BodyKeeps P a := by
  intro a mem
  have request : BodyKeeps P (frameRequest p f) := arrivals.services.anyRequest _ _ _
  unfold Machine.arrivalActions at mem
  split at mem
  · rw [List.mem_singleton.mp mem]
    exact request
  · split at mem
    · rcases List.mem_cons.mp mem with rfl | mem
      · exact request
      · exact arrivals.relayAction p f a mem
    · split at mem
      · exact arrivals.relayAction p f a mem
      · rcases List.mem_append.mp mem with mem | mem
        · exact arrivals.relayAction p _ a ((List.mem_ite_nil_left ..).mp mem).2
        · exact arrivals.feedAction _ _ _ _ a mem

theorem ArrivalsKeep.frameBoundary (p : PortId) : BodyKeeps P (frameBoundary p) := fun e own => by
  have bad : P (badVerdict p e).st := arrivals.report _ _ _ _ (arrivals.port _ p _ own)
  unfold Machine.frameBoundary
  split
  · exact arrivals.port _ p _ own
  · exact bad
  · exact bad
  · split
    · next f _ =>
      have good : P (e.on (goodVerdict p)).st := arrivals.flag _ _ _ (arrivals.port _ p _ own)
      exact anyOrderEv_bodyKeeps arrivals.counts (arrivals.arrivalActions _ p f) _ good
    · exact bad

end

/-! Commands (R157, R168). -/

theorem event_keeps (ends : ∀ before e, P e.st → P (finish before e)) {f : Ev → Ev} (body : BodyKeeps P f) {s t : State} (own : P s)
    (answer : event f s = .next t) : P t := by
  obtain rfl := Host.Outcome.next.inj answer
  split
  · exact own
  · exact ends s _ (body (Ev.start s) own)

/-- What every command keeps, every step keeps, where the command queue plays no part in it. -/
theorem keptByEveryStep_of_commands (queue : ∀ s l, P s → P { s with pending := l }) (commands : ∀ c, CommandKeeps P c) :
    KeptByEveryStep P := by
  intro s t own taken
  unfold step at taken
  split at taken
  · obtain rfl := Host.Outcome.next.inj taken
    exact own
  · next c rest _ => exact commands c _ t (queue s rest own) taken

end

end Sys2Proof.Machine
end

section
/-! PROOFS. The flasher at every step: what may change the sources or IGN ends in a settle (R87, R114, R120, R156). -/

namespace Sys2Proof.Machine

/-! The settle, and what reads neither the sources nor IGN. -/

theorem flasherSound_of_same {s t : State} (flash : t.flash = s.flash) (ign : t.supply.ign = s.supply.ign) (h : s.flasherSound) :
    t.flasherSound := by
  unfold State.flasherSound at h ⊢
  rwa [flash, ign]

/-- Whatever the sources were changed to, once they are settled and their contexts handed over they are as their go signals say. -/
theorem settled_flasherSound (before : Vector Bool 12) {f : FlashState} (s : State) (h : f.Settling) :
    (handContexts before (settleFlash s.tables s.faults s.supply.ign f) s).flasherSound := by
  have supply : (handContexts before (settleFlash s.tables s.faults s.supply.ign f) s).supply = s.supply :=
    (congrArg State.supply (handContexts_lessLoads before _ s) :)
  rw [flasherSound_iff, sourcesSettled, handContexts_flash, supply]
  refine ⟨settleFlash_settling _ _ _ h, ?_, fun d => ?_⟩
  · rw [settleFlash_hazard, turn_runs, turn_demand]
  · rw [settleFlash_side, turn_runs, turn_demand]

theorem demandAfter_timed (v : Option Resolved) {x : FlashSource} (h : x.Timed) : (demandAfter v x).Timed := by
  cases v
  · exact h
  · exact ⟨h.timer, h.marks, h.lengths⟩

theorem demandAfter_active (v : Option Resolved) (x : FlashSource) : (demandAfter v x).active = x.active := by
  cases v <;> rfl

/-- The verbs on the pseudo-targets move demands, which the settle takes up (R82, R120). -/
theorem applyFlashVerbs_flasherSound (before : Vector Bool 12) (verbs : Fin 15 → Option Resolved) {s : State} (h : s.flasherSound) :
    (applyFlashVerbs before verbs s).flasherSound := by
  obtain ⟨⟨timed, alone⟩, _⟩ := (flasherSound_iff s).mp h
  refine settled_flasherSound before s ⟨fun i => ?_, fun active d => ?_⟩
  · cases i
    · exact demandAfter_timed _ (timed .left)
    · exact demandAfter_timed _ (timed .right)
    · exact demandAfter_timed _ (timed .hazard)
  · rw [demandAfter_active] at active
    cases d
    · exact (demandAfter_active _ _).trans (alone active .left)
    · exact (demandAfter_active _ _).trans (alone active .right)

theorem handVerbs_flasherSound (verbs : Fin 15 → Option Resolved) {s : State} (h : s.flasherSound) : (handVerbs verbs s).flasherSound := by
  have outputs : ∀ {t : State}, t.flasherSound → (applyOutputVerbs verbs t).flasherSound := fun {t} =>
    flasherSound_of_same (verbOutputs_flash verbs t) (congrArg (fun u => u.supply.ign) (applyOutputVerbs_lessLoads verbs t) :)
  have sources : ∀ {t : State}, t.flasherSound → (applyFlashVerbs (drives s) verbs t).flasherSound :=
    applyFlashVerbs_flasherSound (drives s) verbs
  rcases handVerbs_cases verbs s with ⟨_, is⟩ | ⟨_, is⟩ | ⟨_, is⟩ | ⟨_, n, is | is⟩ <;> rw [is]
  · exact h
  · exact outputs h
  · exact sources h
  · exact sources (outputs (t := s.recounted n) h)
  · exact outputs (sources (t := s.recounted n) h)

theorem matrixEvent_flasherSound (ev : MatrixEvent) {s : State} (h : s.flasherSound) : (matrixEvent ev s).flasherSound :=
  handVerbs_flasherSound _ h

theorem switchEvent_flasherSound (pod : Fin 9) (rise fall : BitVec 12) {s : State} (h : s.flasherSound) :
    (switchEvent pod rise fall s).flasherSound := by
  unfold switchEvent
  split
  · exact h
  · exact matrixEvent_flasherSound _ h

theorem orderEvent_flasherSound (tag : BitVec 4) (lane : Lane) {s : State} (h : s.flasherSound) : (orderEvent tag lane s).flasherSound := by
  unfold orderEvent
  split
  · split
    · exact handVerbs_flasherSound _ h
    · exact h
  · exact h

theorem evalConds_flasherSound (affects : OperandKind → Nat → Bool) {s : State} (h : s.flasherSound) : (evalConds affects s).flasherSound :=
  foldl_preserves State.flasherSound _ (fun _ ev => matrixEvent_flasherSound ev) _ _ h

theorem clearUnlatched_flasherSound (c : FaultClass) (i : Nat) {s : State} (h : s.flasherSound) : (clearUnlatched c i s).flasherSound :=
  flasherSound_of_same (clearUnlatched_flash c i s) (by rw [clearUnlatched_supply]) h

theorem setPort_flasherSound (p : PortId) (x : PortState) {s : State} (h : s.flasherSound) : (s.setPort p x).flasherSound :=
  flasherSound_of_same (State.setPort_flash s p x) (by rw [State.setPort_supply]) h

theorem cancelTeach_flasherSound {s : State} (h : s.flasherSound) : (cancelTeach s).flasherSound :=
  flasherSound_of_same (cancelTeach_flash s) (by rw [cancelTeach_supply]) h

/-- Reports and their copies leave the flasher alone. -/
theorem flasherSound_of_lessReports {s t : State} (same : t.lessReports = s.lessReports) (h : s.flasherSound) : t.flasherSound :=
  flasherSound_of_same (congrArg State.flash same :) (congrArg (fun u => u.supply.ign) same :) h

/-- A change of IGN settles the sources by the new level (R156). -/
theorem ignChanged_flasherSound (level : Bool) {s : State} (h : s.flasherSound) : (ignChanged level s).flasherSound := by
  obtain ⟨settling, _⟩ := (flasherSound_iff s).mp h
  have settled : (ignSettled level s).flasherSound := settled_flasherSound (drives s) (withIgn level s) settling
  refine flasherSound_of_same (ignChanged_flash level s) ?_ settled
  rw [ignChanged_eq, gaugesAtIgn_supply, levelled_supply]

/-- The step of a source whose phase timer expires is settled with the others (R117, R120). -/
theorem phaseExpired_flasherSound (i : SourceId) {s : State} (h : s.flasherSound) : (phaseExpired i s).flasherSound :=
  settled_flasherSound (drives s) s (stepped_settling s.tables s.faults i ((flasherSound_iff s).mp h).1)

/-! Parts of an event. -/

/-- A part of an event that leaves the flasher settled. -/
abbrev BodySettled (f : Ev → Ev) : Prop := BodyKeeps State.flasherSound f

theorem anyOrderEv_settled (acts : List (Ev → Ev)) (each : ∀ f ∈ acts, BodySettled f) : BodySettled (anyOrderEv acts) :=
  anyOrderEv_bodyKeeps (fun _ _ h => h) each

/-- A report of the fault unit reaches the sources by its links alone (R160). -/
theorem reportFault_settled (c : FaultClass) (i value : Nat) : BodySettled (reportFault c i value) := fun e h => by
  unfold reportFault
  split
  · refine matrixEvent_flasherSound _ (flasherSound_of_same (s := e.st) ?_ ?_ h)
    · exact (captureAttempt_flash c i value _).trans (congrArg State.flash (noteRaise_lessPods c i _) :)
    · exact (congrArg (fun s => s.supply.ign) (captureAttempt_lessLoads c i value _) :).trans
        (congrArg (fun s => s.supply.ign) (noteRaise_lessPods c i _) :)
  · exact h

/-! The blocks of the hub (R49, R56, R57, R62, R133, R148, R155, R182, R187). -/

theorem runChannel_settled (g : Fin 4) (r : Lane) : BodySettled (runChannel g r) := fun e h => by
  unfold runChannel
  refine anyOrderEv_settled _ (fun f mem => ?_) _ ?_
  · rcases List.mem_append.mp mem with conds | report
    · obtain ⟨_, rfl⟩ := (List.mem_ite_nil_right ..).mp conds |>.imp_right List.mem_singleton.mp
      exact fun _ => evalConds_flasherSound _
    · obtain ⟨_, rfl⟩ := (List.mem_ite_nil_right ..).mp report |>.imp_right List.mem_singleton.mp
      exact reportFault_settled _ _ _
  · split
    · exact clearUnlatched_flasherSound _ _ h
    · exact h

theorem handOnSlots_settled (changed : Fin 16 → Bool) : BodySettled (handOnSlots changed) := by
  refine fun e => anyOrderEv_settled _ (fun f mem => ?_) e
  rcases List.mem_append.mp mem with conds | run
  · obtain ⟨_, rfl⟩ := (List.mem_ite_nil_right ..).mp conds |>.imp_right List.mem_singleton.mp
    exact fun _ => evalConds_flasherSound _
  · obtain ⟨g, _, made⟩ := List.mem_filterMap.mp run
    split at made
    · obtain rfl := Option.some.inj (Option.ite_none_right_eq_some.mp made).2
      exact runChannel_settled g _
    · exact absurd made (by simp)

theorem handOnVs_settled : BodySettled handOnVs := fun e h => by
  rw [handOnVs_eq]
  refine anyOrderEv_settled _ (fun f mem => ?_) _ (flasherSound_of_same (vsHeld_flash e.st) (by rw [vsHeld_supply]; rfl) h)
  rcases mem_vsActions mem with ⟨_, rfl⟩ | ⟨_, rfl⟩ | rfl
  · exact reportFault_settled _ _ _
  · exact reportFault_settled _ _ _
  · exact fun _ => evalConds_flasherSound _

theorem shedChanged_flasherSound (level : Nat) {s : State} (h : s.flasherSound) : (shedChanged level s).flasherSound :=
  evalConds_flasherSound _ (s := levelled (atShed level s)) h

theorem enterExpired_flasherSound {s : State} (h : s.flasherSound) : (enterExpired s).flasherSound := by
  unfold enterExpired
  exact guarded_keeps (P := State.flasherSound) h fun _ => shedChanged_flasherSound _ h

theorem restoreExpired_flasherSound {s : State} (h : s.flasherSound) : (restoreExpired s).flasherSound := by
  unfold restoreExpired
  exact guarded_keeps (P := State.flasherSound) h fun _ => shedChanged_flasherSound _ h

/-- The edge of IGN and its new level each end in a settle, in either order (R87, R120). -/
theorem inputSettled_flasherSound (i : Fin 9) {s : State} (h : s.flasherSound) : (inputSettled i s).flasherSound := by
  refine anyOrder_preserves State.flasherSound _ _ (fun _ _ h => h) (fun f mem t ht => ?_) h
  rcases List.mem_append.mp mem with ign | edge
  · obtain ⟨_, rfl⟩ := (List.mem_ite_nil_right ..).mp ign |>.imp_right List.mem_singleton.mp
    exact ignChanged_flasherSound _ ht
  · obtain ⟨_, rfl⟩ := (List.mem_ite_nil_right ..).mp edge |>.imp_right List.mem_singleton.mp
    exact switchEvent_flasherSound _ _ _ ht

theorem updatePod_flasherSound (p : Fin 8) (bits : BitVec 12) {s : State} (h : s.flasherSound) : (updatePod p bits s).flasherSound :=
  switchEvent_flasherSound _ _ _ (clearUnlatched_flasherSound _ _ h)

theorem podExpired_settled (p : Fin 8) : BodySettled (podExpired p) := fun e h =>
  reportFault_settled _ _ _ _ (switchEvent_flasherSound _ _ _ (s := { e.st with pods := _ }) h)

theorem updateSlots_settled (vals : Fin 16 → Option Lane) : BodySettled (updateSlots vals) := fun _ h => handOnSlots_settled _ _ h

theorem setSlot_settled (k : Fin 16) (x : SlotLive) : BodySettled (setSlot k x) := fun _ h => handOnSlots_settled _ _ h

theorem resetChannel_flasherSound (g : Fin 4) {s : State} (h : s.flasherSound) : (resetChannel g s).flasherSound :=
  evalConds_flasherSound _ (clearUnlatched_flasherSound _ _ h)

theorem press_flasherSound {s : State} (h : s.flasherSound) : (press s).flasherSound := by
  unfold press
  split
  · exact h
  · split <;> exact h
  · split
    · split
      · exact resetChannel_flasherSound _ h
      · exact cancelTeach_flasherSound h
    · exact cancelTeach_flasherSound h

theorem teachSettled_flasherSound {s : State} (h : s.flasherSound) : (teachSettled s).flasherSound := by
  unfold teachSettled teachEdge
  dsimp only
  split
  · split
    · exact h
    · exact press_flasherSound h
  · exact h

theorem completeCommit_settled (verified : Bool) : BodySettled (completeCommit verified) := fun e h => by
  unfold completeCommit
  split
  · exact h
  · exact h
  · next origin _ =>
    dsimp only
    split
    · exact clearUnlatched_flasherSound _ _ (by cases origin <;> exact h)
    · exact reportFault_settled _ _ _ _ (by cases origin <;> exact h)

/-! The samples of a load channel (R98 to R101, R108). -/

theorem checkLimits_settled (o : Fin 12) : BodySettled (checkLimits o) := fun e h => by
  unfold checkLimits
  dsimp only
  split
  · exact clearUnlatched_flasherSound _ _ h
  · exact reportFault_settled _ _ _ _ h

theorem checkSample_settled (o : Fin 12) (taken : Bool) : BodySettled (checkSample o taken) := fun e h => by
  unfold checkSample
  split
  · split
    · exact reportFault_settled .overload o.val _ _ h
    · exact checkLimits_settled o e h
  · exact h

theorem loadRewritten_flasherSound (o : Fin 12) {s : State} (h : s.flasherSound) : (loadRewritten o s).flasherSound := by
  have cleared : ∀ (c : FaultClass) {t : State}, t.flasherSound → (clearUnlatched c o.val t).flasherSound := fun c _ =>
    clearUnlatched_flasherSound c o.val
  exact cleared .stall (cleared .overload (cleared .openLoad (t := { s with outs := _ }) h))

end Sys2Proof.Machine
end

section
/-! PROOFS. The flasher at every step: requests, the router, and each command (R112 to R116, R119, R120). -/

namespace Sys2Proof.Machine

/-! Requests. A WRITE alone reaches links, by the conditions on a slot or a channel (R51, R68, R130). -/

theorem gaugeEntryWritten_flasherSound (g : Fin 4) {s : State} (h : s.flasherSound) : (gaugeEntryWritten g s).flasherSound :=
  resetChannel_flasherSound g (guarded_keeps (P := State.flasherSound) h fun _ => cancelTeach_flasherSound h)

theorem hubWritten_flasherSound (field : Nat) {s : State} (h : s.flasherSound) : (hubWritten field s).flasherSound := by
  unfold hubWritten
  split
  · exact h
  · exact cancelTeach_flasherSound h
  · exact h
  · exact h

theorem podTimeoutWritten_flasherSound (p : Fin 8) {s : State} (h : s.flasherSound) : (podTimeoutWritten p s).flasherSound := by
  unfold podTimeoutWritten
  split <;> exact h

theorem writeEffect_settled (table index field : Nat) : BodySettled (writeEffect table index field) := fun e h => by
  unfold writeEffect
  split
  · split
    · exact setSlot_settled _ _ e h
    · exact h
  · split
    · exact podTimeoutWritten_flasherSound _ h
    · exact h
  · split <;> exact h
  · split
    · exact loadRewritten_flasherSound _ h
    · exact h
  · split
    · exact gaugeEntryWritten_flasherSound _ h
    · exact h
  · exact hubWritten_flasherSound field h
  · exact h

theorem openCurve_flasherSound (c : Fin 8) {s : State} (h : s.flasherSound) : (openCurve c s).flasherSound := by
  have cancelled : (if teachGaugeReads s.tables c then cancelTeach s else s).flasherSound :=
    guarded_keeps (P := State.flasherSound) h fun _ => cancelTeach_flasherSound h
  exact cancelled

theorem services_settled : ServicesKeep State.flasherSound where
  write table index field value e _ h := by
    unfold writeField
    split
    · exact writeEffect_settled _ _ _ _ h
    · exact h
  openCurve c _ _ h := openCurve_flasherSound c h
  closeCurve _ _ _ _ h := h
  commit _ _ _ h := h
  clear _ _ _ h := h
  release _ _ h := h
  restart _ _ h := h
  overrun _ h := h

/-! The router. -/

theorem arrivals_settled : ArrivalsKeep State.flasherSound where
  services := services_settled
  port _ p x h := setPort_flasherSound p x h
  flag _ c i h := clearUnlatched_flasherSound c i h
  report := reportFault_settled
  pod p bits _ h := updatePod_flasherSound p bits h
  slots := updateSlots_settled
  order tag lane _ h := orderEvent_flasherSound tag lane h
  counts _ _ h := h

/-! Every command. -/

/-- The command leaves a settled flasher settled. -/
abbrev CommandSettled (c : Instr) : Prop := CommandKeeps State.flasherSound c

theorem finish_flasherSound (before : State) (e : Ev) (h : e.st.flasherSound) : (finish before e).flasherSound :=
  flasherSound_of_lessReports (finish_lessReports before e) h

/-- A command that is one event. -/
theorem commandSettled_of_body {c : Instr} (f : Ev → Ev) (row : exec c = event f) (body : BodySettled f) : CommandSettled c :=
  fun _ _ h answer => event_keeps finish_flasherSound body h (row ▸ answer)

/-- A request row. -/
theorem commandSettled_of_request {c : Instr} (r : Requester) (code : Nat) (lanes : List Lane)
    (row : exec c = event (anyRequest r code lanes)) : CommandSettled c :=
  commandSettled_of_body _ row (services_settled.anyRequest r code lanes)

/-- After a reset every source is in IDLE with no demand (R113, R157, R158). -/
theorem startState_flasherSound (i : StartInputs) (s : State) : (startState i s).flasherSound :=
  ⟨rfl, rfl, rfl, nofun⟩

theorem supplyReset_flasherSound (i : StartInputs) (s : State) : (supplyReset i s).flasherSound := by
  refine flasherSound_of_lessReports (finish_lessReports _ _) (handOnVs_settled _ ?_)
  have joined : (joinState (startState i s)).flasherSound :=
    flasherSound_of_lessReports (joinState_lessReports _) (startState_flasherSound i s)
  split
  · exact joined
  · exact reportFault_settled _ _ _ _ joined

theorem transmissionCompletion_settled (p : PortId) (i : StartInputs) : CommandSettled (.transmissionCompletion p i) := by
  intro s t h answer
  have sent : BodySettled (Ev.on (completeSending p)) := fun e h =>
    flasherSound_of_lessReports (copyReports_lessReports 16 _) (setPort_flasherSound p _ h)
  change execTransmissionCompletion p i s = .next t at answer
  unfold execTransmissionCompletion at answer
  split at answer
  · split at answer
    · obtain rfl := Host.Outcome.next.inj answer
      exact supplyReset_flasherSound i s
    · exact event_keeps finish_flasherSound sent h answer
  · obtain rfl := Host.Outcome.next.inj answer
    exact h

theorem resetEntry_settled : CommandSettled .resetEntry := by
  intro s t h answer
  obtain rfl := Host.Outcome.next.inj answer
  split
  · exact h
  · exact startState_flasherSound { straps := 0, supply := 0 } s

theorem resetEnd_settled (i : StartInputs) : CommandSettled (.resetEnd i) := by
  intro s t h answer
  obtain rfl := Host.Outcome.next.inj answer
  exact guarded_keeps h fun _ => supplyReset_flasherSound i s

/-- Every command leaves a settled flasher settled. -/
theorem exec_settled (c : Instr) : CommandSettled c := by
  cases c with
  | frameBoundary p => exact commandSettled_of_body _ rfl (arrivals_settled.frameBoundary p)
  | transmitStart p => exact commandSettled_of_body _ rfl fun _ => setPort_flasherSound p _
  | transmissionCompletion p i => exact transmissionCompletion_settled p i
  | resetEntry => exact resetEntry_settled
  | resetEnd i => exact resetEnd_settled i
  | localSample a0 a1 a2 a3 => exact commandSettled_of_body _ rfl fun e => updateSlots_settled _ e
  | slotAgeExpiry k => exact commandSettled_of_body _ rfl fun e h => guarded_bodyKeeps h fun _ => setSlot_settled k _ e h
  | podTimeoutExpiry p => exact commandSettled_of_body _ rfl fun e h => guarded_bodyKeeps h fun _ => podExpired_settled p e h
  | localPinChange i level =>
    intro _ _ h answer
    obtain rfl := Host.Outcome.next.inj answer
    exact h
  | debounceHoldExpiry i => exact commandSettled_of_body _ rfl fun _ h => guarded_keeps h fun _ => inputSettled_flasherSound i h
  | currentSample o tens =>
    exact commandSettled_of_body _ rfl fun e h =>
      checkSample_settled o _ _ (evalConds_flasherSound (affectsCurrent o) (s := { e.st with outs := _ }) h)
  | softStartCount o => exact commandSettled_of_body _ rfl fun _ h => h
  | checkWindowOpen o => exact commandSettled_of_body _ rfl fun _ h => h
  | retryExpiry o => exact commandSettled_of_body _ rfl fun _ h => guarded_keeps h fun _ => h
  | fanSlewStep => exact commandSettled_of_body _ rfl fun _ h => h
  | stallExpiry o => exact commandSettled_of_body _ rfl fun e h => guarded_bodyKeeps h fun _ => reportFault_settled .stall o.val _ e h
  | phaseExpiry i => exact commandSettled_of_body _ rfl fun _ h => guarded_keeps h fun _ => phaseExpired_flasherSound i h
  | gapExpiry o => exact commandSettled_of_body _ rfl fun _ h => guarded_keeps h fun _ => h
  | modulatorStep => exact commandSettled_of_body _ rfl fun _ h => h
  | vsUpdate sample => exact commandSettled_of_body _ rfl fun e h => handOnVs_settled (e.on fun t => { t with supply := _ }) h
  | enterTimerExpiry => exact commandSettled_of_body _ rfl fun _ h => guarded_keeps h fun _ => enterExpired_flasherSound h
  | restoreTimerExpiry => exact commandSettled_of_body _ rfl fun _ h => guarded_keeps h fun _ => restoreExpired_flasherSound h
  | uptimeTick => exact commandSettled_of_body _ rfl fun _ h => h
  | refreshExpiry =>
    exact commandSettled_of_body _ rfl fun _ h => guarded_keeps h fun _ => flasherSound_of_lessReports (stateNeed_lessReports _) h
  | ident r lanes => exact commandSettled_of_request r 0 lanes rfl
  | read r lanes => exact commandSettled_of_request r 1 lanes rfl
  | write r lanes => exact commandSettled_of_request r 2 lanes rfl
  | curvePointWrite r curve field value => exact commandSettled_of_request r 2 _ rfl
  | slotConfigWrite r slot field value => exact commandSettled_of_request r 2 _ rfl
  | podTimeoutWrite r pod value => exact commandSettled_of_request r 2 _ rfl
  | conditionWrite r entry field value => exact commandSettled_of_request r 2 _ rfl
  | loadEntryWrite r output field value => exact commandSettled_of_request r 2 _ rfl
  | gaugeEntryWrite r channel field value => exact commandSettled_of_request r 2 _ rfl
  | detectMaskWrite r value => exact commandSettled_of_request r 2 _ rfl
  | refreshWrite r value => exact commandSettled_of_request r 2 _ rfl
  | teachGaugeWrite r target => exact commandSettled_of_request r 2 _ rfl
  | openCurve r lanes => exact commandSettled_of_request r 3 lanes rfl
  | closeCurve r lanes => exact commandSettled_of_request r 4 lanes rfl
  | commit r lanes => exact commandSettled_of_request r 5 lanes rfl
  | commitCompletion verified => exact commandSettled_of_body _ rfl (completeCommit_settled verified)
  | readLive r lanes => exact commandSettled_of_request r 6 lanes rfl
  | clearFaults r lanes => exact commandSettled_of_request r 7 lanes rfl
  | readCapture r lanes => exact commandSettled_of_request r 8 lanes rfl
  | releaseCapture r lanes => exact commandSettled_of_request r 9 lanes rfl
  | restart r lanes => exact commandSettled_of_request r 10 lanes rfl
  | teachPinChange high =>
    intro _ _ h answer
    obtain rfl := Host.Outcome.next.inj answer
    exact h
  | teachHoldExpiry => exact commandSettled_of_body _ rfl fun _ h => guarded_keeps h fun _ => teachSettled_flasherSound h
  | teachLockoutExpiry => exact commandSettled_of_body _ rfl fun _ h => h
  | windowExpiry => exact commandSettled_of_body _ rfl fun _ h => guarded_keeps h fun _ => cancelTeach_flasherSound h
  | characterStart p b => exact commandSettled_of_body _ rfl fun _ => setPort_flasherSound p _
  | characterFault p => exact commandSettled_of_body _ rfl fun _ => setPort_flasherSound p _

/-- Settles O11: every change of a demand, of IGN or of a phase ends in a settle, and the command queue plays no part in it. -/
theorem flasherStaysSettled : Obligations.FlasherStaysSettled :=
  keptByEveryStep_of_commands (fun _ _ h => h) exec_settled

end Sys2Proof.Machine
end

section
/-! PROOFS. PHASE_EXPIRY: the step of its source, the settle after it, and the outputs that follow (R111, R112, R117 to R125). -/

namespace Sys2Proof.Machine

/-! The sources after the expiry (R111, R112, R117 to R120). -/

/-- The fail test of a side (R118). -/
theorem failing_eq (t : Tables) (f : FaultState) (d : Side) : failing t f d = decide (∃ o : Fin 12,
    (t.loads[o].kind = .indicator ∨ t.loads[o].kind = .stopturn) ∧ t.loads[o].side = d ∧ f.isSet .openLoad o.val = true) := by
  unfold failing LoadEntry.flashedOn
  rw [Bool.eq_iff_iff, List.any_eq_true, decide_eq_true_iff]
  simp only [List.mem_finRange, true_and, Bool.and_eq_true, Bool.or_eq_true, decide_eq_true_eq, and_assoc]

theorem phaseStep_dark (t : Tables) (f : FaultState) (i : SourceId) {x : FlashSource} (h : x.phase = .setup ∨ x.phase = .off) :
    phaseStep t f i x = enterOn t f i x := by
  unfold phaseStep
  rcases h with h | h <;> rw [h]

theorem phaseStep_on (t : Tables) (f : FaultState) (i : SourceId) {x : FlashSource} (h : x.phase = .on) :
    phaseStep t f i x = { x with phase := .off, timer := some (x.cycleLength - x.onLength) } := by
  unfold phaseStep
  rw [h]

theorem phaseStep_trail (t : Tables) (f : FaultState) (i : SourceId) {x : FlashSource} (h : x.phase = .trail) :
    phaseStep t f i x = x.toIdle := by
  unfold phaseStep
  rw [h]

/-- The flasher after the expiry of a phase timer. -/
def phaseSettled (i : SourceId) (s : State) : FlashState :=
  settleFlash s.tables s.faults s.supply.ign (s.flash.stepped s.tables s.faults i)

/-- The step of a settled source leaves the sources as their go signals say, unless it ends HAZARD (R114, R117). -/
theorem phaseSettled_still {i : SourceId} {s : State} (h : sourcesSettled s) (other : i ≠ .hazard ∨ (s.flash.source i).phase ≠ .trail) :
    phaseSettled i s = s.flash.stepped s.tables s.faults i := by
  have kept := stepped_kept s.tables s.faults i s.flash
  have hazard : (s.flash.stepped s.tables s.faults i).hazard.active = s.flash.hazard.active := by
    refine (kept .hazard).2.2.trans ?_
    rw [decide_eq_true (fun own => own ▸ other.resolve_left (not_not.mpr own.symm)), Bool.and_true]
    rfl
  refine settleFlash_still _ _ ((kept .hazard).2.1.trans (h.1.trans (kept .hazard).1.symm)) fun d => ?_
  rw [hazard, side_eq_source, (kept d.sourceId).1, (kept d.sourceId).2.1, ← side_eq_source]
  exact h.2 d

/-- At the end of its TRAIL a source goes to IDLE (R117). -/
theorem phaseSettled_trail {i : SourceId} {s : State} (h : s.flasherSound) (trail : (s.flash.source i).phase = .trail) :
    (phaseSettled i s).source i = (s.flash.source i).toIdle := by
  have settled : sourcesSettled s := ((flasherSound_iff s).mp h).2
  have step : (s.flash.stepped s.tables s.faults i).source i = (s.flash.source i).toIdle :=
    (stepped_source ..).trans (phaseStep_trail _ _ _ trail)
  by_cases hazard : i = .hazard
  · subst hazard
    have off : s.flash.hazard.demand = false := settled.1.symm.trans (by rw [FlashSource.runs, show s.flash.hazard.phase = _ from trail])
    change turn _ _ .hazard ((s.flash.stepped s.tables s.faults .hazard).source .hazard).demand
      ((s.flash.stepped s.tables s.faults .hazard).source .hazard) = _
    rw [step]
    exact turn_still _ _ _ off.symm
  · rw [phaseSettled_still settled (.inl hazard), step]

/-- LEFT and RIGHT start at the end of HAZARD by their go signals (R114, R120). -/
theorem hazardTrail_sides {s : State} (h : s.flasherSound) (trail : s.flash.hazard.phase = .trail) (d : Side) :
    ((phaseSettled .hazard s).side d).active = ((s.flash.side d).demand && s.supply.ign) := by
  have ended : (phaseSettled .hazard s).hazard.active = false := by
    rw [show (phaseSettled .hazard s).hazard = _ from phaseSettled_trail (i := .hazard) h trail]
    rfl
  have idle : (s.flash.side d).active = false :=
    ((flasherSound_iff s).mp h).1.alone (decide_eq_true (by rw [trail]; decide)) d
  have side : (s.flash.stepped s.tables s.faults .hazard).side d = s.flash.side d := by
    cases d <;> rfl
  rw [phaseSettled, settleFlash_side_free _ _ ended d, side]
  exact turn_idle_active _ _ _ _ idle

/-! The outputs after new sources are handed over and the drives computed (R121 to R125). -/

section
variable {s : State} {o : Fin 12} (new : FlashState)

theorem handedOver_out : (handContexts (drives s) new s).outs[o] =
    releasedIf (contextReleases s.tables.loads[o] s.flash new s.outs[o])
      { s.outs[o] with gap := gapAfter s.tables s.tables.loads[o] s.outs[o].drive s.flash new s.outs[o] } := by
  have view := handContexts_view (drives s) new s o
  rw [show (drives s)[o] = s.outs[o].drive from getElem_tabulate_fin _ o] at view
  exact congrArg Prod.fst view

theorem handedOver_redriven : (redriveAll (handContexts (drives s) new s)).outs[o] =
    redrive s.tables.loads[o] new s.supply.ign s.supply.shed (handContexts (drives s) new s).outs[o] := by
  have loads := handContexts_lessLoads (drives s) new s
  have tables : (handContexts (drives s) new s).tables = s.tables := (congrArg State.tables loads :)
  have supply : (handContexts (drives s) new s).supply = s.supply := (congrArg State.supply loads :)
  rw [redriveAll_out, handContexts_flash, tables, supply]

theorem handedOver_flashed (kind : s.tables.loads[o].kind = .indicator ∨ s.tables.loads[o].kind = .stopturn) :
    (redriveAll (handContexts (drives s) new s)).outs[o] =
      flashedOutput s.tables s.flash new s.supply.ign s.tables.loads[o] s.outs[o] := by
  rw [handedOver_redriven, flashedOutput_eq _ _ _ _ _ _ kind, ← handedOver_out]
  rcases kind with kind | kind
  · exact redrive_indicator _ _ _ _ _ kind
  · exact redrive_stopturn _ _ _ _ _ kind

/-- The sources play no part in the drive of another output (R92). -/
theorem wantsDrive_unflashed {e : LoadEntry} (flash flash' : FlashState) (ign : Bool) (shed : Nat) (x : OutLive)
    (kind : e.kind ≠ .indicator ∧ e.kind ≠ .stopturn) : wantsDrive e flash ign shed x = wantsDrive e flash' ign shed x := by
  unfold wantsDrive requested
  cases is : e.kind with
  | indicator => exact absurd is kind.1
  | stopturn => exact absurd is kind.2
  | unused | lamp | stop | fan => rfl

theorem handedOver_other (kind : s.tables.loads[o].kind ≠ .indicator ∧ s.tables.loads[o].kind ≠ .stopturn)
    (requested : wantsDrive s.tables.loads[o] s.flash s.supply.ign s.supply.shed s.outs[o] = s.outs[o].drive) :
    (redriveAll (handContexts (drives s) new s)).outs[o] = s.outs[o] := by
  obtain ⟨stays, gap⟩ := handedOver_unflashed s.tables s.tables.loads[o] s.outs[o].drive s.flash new s.outs[o] kind
  have own : (handContexts (drives s) new s).outs[o] = s.outs[o] := by
    rw [handedOver_out, stays, gap]
    rfl
  rw [handedOver_redriven, own, redrive_asRequested ((wantsDrive_unflashed _ _ _ _ _ kind).trans requested),
    if_neg fun ⟨_, stopturn, _⟩ => kind.2 stopturn]

end

theorem handContexts_choices (before : Vector Bool 12) (new : FlashState) (s : State) : (handContexts before new s).choices = s.choices := by
  unfold handContexts
  dsimp only
  rw [foldl_keeps State.choices]
  intro t o
  split
  · simp [demandOff]
  · rfl

/-! The command. -/

theorem exec_phaseExpiry_stopped {s : State} {i : SourceId} (running : s.inReset = false) (idle : (s.flash.source i).timer = none) :
    exec (.phaseExpiry i) s = .next s := by
  have nothing : ¬ (s.flash.source i).timer.isSome = true := by simp [idle]
  refine (event_running _ s running).trans (congrArg Host.Outcome.next ?_)
  exact (congrArg (afterNeed s) (if_neg nothing)).trans (afterNeed_still rfl rfl rfl)

theorem exec_phaseExpiry {s : State} {i : SourceId} (running : s.inReset = false) (runs : (s.flash.source i).timer ≠ none) :
    exec (.phaseExpiry i) s = .next (afterNeed s (phaseExpired i s)) :=
  (event_running _ s running).trans (congrArg (fun t => Host.Outcome.next (afterNeed s t)) (if_pos (Option.isSome_iff_ne_none.mpr runs)))

/-- What the expiry leaves alone, and the sources and outputs it leaves. -/
theorem phaseExpired_rest (i : SourceId) (s : State) :
    let t := afterNeed s (phaseExpired i s)
    t.flash = phaseSettled i s ∧ t.outs = (redriveAll (handContexts (drives s) (phaseSettled i s) s)).outs ∧
      t.lessLoads.lessReports = s.lessLoads.lessReports ∧ t.choices = s.choices := by
  intro t
  have reports : t.lessReports = (phaseExpired i s).lessReports := afterNeed_lessReports s _
  have loads : (phaseExpired i s).lessLoads = s.lessLoads := handContexts_lessLoads (drives s) (phaseSettled i s) s
  exact ⟨(congrArg State.flash reports :).trans (handContexts_flash _ _ s), (congrArg State.outs reports :),
    (congrArg State.lessLoads reports :).trans (congrArg State.lessReports loads),
    (congrArg State.choices reports :).trans (handContexts_choices _ _ s)⟩

/-- Settles O45: the settle takes up the step of the one source, and the drives are computed from what it leaves. -/
theorem phasesFollowTheirTimers : Obligations.PhasesFollowTheirTimers := by
  unfold Obligations.PhasesFollowTheirTimers
  intro s i running sound x profile fails failLeft failRight cycle lit
  refine ⟨exec_phaseExpiry_stopped running, fun runs => ⟨_, exec_phaseExpiry running runs, ?_⟩⟩
  obtain ⟨flash, outs, rest, choices⟩ := phaseExpired_rest i s
  rw [flash, outs]
  have settled : sourcesSettled s := ((flasherSound_iff s).mp sound).2
  have stepped : i ≠ .hazard ∨ x.phase ≠ .trail → (phaseSettled i s).source i = phaseStep s.tables s.faults i x := fun other => by
    rw [phaseSettled_still settled other, stepped_source]
  refine ⟨fun dark => ?_, fun on => ?_, fun trail => ?_, fun j other stays => ?_, ?_, fun o kind => ?_, fun o indicator stopturn asked => ?_,
    rest, choices⟩
  · have begins : x.phase ≠ .trail := by rcases dark with dark | dark <;> rw [dark] <;> decide
    have test : ∀ d, failing s.tables s.faults d = fails d := failing_eq s.tables s.faults
    rw [stepped (.inr begins), phaseStep_dark _ _ _ dark, enterOn, test, test]
    rfl
  · rw [stepped (.inr (by rw [on]; decide)), phaseStep_on _ _ _ on]
  · rw [phaseSettled_trail sound trail]
    rfl
  · rw [phaseSettled_still settled stays, stepped_other _ _ _ other]
  · rintro rfl trail d
    exact hazardTrail_sides sound trail d
  · exact handedOver_flashed _ kind
  · exact handedOver_other _ ⟨indicator, stopturn⟩ asked

end Sys2Proof.Machine
end
